-- ==== Sys2Proof/Word.lean ====
section
/-! DEFINITION. The 64-bit word of the register space, the byte, and the plainest arithmetic on them. -/

namespace Sys2Proof

/-- A 64-bit register word (00 R14). -/
abbrev Word := BitVec 64

/-- A byte of memory, of a frame or of a message. -/
abbrev Byte := BitVec 8

/-- The field of `w` bits that starts at bit `lo`. -/
def Word.field (x : Word) (lo w : Nat) : Nat := (x.extractLsb' lo w).toNat

/-- The word `x` with the field of `w` bits at bit `lo` replaced by the low `w` bits of `v`. -/
def Word.withField (x : Word) (lo w v : Nat) : Word :=
  (x &&& ~~~((BitVec.allOnes w).setWidth 64 <<< lo)) ||| ((BitVec.ofNat w v).setWidth 64 <<< lo)

/-- `n` held in a counter of `w` bits that saturates. -/
def saturate (w n : Nat) : Nat := min n (2 ^ w - 1)

/-- The signed number that the low `w` bits of `n` spell in two's complement. -/
def signed (w n : Nat) : Int := (BitVec.ofNat w n).toInt

/-- The `w`-bit two's-complement pattern of an integer, as a natural number. -/
def unsigned (w : Nat) (i : Int) : Nat := (BitVec.ofInt w i).toNat

/-- The little-endian bytes of the low `8 * n` bits of `x` (00, Notation: registers and records are little-endian). -/
def leBytes : Nat → Nat → List Byte
  | 0, _ => []
  | n + 1, x => BitVec.ofNat 8 x :: leBytes n (x / 256)

/-- The number that little-endian bytes spell. -/
def leNat : List Byte → Nat
  | [] => 0
  | b :: bs => b.toNat + 256 * leNat bs

/-- The big-endian bytes of the low `8 * n` bits of `x` (wire formats are big-endian). -/
def beBytes (n x : Nat) : List Byte := (leBytes n x).reverse

/-- The number that big-endian bytes spell. -/
def beNat (bs : List Byte) : Nat := leNat bs.reverse

/-- Element `i` of a list, or `d` beyond its end. -/
def nth {α : Type} (l : List α) (i : Nat) (d : α) : α := l.getD i d

/-- The list with element `i` replaced, unchanged when `i` is beyond its end. -/
def setNth {α : Type} (l : List α) (i : Nat) (x : α) : List α := l.set i x

/-- The value listed for key `k` in an association list, if any. -/
def assoc {α β : Type} [DecidableEq α] (l : List (α × β)) (k : α) : Option β :=
  (l.find? (fun e => decide (e.1 = k))).map Prod.snd

/-- The association list with the value of `k` set, the newest entry last. -/
def assocSet {α β : Type} [DecidableEq α] (l : List (α × β)) (k : α) (v : β) : List (α × β) :=
  l.filter (fun e => !decide (e.1 = k)) ++ [(k, v)]

/-- The association list without `k`. -/
def assocDel {α β : Type} [DecidableEq α] (l : List (α × β)) (k : α) : List (α × β) :=
  l.filter (fun e => !decide (e.1 = k))

end Sys2Proof
end

