-- ==== Sys2Proof/Types.lean ====
section
/-! DEFINITION. The names the commands and the state are made of: register places and access codes, paths, roles,
threads, host ports, functions and the operand forms of the commands. -/

namespace Sys2Proof

/-- Each kind of page, and each kind of object that an access window reaches (18 R596, R604). -/
inductive Space where
  | DEVICE
  | DIAL
  | LANEGRP
  | PORT
  | WAKE
  | GLEN
  | GLENSPARE
  | GSLOT
  | GPHYS
  | CLASSIFY
  | DEFILE
  | TABLE
  | BASIN
  | SCHED
  | HOST
  | INST
  | RCTX
  | INSTCTL
  | CRYPTO
  | MOVER
  | STORE
  | EVT
  | HEALTH
  | ROLE
  | SSTORE
  | BOOT
  | CTRLCORE
  | HDR
  | RULE
  | FLOW
  | FLOWBKT
  | ROUTEBKT
  | MACBKT
  | ROUTE
  | MACENT
  | MOVELOG
  | VRF
  | FILTER
  | CELL
  | LEAFREC
  | ECSTAT
  | LEAF
  | NODE
  | ECLASS
  | POLICER
  | GATE
  | GATEENT
  | SA
  | CONN
  | SRC
  | HBMREG
  | BANK
deriving DecidableEq, Repr

/-- The access codes of 00 R15. -/
inductive Acc where
  | ro | rw | rwl | rc | w1c | w1s | cmd
deriving DecidableEq, Repr

/-- One register field as its table in spec/ gives it: its page or object, the 64-bit word of its first instance, the
distance in words and the count of its instances, its bits, its access code and its value after reset. -/
structure Fld where
  sp : Space
  word : Nat
  stride : Nat
  count : Nat
  lo : Nat
  w : Nat
  acc : Acc
  rst : Nat
deriving DecidableEq, Repr

/-- The place of one 64-bit word: the kind of page or object, its unit or index, and the word within it. -/
structure Key where
  sp : Space
  idx : Nat
  word : Nat
deriving DecidableEq, Repr

/-- The three variants (00 R1). -/
inductive Variant where
  | kxd3200 | kxd1600 | kxd0800n
deriving DecidableEq, Repr

/-- The host ports (10 R349). -/
inductive HostPort where
  | a | b
deriving DecidableEq, Repr

/-- 0 for host port A, 1 for host port B. -/
def HostPort.num : HostPort → Nat
  | .a => 0
  | .b => 1

/-- Over which bus an MCTP message comes (16 R535, R549). -/
inductive MctpBus where
  | i3c | vdmA | vdmB
deriving DecidableEq, Repr

/-- The paths by which a register access reaches the device (16 R521, R535). -/
inductive Path where
  | operator (port : HostPort)
  | installer (port : HostPort)
  | mctp (bus : MctpBus)
  | firmware
  | vf (inst : Nat)
deriving DecidableEq, Repr

/-- PATH of a journal record and of PAGE_STATUS: 8 for a tenant's VF (16 R535, 18 R584). -/
def Path.num : Path → Nat
  | .operator p => p.num
  | .installer p => 2 + p.num
  | .mctp .i3c => 4
  | .mctp .vdmA => 5
  | .mctp .vdmB => 6
  | .firmware => 7
  | .vf _ => 8

/-- The bank of a path: MCTP is one path whichever bus carries it (16 R532, 18 R595). -/
def Path.bank : Path → Nat
  | .operator p => p.num
  | .installer p => 2 + p.num
  | .mctp _ => 4
  | .firmware => 5
  | .vf i => 6 + i

/-- Whether the path is a tenant's VF. -/
def Path.isVf : Path → Bool
  | .vf _ => true
  | _ => false

/-- A hardware thread: of a Glen core, or the one thread of a control core (04 R129, 14 R471). -/
inductive ThreadId where
  | glen (g c t : Nat)
  | ctrl (c : Nat)
deriving DecidableEq, Repr

/-- Where the reads of an instruction meet an uncorrectable error: in the program store or the local memory at its fetch, in
these registers of the register file, or in the scratch or local memory that it reads (04 R145; 05 R204; 14 R473). -/
inductive EccSite where
  | program
  | registers (rs : List Nat)
  | memory
deriving DecidableEq, Repr

/-- Which thread issues an instruction, and where one of its reads meets an uncorrectable error, if one does. -/
structure Issue where
  thread : ThreadId
  ecc : Option EccSite := none
deriving DecidableEq, Repr

/-- A hop of a ticket: the number of the ingress or slot, and whether the ticket meets an uncorrectable error, or a parity error
on the dealer or Glen path (15 R494). -/
structure Hop where
  num : Nat
  fabric : Bool := false
deriving DecidableEq, Repr

/-- Memory errors met while a frame is read from the Basin (15 R494, R509, R510). -/
inductive CellFault where
  | none
  /-- Corrected ones in cells `ns` of the chain. -/
  | corrected (ns : List Nat)
  /-- In the data of cell `n` of the chain. -/
  | data (n : Nat)
  /-- In the record of cell `n` of the chain. -/
  | cell (n : Nat)
  /-- In the frame record. -/
  | frame
deriving DecidableEq, Repr

/-- What PCI Express has and a function supports or not (10 R349, R351, R354). -/
inductive PciItem where
  | sriov | ari | acs | aer | msix | flr | msi | intx | ats | pri | pasid | ide | tdisp
  | crsVisibility | tags10 | tags14 | relaxedOrdering | noSnoop | d3hot | aspmL0s | aspmL1 | l0p
deriving DecidableEq, Repr

/-- A field of a function's configuration space (10 R349, R351, R355 to R358; 16 R549; 18 R580). -/
inductive ConfigField where
  /-- 1 where the function supports the item. -/
  | supports (item : PciItem)
  /-- The ACS capability: P2P Request Redirect and P2P Completion Redirect supported. -/
  | acsRequestRedirect | acsCompletionRedirect
  /-- SR-IOV of a PF0: TotalVFs, NumVFs and VF Enable. -/
  | totalVfs | numVfs | vfEnable
  /-- Max Payload Size (0: 128 bytes to 2: 512) and Max Read Request Size (0: 128 bytes to 5: 4,096). -/
  | maxPayload | maxReadRequest
  /-- Power state: 0 is D0 and 3 is D3hot. -/
  | powerState
  /-- The MSI-X capability. -/
  | msixTableSize | msixEnable | msixMask
  /-- Vendor ID, and the base address registers of a PF and of the VFs of a PF0 (16 R549; 18 R580; R356). -/
  | vendorId | bar0 | vfBar0
deriving DecidableEq, Repr

/-- What a configuration request to a function, or an access of a PF's MSI-X table, asks for (10 R349, R357, R385; 17 R563). -/
inductive ConfigOp where
  | read (field : ConfigField)
  | write (field : ConfigField) (value : Nat)
  /-- Entry `vec` of a PF's MSI-X table is read. -/
  | msixRead (vec : Nat)
  /-- The request meets `n` correctable errors that AER logs, and asks for nothing. -/
  | corrected (n : Nat)
  /-- MSI-X Enable and Function Mask are written. -/
  | msixControl (enable mask : Bool)
  /-- Entry `vec` of a PF's MSI-X table is written. -/
  | msixEntry (vec addr data : Nat) (masked : Bool)
deriving DecidableEq, Repr

/-- What a Block Mover channel's reads return in a Notch (13 R450, R451, R454): from host memory and the serial store, the
beats in order, each none where its read failed; from HBM and internal spaces only which of them met an uncorrectable
error. `ahead` is how many further beats it stages from HBM or internal spaces, and `corrected` at which addresses of HBM
the reads met corrected errors. -/
structure MoverRead where
  ch : Nat
  beats : List (Option (List Byte))
  ahead : Nat := 0
  corrected : List Nat := []
deriving DecidableEq, Repr

/-- What a table lookup meets in the table memories: the places corrected, and those found uncorrectable or with
a parity error (06 R227; 07 R274, R275). The places corrected are those that the lookup itself meets in HBM and those that the
engine has corrected in its own work since the lookup before (notes/assumptions/132). -/
structure TableMem where
  corrected : List Key := []
  bad : List Key := []
deriving DecidableEq, Repr

/-- What a window READ meets: the words of the object that cannot be corrected, and those that were corrected (07 R274; 18
R597). -/
structure ReadMem where
  bad : List Nat := []
  corrected : List Nat := []
deriving DecidableEq, Repr

/-- What a write to the serial store meets: whether its program or erase fails on device 0 and on device 1 (16 R540). -/
structure StoreWrite where
  fail0 : Bool := false
  fail1 : Bool := false
deriving DecidableEq, Repr

/-- What a write meets on one of the two devices. -/
structure DeviceWrite where
  fails : Bool := false
deriving DecidableEq, Repr

/-- A write from what it meets on device 0 and on device 1. -/
def StoreWrite.both (w0 w1 : DeviceWrite) : StoreWrite := { fail0 := w0.fails, fail1 := w1.fails }

/-- Where a region of the serial store reads back: on both devices, on device 1 alone, or on neither (16 R540; 17 R564). -/
inductive RegionCopy where
  | first | second | neither
deriving DecidableEq, Repr

/-- What a serial-store device reports through SFDP: its size in Mbit, its uniform erase sector and its program page in bytes, and
which octal modes it has (16 R539; 19 R617). -/
structure Sfdp where
  mbit : Nat := 512
  sector : Nat := 65536
  page : Nat := 256
  octal8D8D8D : Bool := true
  octal1S8D8D : Bool := true
deriving DecidableEq, Repr

/-- What the ROM stage reads (16 R538, R539, R548; 17 R561, R564): for each serial-store device whether it answers and what it
reports, on which of them the regions read back, and the SEQs of journal records that do not read as they were written. -/
structure RomReads where
  present : Bool × Bool := (true, true)
  sfdp : Sfdp × Sfdp := ({ }, { })
  keys : RegionCopy := .first
  identity : RegionCopy := .first
  health : RegionCopy := .first
  signing : Bool × Bool := (true, true)
  journal : Bool × Bool := (true, true)
  badRecords : List Nat × List Nat := ([], [])
  setA : RegionCopy := .first
  setB : RegionCopy := .first
deriving DecidableEq, Repr

/-- A request over MCTP (16 R530, R545, R550, R551; 15 R517; 19 R625). -/
inductive MctpReq where
  | getIdentity
  | getReport (nonce : List Byte) (write : StoreWrite)
  | getChallenge (role slot : Nat)
  | openSession (sig : List Byte)
  | close
  | regRead (page off : Nat)
  | regWrite (page off : Nat) (data : Word)
  | stageChunk (off : Nat) (bytes : List Byte)
  /-- A PLDM firmware update: the component image as received. -/
  | firmware (image : List Byte) (write : StoreWrite)
  /-- A PLDM sensor, and what sensors 2 to 5 measure. -/
  | sensor (id : Nat) (measured : Int)
  | setReceiver (eid : Nat)
  | pollEvent
deriving DecidableEq, Repr

end Sys2Proof
end

