-- ==== Sys2Proof/Syntax.lean ====
section
/-! DEFINITION. The commands of spec/opcode_table.json, one constructor per row, with the operands each takes from outside; those that take none stand last. -/

namespace Sys2Proof

/-- A command of the block. -/
inductive Instr where
  /-- REGISTER_WRITE (R588): A write to a register field that has no row of its own is checked against the path's role and takes effect at the end of its Notch under its access code. -/
  | registerWrite (path : Path) (page off : Nat) (wide : Bool) (data : Word)
  /-- RC_READ (R18): A whole-register read of a register with RC fields returns the start-of-Notch value and clears it, keeping that Notch's increments. -/
  | rcRead (path : Path) (page off : Nat) (wide : Bool)
  /-- ERR_ACK (R498): A write of 1 to ERR_FIRST.VALID acknowledges the page's errors at the end of the Notch. -/
  | errAck (path : Path) (page : Nat)
  /-- SLEW_WRITE (R26): A write of DIAL.SLEW.PPB sets the slew from the next Notch, clamped to ±1,000,000 ppb, and is refused for non-firmware paths while a disciplined source is selected. -/
  | slewWrite (path : Path) (ppb : Word)
  /-- DIAL_CTRL_WRITE (R34): A write of DIAL.CTRL changes the time source at the end of the Notch, checking PTP_PORT when SRC is left at PTP. -/
  | dialCtrlWrite (path : Path) (data : Word)
  /-- SERVO_SAMPLE (R35): A PTP offset measurement or a PPS_IN edge with an accepted time-of-day message is evaluated by the servo and may change the lock state. -/
  | servoSample (offset : Int)
  /-- PPS_IN_EDGE (R38): A rising edge on PPS_IN is time-stamped, held in DIAL.PPS_IN_SEC and NS, counted, and requests event source 80. -/
  | ppsInEdge (sub : Nat)
  /-- TOD_MESSAGE (R40): A time-of-day line on the management UART is accepted for the next PPS_IN edge or discarded as TOD_BAD. -/
  | todMessage (line : List Byte)
  /-- STEP_REL (R45): A relative step of dial time takes effect at the end of its Notch, after alignment and range checks. -/
  | stepRel (path : Path)
  /-- SET_ABS (R45): An absolute set of dial time takes effect at the end of its Notch, after alignment and range checks. -/
  | setAbs (path : Path)
  /-- NOTCH_COUNT_READ (R57): A read of DIAL.NOTCH_COUNT also loads DIAL.LATCH_SEC and LATCH_NS with the dial time at the start of the Notch. -/
  | notchCountRead (path : Path)
  /-- FRAME_RECEIVE (R98): A frame received on a port is judged for runt, MAC control, filters, first cell, length and FCS, and its bytes are written to the Basin. -/
  | frameReceive (port sub : Nat) (chunk : List Byte) (last fcsGood : Bool)
  /-- CELL_GRANT (R292): A free Basin cell is granted to an ingress under its MAX, or a host, crypto or storage ingress waits for one. -/
  | cellGrant (ingress pick : Nat)
  /-- TICKET_CREATE (R65): In the Notch after a frame's header window is complete, the device creates its packet ticket. -/
  | ticketCreate (ingress : Nat)
  /-- DEAL (R231): A dealer stamps SEQ, SLOT and EPOCH and deals a ticket to the next IN_SERVICE slot whose queue is not full. -/
  | deal (hop : Hop)
  /-- DISPATCH (R131): A Glen dispatches the head ticket of its input queue to an idle PACKET thread, clearing its registers and starting it at the packet entry. -/
  | dispatch (hop : Hop)
  /-- DEFILE_ARRIVAL (R236): A ticket reaching the Defile is checked for epoch, held or released in sequence, or released at once if late. -/
  | defileArrival (glen index : Nat) (fabric : Bool)
  /-- HOLE_SKIP (R238): A hole at the head open for 4,096 Notches is skipped and the following tickets are released. -/
  | holeSkip (ingress : Nat)
  /-- ADMISSION (R295): Basin admission takes a released ticket and checks epoch, instance, recirculation, destination, policing and buffer limits before linking it on its leaf. -/
  | admission (hop : Hop)
  /-- EGRESS_REQUEST (R319): At a frame boundary an egress asks the scheduler for a frame, and one selection is made per unpaused class. -/
  | egressRequest (egress : Nat)
  /-- FRAME_START (R326): A chosen frame starts transmission, virtual times, stamps and shaper tokens are updated, and the next head is stamped. -/
  | frameStart (egress sub : Nat) (short : Bool) (fault : CellFault)
  /-- FRAME_COMPLETE (R287): An egress completes a frame, charges the Ledger, and all the frame's cells are freed in the next Notch. -/
  | frameComplete (egress index : Nat) (fault : CellFault)
  /-- AGE_DROP (R306): Expired frames at the head of a leaf examined in the Notch are dropped at level 6. -/
  | ageDrop (leaf : Nat)
  /-- BANK_RETIRED (R309): When the last cell of a retiring bank is freed, the bank is retired and BANK_RETIRED is set. -/
  | bankRetired (bank : Nat)
  /-- APPLY_MODE (R88): The installer applies a lane group's mode, which takes effect at the end of the Notch unless it is refused. -/
  | applyMode (path : Path) (group : Nat)
  /-- RECAL (R97): The installer recalibrates one port, which goes DOWN for at most 50 ms and then trains again. -/
  | recal (path : Path) (group port : Nat)
  /-- LINK_TRAINING_START (R92): A port in service with ADMIN 1 and LINK DOWN moves to TRAINING. -/
  | linkTrainingStart (port : Nat)
  /-- LINK_UP (R92): Auto-negotiation, training and PCS alignment complete and the port's LINK becomes UP. -/
  | linkUp (port : Nat)
  /-- LINK_DOWN (R94): A port loses alignment or declares high symbol errors; the frame in transmission ends errored and pause timers are cleared. -/
  | linkDown (port : Nat)
  /-- ADMIN_DOWN (R95): A write of ADMIN = 0 completes the frame in transmission, takes the link DOWN and drops the port's queued frames. -/
  | adminDown (path : Path) (port : Nat)
  /-- FEC_WINDOW (R96): At the end of each 1 s window the uncorrectable-codeword ratio sets or clears FEC_DEGRADED. -/
  | fecWindow (port corrected uncorrectable received : Nat)
  /-- CAL_DRIFT (R97): The device finds a lane's calibration margin drifted past its limit and sets PORT.EVENTS.CAL_DRIFT. -/
  | calDrift (port lane : Nat) (recalled : Bool)
  /-- PAUSE_RECEIVED (R105): A valid PAUSE frame sets or ends the pause timers of all transmit classes of the port. -/
  | pauseReceived (port : Nat)
  /-- PFC_RECEIVED (R105): A valid PFC frame sets or ends the pause timer of each class named in its class-enable vector. -/
  | pfcReceived (port : Nat)
  /-- PAUSE_TIMER_EXPIRY (R105): A class's pause timer runs out and the class becomes eligible for transmission again. -/
  | pauseTimerExpiry (port cls : Nat)
  /-- FLOW_CONTROL_SEND (R109): A pending PAUSE or PFC frame is sent at the next frame boundary ahead of every class. -/
  | flowControlSend (port : Nat)
  /-- PFC_REFRESH (R108): Every REFRESH Notches while a class stays above XON_CELLS, the XOFF flow-control frame is repeated. -/
  | pfcRefresh (port cls : Nat)
  /-- ENTER_STANDBY (R115): The device takes ports down, closes the Ledger, flushes records and the journal, saves the wake settings and powers down all but the detector. -/
  | enterStandby (path : Path) (write : StoreWrite)
  /-- WAKE_MATCH (R117): A good frame on lane 0 in Standby matches a pattern or magic packet; WAKE# is driven low and a start begins. -/
  | wakeMatch (frame : List Byte) (fcsGood : Bool)
  /-- CORE_STOP (R147): In the Notch after a core stops, the fault is recorded, its tickets leave as CORE_STOPPED drops, and its locks and stages are released. -/
  | coreStop (glen core : Nat)
  /-- CORE_RESTART_AUTO (R148): With AUTO_RESTART set, a stopped core restarts RESTART_DELAY Notches after its stop. -/
  | coreRestartAuto (glen core : Nat)
  /-- RESTART_CORE (R148): The operator restarts a stopped core of a named Glen at the end of the Notch. -/
  | restartCore (path : Path) (phys core : Nat)
  /-- STALL_ALL (R152): A core all-blocked for 64 consecutive Notches is stopped with STALL_ALL. -/
  | stallAll (glen core : Nat)
  /-- STALL_GLEN (R152): A Glen all-blocked for 256 consecutive Notches has every core with a live thread stopped with STALL_GLEN. -/
  | stallGlen (glen : Nat)
  /-- HALT (R155): The debugger halts the selected thread. -/
  | halt (path : Path) (glen : Nat)
  /-- GPHYS_RESUME (R155): The debugger resumes a halted thread from its PC. -/
  | gphysResume (path : Path) (glen : Nat)
  /-- STEP (R155): A halted thread issues exactly one instruction and halts again. -/
  | step (path : Path) (glen : Nat)
  /-- ABORT_STAGE (R155): A halted thread's staged channel words are discarded and the writer lock released. -/
  | abortStage (path : Path) (glen : Nat)
  /-- DROP_TICKET (R155): A halted thread's ticket leaves with ERR DEBUG_DROP and the thread becomes idle. -/
  | dropTicket (path : Path) (glen : Nat)
  /-- BREAK (R155): A thread of the watched core reaching a breakpoint address is halted before it issues, and BREAK is set. -/
  | break_ (glen core thread : Nat)
  /-- HEARTBEAT_SEND (R159): An IN_SERVICE or DRAINING Glen sends a heartbeat in each Notch whose count is a multiple of 1,024. -/
  | heartbeatSend (glen : Nat)
  /-- FILL_START (R162): With AUTO set, a vacant slot starts filling from the lowest SPARE_READY Glen in the Notch after it becomes vacant. -/
  | fillStart (slot : Nat)
  /-- FILL_COMPLETE (R163): A filling Glen finishes loading and the slot becomes IN_SERVICE. -/
  | fillComplete (glen : Nat)
  /-- FILL_FAIL (R164): A fill fails on a memory error, a CRC mismatch, a self-check or its 16,384-Notch limit, and the Glen becomes FAILED. -/
  | fillFail (glen : Nat)
  /-- STAGE_PROG (R169): An image is copied from the command's source into the slot's staged image after its checks. -/
  | stageProg (path : Path) (slot : Nat) (data : Option (List Byte))
  /-- HANDOVER (R168): A slot is moved to a SPARE_READY Glen by filling, draining and switching tenure. -/
  | handover (path : Path) (slot phys : Nat)
  /-- HANDOVER_DRAIN_END (R168): When the old holder has returned every ticket or DRAIN_LIMIT expires, the epoch advances and the target takes the slot. -/
  | handoverDrainEnd (slot : Nat)
  /-- ADMIT (R169): A VACANT slot is filled from a named or lowest SPARE_READY Glen. -/
  | admitGlen (path : Path) (slot phys : Nat)
  /-- SELFTEST (R167): A DEAD, ISOLATED or FAILED Glen is held off the fabric and self-tested. -/
  | selftest (path : Path) (phys : Nat)
  /-- SELFTEST_DONE (R167): A self-test ends, making the Glen SPARE_READY or FAILED. -/
  | selftestDone (glen : Nat) (pass : Bool)
  /-- NOP (R181): No operation. -/
  | nop (at_ : Issue)
  /-- ADD (R181): rd receives ra + rb. -/
  | add (at_ : Issue) (rd ra rb : Nat)
  /-- SUB (R181): rd receives ra − rb. -/
  | sub (at_ : Issue) (rd ra rb : Nat)
  /-- AND (R181): rd receives ra AND rb. -/
  | and_ (at_ : Issue) (rd ra rb : Nat)
  /-- OR (R181): rd receives ra OR rb. -/
  | or_ (at_ : Issue) (rd ra rb : Nat)
  /-- XOR (R181): rd receives ra XOR rb. -/
  | xor (at_ : Issue) (rd ra rb : Nat)
  /-- SHL (R181): rd receives ra shifted left by rb[5:0]. -/
  | shl (at_ : Issue) (rd ra rb : Nat)
  /-- SHR (R181): rd receives ra shifted right, zero-filled. -/
  | shr (at_ : Issue) (rd ra rb : Nat)
  /-- SAR (R181): rd receives ra shifted right, sign-filled. -/
  | sar (at_ : Issue) (rd ra rb : Nat)
  /-- MUL (R181): rd receives the low 64 bits of ra × rb. -/
  | mul (at_ : Issue) (rd ra rb : Nat)
  /-- SLTU (R181): rd receives 1 if ra < rb unsigned. -/
  | sltu (at_ : Issue) (rd ra rb : Nat)
  /-- SLT (R181): rd receives 1 if ra < rb signed. -/
  | slt (at_ : Issue) (rd ra rb : Nat)
  /-- CRC32C (R183): rd receives the CRC-32C register updated with the 8 bytes of rb. -/
  | crc32c (at_ : Issue) (rd ra rb : Nat)
  /-- MINU (R181): rd receives the unsigned smaller of ra and rb. -/
  | minu (at_ : Issue) (rd ra rb : Nat)
  /-- MAXU (R181): rd receives the unsigned larger of ra and rb. -/
  | maxu (at_ : Issue) (rd ra rb : Nat)
  /-- ADDI (R181): rd receives ra + IMM. -/
  | addi (at_ : Issue) (rd ra imm : Nat)
  /-- ANDI (R181): rd receives ra AND IMM. -/
  | andi (at_ : Issue) (rd ra imm : Nat)
  /-- ORI (R181): rd receives ra OR IMM. -/
  | ori (at_ : Issue) (rd ra imm : Nat)
  /-- XORI (R181): rd receives ra XOR IMM. -/
  | xori (at_ : Issue) (rd ra imm : Nat)
  /-- SHLI (R181): rd receives ra shifted left by IMM. -/
  | shli (at_ : Issue) (rd ra imm : Nat)
  /-- SHRI (R181): rd receives ra shifted right by IMM, zero-filled. -/
  | shri (at_ : Issue) (rd ra imm : Nat)
  /-- SARI (R181): rd receives ra shifted right by IMM, sign-filled. -/
  | sari (at_ : Issue) (rd ra imm : Nat)
  /-- MOVI (R181): rd receives the sign-extended IMM. -/
  | movi (at_ : Issue) (rd imm : Nat)
  /-- MOVHI (R181): rd[63:32] receives IMM with rd[31:0] unchanged. -/
  | movhi (at_ : Issue) (rd imm : Nat)
  /-- EXT (R182): rd receives a bit field of ra. -/
  | ext (at_ : Issue) (rd ra imm : Nat)
  /-- INS (R182): A bit field of rd is replaced by the low bits of ra. -/
  | ins (at_ : Issue) (rd ra imm : Nat)
  /-- BCC (R185): The PC branches by IMM instructions when the condition on ra and rb holds. -/
  | bcc (at_ : Issue) (ra rb mod imm : Nat)
  /-- JMP (R184): The PC moves by IMM instructions. -/
  | jmp (at_ : Issue) (imm : Nat)
  /-- CALL (R184): rd receives the return address and the PC moves by IMM instructions. -/
  | call (at_ : Issue) (rd imm : Nat)
  /-- JR (R184): The PC is set to ra. -/
  | jr (at_ : Issue) (ra : Nat)
  /-- LD (R186): A scratch or local-memory load is issued and the thread blocks for its reply. -/
  | ld (at_ : Issue) (rd ra mod imm : Nat)
  /-- ST (R186): The low bytes of rb are stored to scratch or local memory. -/
  | st (at_ : Issue) (ra rb mod imm : Nat)
  /-- AMOADD (R186): An atomic add to an 8-byte scratch word is issued, returning the old value. -/
  | amoadd (at_ : Issue) (rd ra rb imm : Nat)
  /-- SCRATCH_REPLY (R177): A scratch reply arrives and the thread blocked in BLK_REPLY receives its result. -/
  | scratchReply (thread : ThreadId)
  /-- WLD (R190): rd receives a big-endian value from the edited window, possibly setting DEEP. -/
  | wld (at_ : Issue) (rd ra mod imm : Nat)
  /-- WST (R190): Bytes of rb are written big-endian into the window as one edit. -/
  | wst (at_ : Issue) (rd ra rb mod imm : Nat)
  /-- WPUSH (R190): n zero bytes are inserted into the window as one edit. -/
  | wpush (at_ : Issue) (rd ra imm : Nat)
  /-- WPUSHS (R190): n bytes from scratch are inserted into the window as one edit. -/
  | wpushs (at_ : Issue) (rd ra rb imm : Nat)
  /-- WPOP (R190): n bytes are removed from the window as one edit. -/
  | wpop (at_ : Issue) (rd ra imm : Nat)
  /-- WCPY (R190): n bytes from scratch overwrite the window as one edit. -/
  | wcpy (at_ : Issue) (rd ra rb imm : Nat)
  /-- TLD (R194): rd receives a ticket field. -/
  | tld (at_ : Issue) (rd imm : Nat)
  /-- TST (R194): A ticket field receives the low bits of ra. -/
  | tst (at_ : Issue) (ra imm : Nat)
  /-- TLDQ (R194): rd receives a ticket quadword. -/
  | tldq (at_ : Issue) (rd imm : Nat)
  /-- STAT (R196): rd receives the thread status word and the lock-broken condition is cleared. -/
  | stat (at_ : Issue) (rd : Nat)
  /-- CHWR (R139): A word is appended to the thread's stage on a channel, taking or waiting for the writer lock. -/
  | chwr (at_ : Issue) (rb imm : Nat)
  /-- CHCOMMIT (R140): The staged message is committed to the channel FIFO, or the thread waits for room. -/
  | chcommit (at_ : Issue)
  /-- CHRD (R141): The oldest whole message is read into registers, or the thread blocks until one is given. -/
  | chrd (at_ : Issue) (rd cnt imm : Nat)
  /-- CHTRY (R198): As CHRD, returning 0 at once on an empty channel. -/
  | chtry (at_ : Issue) (rd cnt imm : Nat)
  /-- LKACQ (R142): A lock is acquired, or the thread blocks until it is granted. -/
  | lkacq (at_ : Issue) (ra imm : Nat)
  /-- LKREL (R142): A held lock is released and granted to the oldest waiter. -/
  | lkrel (at_ : Issue) (ra imm : Nat)
  /-- LKTRY (R198): A lock is acquired if free, without blocking. -/
  | lktry (at_ : Issue) (rd ra imm : Nat)
  /-- EVPOST (R144): The event count of each named thread of the core is raised by 1. -/
  | evpost (at_ : Issue) (imm : Nat)
  /-- EVWAIT (R144): The thread takes 1 from its event count, waiting while it is 0. -/
  | evwait (at_ : Issue)
  /-- FLOOK (R252): A flow-table lookup is issued and the thread blocks for the reply. -/
  | flook (at_ : Issue) (rd ra cnt imm : Nat) (m : TableMem)
  /-- RLOOK (R266): A longest-prefix route lookup is issued in the ticket's VRF. -/
  | rlook (at_ : Issue) (rd ra mod : Nat) (m : TableMem)
  /-- MLOOK (R268): A MAC table lookup is issued. -/
  | mlook (at_ : Issue) (rd ra : Nat) (m : TableMem)
  /-- MLEARN (R269): A MAC entry is refreshed or inserted under LEARN_EN. -/
  | mlearn (at_ : Issue) (rd ra rb : Nat) (m : TableMem)
  /-- RULE (R224): A wildcard rule-set lookup is issued. -/
  | rule (at_ : Issue) (rd ra cnt imm : Nat) (m : TableMem)
  /-- TABLE_REPLY (R177): A table engine reply arrives and the blocked thread receives its status and result words. -/
  | tableReply (thread : ThreadId)
  /-- EMIT (R203): The thread ends its ticket, which leaves toward the Defile, and the thread becomes idle. -/
  | emit (at_ : Issue)
  /-- TRAP (R203): The core stops with TRAP, or a control core takes a TRAP exception. -/
  | trap (at_ : Issue) (imm : Nat)
  /-- CSRR (R205): rd receives a control register. -/
  | csrr (at_ : Issue) (rd imm : Nat)
  /-- CSRW (R475): A control register receives ra. -/
  | csrw (at_ : Issue) (ra imm : Nat)
  /-- SWINT (R475): A CSRW to SWINT requests software event source 0–63. -/
  | swint (at_ : Issue) (ra : Nat)
  /-- MREQ (R475): A CSRW to MREQ makes one request on Block Mover lines 0–7. -/
  | mreq (at_ : Issue) (ra : Nat)
  /-- ERET (R486): A control core pops its interrupt stack, restores priority and PC, and completes the vector. -/
  | eret (at_ : Issue)
  /-- WFI (R472): A control core waits until an interrupt is presented. -/
  | wfi (at_ : Issue)
  /-- MLD (R205): A control core loads from the internal address space. -/
  | mld (at_ : Issue) (rd ra mod imm : Nat)
  /-- MST (R205): A control core stores to the internal address space. -/
  | mst (at_ : Issue) (ra rb mod imm : Nat)
  /-- FENCE (R205): Earlier MLD and MST complete before any later one. -/
  | fence (at_ : Issue)
  /-- CORE_TIMER (R477): A control core's TIMER reaches the Notch count and requests its source. -/
  | coreTimer (core : Nat)
  /-- INSERT (R256): A table entry is inserted, with relocations if needed. -/
  | insert (path : Path) (table : Nat)
  /-- REPLACE (R277): An entry's data and STATIC are overwritten, or it is inserted. -/
  | replace (path : Path) (table : Nat)
  /-- DELETE (R277): The entry for a key is deleted. -/
  | delete (path : Path) (table : Nat)
  /-- FIND (R277): The index of the entry for a key is returned. -/
  | find (path : Path) (table : Nat)
  /-- DELETE_INDEX (R276): An entry is removed by index without comparing its key. -/
  | deleteIndex (path : Path) (table : Nat)
  /-- REBUILD_BEGIN (R262): A table enters REBUILDING with the migration cursor at the start. -/
  | rebuildBegin (path : Path) (table : Nat)
  /-- MIGRATE (R263): Up to a count of entries are moved from the active bank to the shadow bank. -/
  | migrate (path : Path) (table : Nat)
  /-- SWITCH (R262): The shadow bank becomes active and the table returns to IDLE. -/
  | switch (path : Path) (table : Nat)
  /-- FLUSH (R277): Dynamic or all entries of a flow or MAC table are deleted. -/
  | flush (path : Path) (table : Nat)
  /-- ATTACH_LEAF (R315): A leaf is attached to a node. -/
  | attachLeaf (path : Path) (leaf node : Nat)
  /-- ATTACH_NODE (R315): A node is attached to an egress class. -/
  | attachNode (path : Path) (node egress cls : Nat)
  /-- DETACH_LEAF (R315): A leaf is left unattached. -/
  | detachLeaf (path : Path) (leaf : Nat)
  /-- DETACH_NODE (R315): A node is left unattached. -/
  | detachNode (path : Path) (node : Nat)
  /-- GATE_SWITCH (R341): A gate-list switch is armed for a port-class. -/
  | gateSwitch (path : Path) (port cls : Nat)
  /-- GATE_SWITCHED (R341): At an evaluation meeting the switch conditions, the active gate bank flips. -/
  | gateSwitched (port cls : Nat)
  /-- DOORBELL (R366): A doorbell write advances a ring's producer index, or is discarded as bad or lapping. -/
  | doorbell (inst ring size value : Nat) (descs : List (Option (List Byte))) (ecc : Bool)
  /-- TX_CHAIN_SERVE (R371): A host port reads a posted transmit chain and its data into the Basin. -/
  | txChainServe (port : HostPort) (data : List (Option (List Byte)))
  /-- TX_COMPLETION (R372): A frame's transmit descriptors are completed when its bytes are in the Basin, or on departure or drop when TS_REQ is set. -/
  | txCompletion (ring : Nat)
  /-- RX_HOLD_START (R378): The head of a ring's hold starts when the ring's buffers suffice. -/
  | rxHoldStart (ring : Nat)
  /-- RX_NOBUF (R378): The head of a hold that waited RX_WAIT Notches is dropped. -/
  | rxNobuf (ring : Nat)
  /-- INTERRUPT_RAISE (R384): A ring's vector is raised when PEND reaches MOD.CNT or its age reaches MOD.TIME. -/
  | interruptRaise (ring : Nat)
  /-- RETRAIN (R389): The installer retrains a host link toward the LINK_CFG targets. -/
  | retrain (path : Path) (port : HostPort)
  /-- HOST_LINK_UP (R562): A host link completes training, possibly downtrained. -/
  | hostLinkUp (port : HostPort) (speed width : Nat) (flit : Bool)
  /-- HOST_LINK_DOWN (R349): A host link goes down. -/
  | hostLinkDown (port : HostPort)
  /-- PERST_ASSERT (R353): Assertion of a port's PERST# acts as an FLR of every function of the port. -/
  | perstAssert (port : HostPort)
  /-- PERST_RELEASE (R562): Release of PERST# starts link training on the port. -/
  | perstRelease (port : HostPort)
  /-- CONFIG_REQUEST (R563): A configuration request to a function is served or answered with Request Retry Status. -/
  | configRequest (fn : Nat) (op : ConfigOp)
  /-- PF_FLR (R353): An FLR of a PF resets its configuration space and MSI-X table, or ends an installer session. -/
  | pfFlr (fn : Nat)
  /-- VF_FLR (R401): An FLR of a VF quiesces and resets the instance according to its state. -/
  | vfFlr (inst : Nat)
  /-- ACTIVATE (R396): A FREE instance becomes RUNNING with its counters cleared. -/
  | activate (path : Path) (inst : Nat)
  /-- QUIESCE (R397): An instance starts draining toward QUIESCED. -/
  | quiesce (path : Path) (inst : Nat)
  /-- QUIESCE_DRAIN_DONE (R398): The drain conditions hold and the instance becomes QUIESCED. -/
  | quiesceDrainDone (inst : Nat)
  /-- QUIESCE_FORCED (R399): At the drain bound, outstanding descriptors are aborted and the instance is forced QUIESCED. -/
  | quiesceForced (inst : Nat)
  /-- RESUME (R396): A QUIESCED instance becomes RUNNING. -/
  | resume (path : Path) (inst : Nat)
  /-- FREEZE (R403): A QUIESCED instance becomes FROZEN with its state held. -/
  | freeze (path : Path) (inst : Nat)
  /-- THAW (R396): A FROZEN instance returns to QUIESCED. -/
  | thaw (path : Path) (inst : Nat)
  /-- SAVE (R406): The instance's state image is written to MIG_ADDR. -/
  | save (path : Path) (inst : Nat)
  /-- SAVE_COMPLETE (R406): A SAVE finishes writing its image or fails on the link. -/
  | saveComplete (inst : Nat) (ok : Bool)
  /-- RESTORE (R407): A state image is read from MIG_ADDR for a FREE instance. -/
  | restore (path : Path) (inst : Nat)
  /-- RESTORE_COMPLETE (R408): The read image is checked and loaded, leaving the instance QUIESCED, or FREE on failure. -/
  | restoreComplete (inst : Nat) (data : Option (List Byte)) (descs : List (List (Option (List Byte))))
  /-- RESET (R400): A function-wide reset of a QUIESCED or FROZEN instance. -/
  | reset (path : Path) (inst : Nat)
  /-- REMOVE (R396): An instance is reset and returned to FREE. -/
  | remove (path : Path) (inst : Nat)
  /-- HARVEST (R411): The dirty bitmap is taken and a cleared bitmap started. -/
  | harvest (path : Path) (inst : Nat)
  /-- HARVEST_COMPLETE (R411): The taken bitmap is written to DIRTY_ADDR, or merged back on a link failure. -/
  | harvestComplete (inst : Nat) (ok : Bool)
  /-- LOAD_KEY (R429): Staged key bytes are copied into an SA's key slot and the stage cleared. -/
  | loadKey (path : Path) (sa : Nat)
  /-- CLEAR_KEY (R429): An SA's key slot is zeroed. -/
  | clearKey (path : Path) (sa : Nat)
  /-- POP_EVT (R439): The head entry of the SA event queue is removed. -/
  | popEvt (path : Path)
  /-- CRYPTO_PROCESS (R431): The crypto unit judges a frame and encrypts, decrypts or drops it under its SA. -/
  | cryptoProcess (hit ecc : Bool)
  /-- START (R448): A Block Mover channel reads its first descriptor and becomes ARMED. -/
  | start (path : Path) (ch : Nat) (desc : Option (List Byte))
  /-- CLEAR (R467): A DONE or ERROR channel returns to IDLE. -/
  | clear (path : Path) (ch : Nat)
  /-- SWREQ (R448): A W1S write of MOVER.SWREQ makes one request on a line 8–31. -/
  | swreq (path : Path) (data : Word)
  /-- MOVER_REQUEST (R448): A request on a line triggers an ARMED or WAITING REQUEST channel. -/
  | moverRequest (line : Nat)
  /-- NOTCH_TIMER (R448): A Notch whose count mod PERIOD equals PHASE triggers the channel. -/
  | notchTimer (ch : Nat)
  /-- DIAL_TIME (R448): The first Notch at or after TRIG_SEC and TRIG_NS triggers the channel. -/
  | dialTime (ch : Nat)
  /-- CHAIN (R448): A source channel reaching DONE triggers the chained channel. -/
  | chain (ch : Nat)
  /-- MOVER_BEATS (R450): Each Notch the engine moves up to 128 beats among ACTIVE channels by priority, pre-empting lower ones. -/
  | moverBeats (reads : List MoverRead)
  /-- DESCRIPTOR_COMPLETE (R454): A descriptor completes, its status and CRC are written back, and the channel reads the next or becomes DONE or ERROR. -/
  | descriptorComplete (ch : Nat) (next : Option (List Byte))
  /-- DISABLE (R452): Writing CH.CFG.DISABLE = 1 stops the channel dead at the end of the Notch. -/
  | disable (path : Path) (ch : Nat)
  /-- STORE_PROCESS (R459): The storage unit judges a frame and computes digests, segments or places data. -/
  | storeProcess (entries : List (Option (List Byte))) (ecc : Bool)
  /-- ACKNOWLEDGE (R484): A core acknowledges its outstanding presentation, pushes an entry and jumps to the vector. -/
  | acknowledge (core : Nat)
  /-- SOURCE_COMPLETE (R486): In the Notch after an ERET or HOST_EOI, the source becomes IDLE. -/
  | sourceComplete (src : Nat)
  /-- HOST_DELIVERY (R488): An eligible host-routed source raises its PF MSI-X vector and becomes ACTIVE. -/
  | hostDelivery (src : Nat)
  /-- HOST_EOI (R488): The host completes a host-routed source. -/
  | hostEoi (path : Path) (src : Nat)
  /-- SWSET (R491): A W1S write of EVT.SWSET requests software sources 0–63. -/
  | swset (path : Path) (data : Word)
  /-- CLEAR_REASONS (R516): Named replacement reasons are cleared in a maker session. -/
  | clearReasons (path : Path) (reasons : Nat)
  /-- ENTER_SAFE_HOLD (R502): The installer commands Safe Hold. -/
  | enterSafeHold (path : Path)
  /-- RESET_DEVICE (R559): The installer commands a device-wide reset. -/
  | resetDevice (path : Path)
  /-- REMAP_REGION (R507): An HBM region is remapped to a reserve region. -/
  | remapRegion (path : Path) (stack region : Nat)
  /-- HBM_REMAP_DONE (R507): A remap copy completes. -/
  | hbmRemapDone (stack region : Nat)
  /-- RETIRE_BANK (R509): Retirement of a Basin bank starts. -/
  | retireBank (path : Path) (bank : Nat)
  /-- PHASE_FAIL (R512): An input-converter phase fails; POWER_W falls and GLEN_CLK is lowered. -/
  | phaseFail (phase clk : Nat)
  /-- GET_CHALLENGE (R530): A nonce and counter are issued for a role and slot. -/
  | getChallenge (path : Path) (tag role slot : Nat)
  /-- OPEN (R531): A signed OPEN opens a session or is refused. -/
  | open_ (path : Path) (tag : Nat) (sig : Option (List Byte))
  /-- CLOSE (R533): A session is closed. -/
  | close (path : Path) (tag : Nat)
  /-- SESSION_IDLE_END (R533): A session with no access for IDLE_S ends. -/
  | sessionIdleEnd (path : Path)
  /-- LOCKOUT_END (R532): A locked path is unlocked after 60 s. -/
  | lockoutEnd (path : Path)
  /-- ENROL (R528): A key is enrolled into a slot. -/
  | enrol (path : Path) (cls slot : Nat) (data : Option (List Byte)) (write : StoreWrite)
  /-- REVOKE (R528): An ACTIVE key slot is revoked. -/
  | revoke (path : Path) (cls slot : Nat) (write : StoreWrite)
  /-- JOURNAL_FLUSH (R537): Buffered journal records are written to both serial-store devices. -/
  | journalFlush (n : Nat) (write : StoreWrite)
  /-- INSTALL_FW (R545): A firmware object is checked and written to the inactive slot. -/
  | installFw (path : Path) (src : Nat) (data : Option (List Byte)) (write0 write1 : DeviceWrite)
  /-- INSTALL_SET (R545): A settings package is checked and written to the inactive slot. -/
  | installSet (path : Path) (src : Nat) (data : Option (List Byte)) (write0 write1 : DeviceWrite)
  /-- INSTALL_IDENTITY (R544): An identity and calibration object is checked and written. -/
  | installIdentity (path : Path) (src : Nat) (data : Option (List Byte)) (write0 write1 : DeviceWrite)
  /-- GET_IDENTITY (R550): The endorsement object is returned. -/
  | getIdentity (bus : MctpBus) (tag : Nat)
  /-- GET_REPORT (R553): A signed attestation report is returned. -/
  | getReport (bus : MctpBus) (tag : Nat) (nonce : List Byte) (write : StoreWrite)
  /-- REG_READ (R551): An MCTP register read. -/
  | regRead (bus : MctpBus) (tag page off : Nat)
  /-- REG_WRITE (R551): An MCTP register write with the session's role. -/
  | regWrite (bus : MctpBus) (tag page off : Nat) (data : Word)
  /-- STAGE_CHUNK (R551): Bytes are written into the MCTP staging area. -/
  | stageChunk (bus : MctpBus) (tag off : Nat) (bytes : List Byte)
  /-- PLDM_FIRMWARE_UPDATE (R545): A PLDM firmware update installs a TYPE 1 object. -/
  | pldmFirmwareUpdate (bus : MctpBus) (image : List Byte) (write0 write1 : DeviceWrite)
  /-- GET_SENSOR_READING (R625): A PLDM sensor reading is returned. -/
  | getSensorReading (bus : MctpBus) (id : Nat) (measured : Int)
  /-- SET_EVENT_RECEIVER (R517): The PLDM event receiver is set. -/
  | setEventReceiver (bus : MctpBus) (eid : Nat)
  /-- POLL_FOR_PLATFORM_EVENT (R517): A held PLDM event is returned. -/
  | pollForPlatformEvent (bus : MctpBus)
  /-- POWER_ON (R559): VIN enters its range and a start begins. -/
  | powerOn (strap : Nat)
  /-- ROM (R561): The ROM stage completes. -/
  | rom (reads : RomReads)
  /-- FIRMWARE (R565): The FIRMWARE stage completes or enters RECOVERY. -/
  | firmware (slotA slotB : RegionCopy)
  /-- GLENS (R561): The GLENS stage completes. -/
  | glens (failed : List Nat)
  /-- SWAP_FW (R571): Control firmware is restarted on a named slot. -/
  | swapFw (path : Path) (slot : Nat) (copy : RegionCopy)
  /-- FW_RUNNING (R571): The new firmware reports running and a trial opens. -/
  | fwRunning (accepts : Bool)
  /-- SWAP_TIMEOUT (R571): A swap that does not report running within 100 ms is reverted. -/
  | swapTimeout (step2 : Nat)
  /-- COMMIT_FW (R572): The running slot is committed. -/
  | commitFw (path : Path)
  /-- REVERT_FW (R572): The firmware reverts to the committed slot. -/
  | revertFw (path : Path)
  /-- WDOG_KICK (R573): A device-role write to BOOT.WDOG kicks the watchdog. -/
  | wdogKick (path : Path)
  /-- UPD_HOLD (R592): A write of UPD_CTRL.HOLD = 1 makes the path's later writes held. -/
  | updHold (path : Path) (page : Nat) (drop : Bool)
  /-- UPD_RELEASE (R592): A write of HOLD = 0 releases or discards the held writes. -/
  | updRelease (path : Path) (page : Nat) (drop : Bool)
  /-- READ (R597): A window READ copies an object into the aperture. -/
  | read (path : Path) (page : Nat) (m : ReadMem)
  /-- WRITE (R598): A window WRITE writes the dirty words back to the object. -/
  | write (path : Path) (page : Nat)
  /-- THERMAL_SAMPLE (R623): The case temperature is sampled every 1 ms and acted on. -/
  | thermalSample (temp : Int)
  /-- HEARTBEAT_ARRIVAL (R165): A heartbeat reaches the Defile over the Glen's fabric path; it is recorded for the next check, or, from a DEAD Glen, is discarded, counted in GPHYS.STALE and isolates the Glen. -/
  | heartbeatArrival (glen : Nat)
  /-- LINK_TRAINING_FAIL (R494): Auto-negotiation or link training of a port fails, raising a LINK error and PORT.EVENTS.TRAIN_FAIL. -/
  | linkTrainingFail (port : Nat)
  /-- FUNCTION_WIDE_RESET_COMPLETE (R400): A function-wide reset of an instance, under RESET, REMOVE or a VF FLR, finishes within its bound, and the command reads its final status or the FLR completes. -/
  | functionWideResetComplete (inst : Nat)
  /-- NC_SI_RECEIVE (R477): NC-SI receive data arrives over RBT from the management controller and raises level source 196. -/
  | ncSiReceive (present : Bool)
  /-- CONTROL_CORE_DEBUG_HALT (R490): A debugger halts or resumes a control core, setting or clearing EVT.CORE[c].HALTED and affecting presentation and acknowledgement. -/
  | controlCoreDebugHalt (core : Nat) (halt : Bool)
  /-- NOTCH_TICK (R21): At each Notch boundary the Notch count increments by 1, dial time advances by 64 ns, and inputs changed in the Notch are sampled. -/
  | notchTick
  /-- SRC_TIMEOUT (R35): No valid sample for SRC_TIMEOUT Notches moves LOCKED to HOLDOVER or ACQUIRING to UNLOCKED. -/
  | srcTimeout
  /-- HOLDOVER_END (R35): HOLDOVER_S seconds of dial time without a valid sample move the state from HOLDOVER to UNLOCKED. -/
  | holdoverEnd
  /-- PPS_MISSED (R41): In PPS_TOD mode, no edge within the expected window after the previous edge is counted as missed. -/
  | ppsMissed
  /-- PPS_OUT_RISE (R42): PPS_OUT is driven high at the Notch boundary where dial nanoseconds is 0, advanced by ADV_NS. -/
  | ppsOutRise
  /-- PPS_OUT_FALL (R42): PPS_OUT returns low WIDTH Notches after its rising edge. -/
  | ppsOutFall
  /-- DEFILE_SKIP_LOST (R237): In the Notch after a dead declaration or DRAIN_LOST, the Defile marks lost SEQs as skipped and advances the head. -/
  | defileSkipLost
  /-- BASIN_AGE_SWEEP (R307): Each Notch the sweep visits 64 leaves and drops up to 4 expired head frames from each. -/
  | basinAgeSweep
  /-- WAKE_RELEASE_TIMEOUT (R117): 1 s after STAGE first reads SERVICE, WAKE# is released if not released earlier. -/
  | wakeReleaseTimeout
  /-- HEARTBEAT_CHECK (R159): In each Notch congruent to 512 modulo 1,024, the monitor checks whether each Glen's heartbeat arrived. -/
  | heartbeatCheck
  /-- TABLE_CMD_COMPLETE (R279): The engine completes a table command and its changes become visible from the next Notch. -/
  | tableCmdComplete
  /-- TABLE_AGE_SWEEP (R272): Each Notch 16 flow and 16 MAC entries are visited and expired entries deleted. -/
  | tableAgeSweep
  /-- GATE_EVAL (R340): At level 6 of each Notch the gate of each port-class is evaluated for the next Notch. -/
  | gateEval
  /-- REFILL (R330): In each refill Notch shaper and policer tokens are refilled and pending weight and rate writes take effect. -/
  | refill
  /-- LEDGER_SNAPSHOT (R416): At a minute boundary Notch the open interval closes, records are made for each instance and the next opens. -/
  | ledgerSnapshot
  /-- LEDGER_RECORD_WRITE (R421): A backlogged Ledger record is written into the Ledger ring when enabled, linked and not full. -/
  | ledgerRecordWrite
  /-- LEDGER_LATE (R422): A close whose records are not all written within 10 s sets LATE. -/
  | ledgerLate
  /-- CRYPTO_RETURN (R76): The crypto result returns on ingress 18 with RECIRC incremented. -/
  | cryptoReturn
  /-- STORE_RETURN (R461): The storage unit returns the result or each segment on ingress 19. -/
  | storeReturn
  /-- PRESENTATION (R481): The Concentrator assigns eligible sources to control cores by priority. -/
  | presentation
  /-- SAFE_HOLD_ENTRY (R503): The device enters Safe Hold and stops the data path. -/
  | safeHoldEntry
  /-- ENDPOINT_ID_ASSIGNED (R533): A new MCTP endpoint ID ends the MCTP session and resets its window banks. -/
  | endpointIdAssigned
  /-- UNDERVOLTAGE (R608): VIN below 5.40 V for 10 µs removes every internal rail. -/
  | undervoltage
  /-- SETTINGS (R566): The SETTINGS stage completes. -/
  | settings
  /-- SERVICE (R568): The SERVICE work completes. -/
  | service
  /-- TRIAL_EXPIRY (R572): The trial limit passes and the firmware reverts. -/
  | trialExpiry
  /-- WATCHDOG_EXPIRY (R573): No kick for 1 s restarts the firmware on the committed slot. -/
  | watchdogExpiry
  /-- FW_HANDOVER_TIMEOUT (R571): Step 1 of a firmware swap reaches 312,500 Notches without the running firmware having written its handover state, and the device goes on to stop and restart the control cores without it. -/
  | fwHandoverTimeout
deriving DecidableEq, Repr

end Sys2Proof
end

