-- ==== Sys2Proof/Machine/Crc.lean ====
section
/-! DEFINITION. The cyclic redundancy checks the spec names: CRC-32C and CRC-64 of images, tables and digests, and the
Ethernet FCS (05 R183, R206; 11 R404; 06 R211). -/

namespace Sys2Proof.Machine

/-- A reflected CRC register of any width after eight zero bits have been shifted in: `n` steps. -/
def crcBits (poly : Nat) : Nat → Nat → Nat
  | 0, r => r
  | n + 1, r => crcBits poly n (if r % 2 = 1 then (r / 2) ^^^ poly else r / 2)

/-- A reflected CRC register updated with one byte. -/
def crcByte (poly r : Nat) (b : Byte) : Nat := crcBits poly 8 (r ^^^ b.toNat)

/-- CRC-32C's polynomial 0x1EDC_6F41, reflected (05 R183). -/
def poly32C : Nat := 0x82F63B78

/-- The Ethernet CRC-32's polynomial 0x04C1_1DB7, reflected. -/
def poly32 : Nat := 0xEDB88320

/-- CRC-64's polynomial 0xAD93_D235_94C9_3659, reflected (11 R404). -/
def poly64 : Nat := 0x9A6C9329AC4BC9B5

/-- The CRC-32C register fed bytes, with no inversion (05 R183, crc_step). -/
def crc32cStep (r : Nat) (bs : List Byte) : Nat := bs.foldl (crcByte poly32C) r

/-- CRC-32C, initial value all ones, result inverted (05 R206). -/
def crc32c (bs : List Byte) : Nat := (crc32cStep 0xFFFFFFFF bs) ^^^ 0xFFFFFFFF

/-- The Ethernet frame check sequence. -/
def crc32 (bs : List Byte) : Nat := (bs.foldl (crcByte poly32) 0xFFFFFFFF) ^^^ 0xFFFFFFFF

/-- CRC-64, initial value all ones, result inverted (11 R404). -/
def crc64 (bs : List Byte) : Nat := (bs.foldl (crcByte poly64) 0xFFFFFFFFFFFFFFFF) ^^^ 0xFFFFFFFFFFFFFFFF

end Sys2Proof.Machine
end

