-- ==== Sys2Proof/Machine/Aead.lean ====
section
/-! DEFINITION. The AEADs of the crypto unit: AES-GCM and ChaCha20-Poly1305 (spec/12_crypto.md R426, R432, R433; FIPS 197,
SP 800-38D and RFC 8439, which the standards it names rest on). -/

namespace Sys2Proof.Machine

/-- Bytes combined with as many of a keystream. -/
def xorStream : List Byte → List Byte → List Byte
  | [], _ => []
  | b :: bs, [] => b :: bs
  | b :: bs, k :: ks => (b ^^^ k) :: xorStream bs ks

/-! ### AES (FIPS 197) -/

/-- The S-box, a row of 16 bytes in each number, the first byte lowest. -/
def sboxRows : List Nat := [
  0x76ABD7FE2B670130C56F6BF27B777C63, 0xC072A49CAFA2D4ADF04759FA7DC982CA, 0x1531D871F1E5A534CCF73F362693FDB7,
  0x75B227EBE28012079A059618C323C704, 0x842FE329B3D63B52A05A6E1B1A2C8309, 0xCF584C4A39BECB6A5BB1FC20ED00D153,
  0xA89F3C507F02F94585334D43FBAAEFD0, 0xD2F3FF1021DAB6BCF5389D928F40A351, 0x73195D643D7EA7C41744975FEC130CCD,
  0xDB0B5EDE14B8EE4688902A22DC4F8160, 0x79E4959162ACD3C25C2406490A3A32E0, 0x08AE7A65EAF4566CA94ED58D6D37C8E7,
  0x8A8BBD4B1F74DDE8C6B4A61C2E2578BA, 0x9E1DC186B95735610EF6034866B53E70, 0xDF2855CEE9871E9B948ED9691198F8E1,
  0x16BB54B00F2D99416842E6BF0D89A18C]

/-- SUBBYTES of one byte. -/
def sbox (b : Byte) : Byte := BitVec.ofNat 8 (nth sboxRows (b.toNat / 16) 0 / 256 ^ (b.toNat % 16))

/-- A byte times x in GF(2^8). -/
def xtime (b : Byte) : Byte := (b <<< 1) ^^^ (if b.msb then 0x1B else 0)

/-- SHIFTROWS of a state, column by column. -/
def shiftRows (s : List Byte) : List Byte := (List.range 16).map (fun i => nth s ((i + 4 * (i % 4)) % 16) 0)

/-- MIXCOLUMNS of a state. -/
def mixColumns (s : List Byte) : List Byte :=
  (List.range 16).map (fun i =>
    let a := fun (k : Nat) => nth s (4 * (i / 4) + (i + k) % 4) 0
    xtime (a 0) ^^^ xtime (a 1) ^^^ a 1 ^^^ a 2 ^^^ a 3)

/-- The key words after `i` of them, the newest first, `n` more to come; `nk` is how many words the key has. -/
def expandKey (nk : Nat) : Nat → Nat → Byte → List (List Byte) → List (List Byte)
  | 0, _, _, ws => ws
  | n + 1, i, rcon, ws =>
    let t := nth ws 0 []
    let u :=
      if i % nk = 0 then xorStream ((t.drop 1 ++ t.take 1).map sbox) [rcon]
      else if nk = 8 ∧ i % nk = 4 then t.map sbox else t
    expandKey nk n (i + 1) (if i % nk = 0 then xtime rcon else rcon) (xorStream (nth ws (nk - 1) []) u :: ws)

/-- The round keys of a key of 16 or 32 bytes. -/
def roundKeys (key : List Byte) : List (List Byte) :=
  let nk := key.length / 4
  let ws := (expandKey nk (4 * (nk + 7) - nk) nk 1
    (((List.range nk).map (fun i => (key.drop (4 * i)).take 4)).reverse)).reverse
  (List.range (nk + 7)).map (fun r => ((ws.drop (4 * r)).take 4).flatten)

/-- A block of 16 bytes enciphered. -/
def aesBlock (keys : List (List Byte)) (b : List Byte) : List Byte :=
  let s := (keys.drop 1).dropLast.foldl (fun s k => xorStream (mixColumns (shiftRows (s.map sbox))) k)
    (xorStream b (nth keys 0 []))
  xorStream (shiftRows (s.map sbox)) (nth keys (keys.length - 1) [])

/-! ### GCM (SP 800-38D) -/

/-- A product in GCM's field, of which bit 127 of a number is the constant term; `n` bits of the first factor are left. -/
def gcmMul : Nat → Nat → Nat → Nat → Nat
  | 0, _, _, z => z
  | n + 1, x, v, z =>
    gcmMul n x (if v % 2 = 1 then (v / 2) ^^^ (0xE1 * 2 ^ 120) else v / 2) (if x.testBit n then z ^^^ v else z)

/-- GHASH over `n` blocks of bytes. -/
def ghash (h : Nat) : Nat → Nat → List Byte → Nat
  | 0, y, _ => y
  | n + 1, y, b => ghash h n (gcmMul 128 (y ^^^ beNat (b.take 16)) h 0) (b.drop 16)

/-- Bytes filled with zeros to whole blocks of 16. -/
def pad16 (b : List Byte) : List Byte := b ++ List.replicate ((16 - b.length % 16) % 16) 0

/-- The counter block of a nonce. -/
def gcmCtr (nonce : List Byte) (i : Nat) : List Byte := nonce ++ beBytes 4 i

/-- The keystream of AES-GCM, `n` blocks. -/
def gcmStream (keys : List (List Byte)) (nonce : List Byte) (n : Nat) : List Byte :=
  (List.range n).flatMap (fun i => aesBlock keys (gcmCtr nonce (i + 2)))

/-- The tag of AES-GCM. -/
def gcmTag (keys : List (List Byte)) (nonce aad ct : List Byte) : List Byte :=
  let x := pad16 aad ++ pad16 ct ++ beBytes 8 (8 * aad.length) ++ beBytes 8 (8 * ct.length)
  let s := ghash (beNat (aesBlock keys (List.replicate 16 0))) (x.length / 16) 0 x
  xorStream (beBytes 16 s) (aesBlock keys (gcmCtr nonce 1))

/-! ### ChaCha20-Poly1305 (RFC 8439) -/

/-- The quarter round on four words of a ChaCha state. -/
def quarterRound (s : List (BitVec 32)) (q : Nat × Nat × Nat × Nat) : List (BitVec 32) :=
  let a0 := nth s q.1 0 + nth s q.2.1 0
  let d0 := (nth s q.2.2.2 0 ^^^ a0).rotateLeft 16
  let c0 := nth s q.2.2.1 0 + d0
  let b0 := (nth s q.2.1 0 ^^^ c0).rotateLeft 12
  let a1 := a0 + b0
  let d1 := (d0 ^^^ a1).rotateLeft 8
  let c1 := c0 + d1
  let b1 := (b0 ^^^ c1).rotateLeft 7
  setNth (setNth (setNth (setNth s q.1 a1) q.2.1 b1) q.2.2.1 c1) q.2.2.2 d1

/-- The columns and the diagonals of a double round. -/
def chachaQuarters : List (Nat × Nat × Nat × Nat) :=
  [(0, 4, 8, 12), (1, 5, 9, 13), (2, 6, 10, 14), (3, 7, 11, 15), (0, 5, 10, 15), (1, 6, 11, 12), (2, 7, 8, 13), (3, 4, 9, 14)]

/-- Words of 32 bits from little-endian bytes. -/
def words32 (b : List Byte) : List (BitVec 32) :=
  (List.range (b.length / 4)).map (fun i => BitVec.ofNat 32 (leNat ((b.drop (4 * i)).take 4)))

/-- Block `ctr` of ChaCha20: 64 bytes. -/
def chachaBlock (key nonce : List Byte) (ctr : Nat) : List Byte :=
  let s0 : List (BitVec 32) := [0x61707865, 0x3320646E, 0x79622D32, 0x6B206574] ++ words32 key ++ [BitVec.ofNat 32 ctr] ++ words32 nonce
  let s := (List.range 10).foldl (fun s _ => chachaQuarters.foldl quarterRound s) s0
  (List.range 16).flatMap (fun i => leBytes 4 (nth s i 0 + nth s0 i 0).toNat)

/-- Poly1305 over `n` blocks of bytes. -/
def polyAcc (r : Nat) : Nat → Nat → List Byte → Nat
  | 0, a, _ => a
  | n + 1, a, b => polyAcc r n ((a + leNat (b.take 16 ++ [1])) * r % (2 ^ 130 - 5)) (b.drop 16)

/-- The tag of ChaCha20-Poly1305. -/
def polyTag (key nonce aad ct : List Byte) : List Byte :=
  let otk := chachaBlock key nonce 0
  let r := leNat (otk.take 16) &&& 0x0FFFFFFC0FFFFFFC0FFFFFFC0FFFFFFF
  let x := pad16 aad ++ pad16 ct ++ leBytes 8 aad.length ++ leBytes 8 ct.length
  leBytes 16 ((polyAcc r (x.length / 16) 0 x + leNat ((otk.drop 16).take 16)) % 2 ^ 128)

/-! ### By ALG (R426, R429) -/

/-- A key as the key slot holds it for an ALG: its bytes, zeros where it has fewer. -/
def fullKey (alg : Nat) (key : List Byte) : List Byte :=
  let n := if alg = 0 then 16 else 32
  (key ++ List.replicate n 0).take n

/-- Bytes encrypted or decrypted under an ALG. -/
def aeadXor (alg : Nat) (key nonce x : List Byte) : List Byte :=
  let k := fullKey alg key
  if alg = 2 then xorStream x ((List.range ((x.length + 63) / 64)).flatMap (fun i => chachaBlock k nonce (i + 1)))
  else xorStream x (gcmStream (roundKeys k) nonce ((x.length + 15) / 16))

/-- The 16-byte tag under an ALG. -/
def aeadTag16 (alg : Nat) (key nonce aad ct : List Byte) : List Byte :=
  let k := fullKey alg key
  let t := if alg = 2 then polyTag k nonce aad ct else gcmTag (roundKeys k) nonce aad ct
  (List.range 16).map (fun i => nth t i 0)

end Sys2Proof.Machine
end

