-- ==== Sys2Proof/Machine/Sha3.lean ====
section
/-! DEFINITION. SHAKE256 of FIPS 202, which the spec names for fingerprints, the journal chain and signatures (12 R430;
16 R526, R529, R536). A state of Keccak is one number of 1,600 bits, lane (x, y) at bit 64(5y + x): `forced` and the plain
operations on numbers keep it cheap for the kernel to evaluate. -/

namespace Sys2Proof.Machine

/-- A function of a number, whose value is computed before the function is entered. -/
def forced {α : Type} (n : Nat) (f : Nat → α) : α :=
  match n with
  | 0 => f 0
  | m + 1 => f (Nat.succ m)

/-- The bits of a lane, of a plane of five lanes, and of a state. -/
def laneBits : Nat := 2 ^ 64 - 1
def planeBits : Nat := 2 ^ 320 - 1
def keccakBits : Nat := 2 ^ 1600 - 1

/-- A value in each of the lanes named. -/
def inLanes (l : List Nat) (v : Nat) : Nat := l.foldl (fun a i => Nat.lor a (Nat.shiftLeft v (64 * i))) 0

/-- The lanes of a state whose x is below `n`. -/
def lanesBelow (n : Nat) : List Nat := (List.range 25).filter (fun i => decide (i % 5 < n))

/-- Theta: each bit gains the parity of two columns. -/
def keccakTheta (s : Nat) : Nat :=
  forced (Nat.land (Nat.xor s (Nat.xor (Nat.shiftRight s 320) (Nat.xor (Nat.shiftRight s 640) (Nat.xor (Nat.shiftRight s 960)
    (Nat.shiftRight s 1280))))) planeBits) fun c =>
  forced (Nat.lor (Nat.land (Nat.shiftLeft c 1) (inLanes (List.range 5) (laneBits - 1)))
    (Nat.land (Nat.shiftRight c 63) (inLanes (List.range 5) 1))) fun r =>
  Nat.xor s (Nat.mul (Nat.xor (Nat.land (Nat.lor (Nat.shiftLeft c 64) (Nat.shiftRight c 256)) planeBits)
    (Nat.land (Nat.lor (Nat.shiftRight r 64) (Nat.shiftLeft r 256)) planeBits)) (inLanes [0, 5, 10, 15, 20] 1))

/-- Where pi puts lane `i`: lane (x, y) goes to lane (y, 2x + 3y). -/
def piTo (i : Nat) : Nat := 5 * ((2 * (i % 5) + 3 * (i / 5)) % 5) + i / 5

/-- The lane that rho comes to after `t` of its 24 steps: it starts at lane (1, 0) and goes as pi does (FIPS 202, algorithm 2). -/
def rhoLane : Nat → Nat
  | 0 => 1
  | t + 1 => piTo (rhoLane t)

/-- The lanes that rho rotates by 2^k: those whose step `t` has bit `k` in its offset, (t + 1)(t + 2) / 2. -/
def turnedLanes (k : Nat) : List Nat :=
  ((List.range 24).filter (fun t => ((t + 1) * (t + 2) / 2).testBit k)).map rhoLane

/-- One part of rho: those lanes rotated by 2^k. -/
def keccakTurn (k s : Nat) (f : Nat → Nat) : Nat :=
  forced (Nat.lor (Nat.land s (Nat.sub keccakBits (inLanes (turnedLanes k) laneBits)))
    (Nat.lor (Nat.land (Nat.shiftLeft s (2 ^ k)) (inLanes (turnedLanes k) (laneBits - (2 ^ 2 ^ k - 1))))
      (Nat.land (Nat.shiftRight s (64 - 2 ^ k)) (inLanes (turnedLanes k) (2 ^ 2 ^ k - 1))))) f

/-- The lanes that pi raises by `k` places, and those that it lowers, each at its new place. -/
def raisedLanes (k : Nat) : Nat := inLanes ((List.range 25).filter (fun i => piTo i == i + k)) laneBits
def loweredLanes (k : Nat) : Nat := inLanes ((List.range 25).filter (fun i => piTo i + k == i)) laneBits
def raised (s k : Nat) : Nat := Nat.shiftLeft (Nat.land s (raisedLanes k)) (Nat.mul 64 k)
def lowered (s k : Nat) : Nat := Nat.shiftRight (Nat.land s (loweredLanes k)) (Nat.mul 64 k)

/-- Pi: the lanes that move alike are moved together. -/
def keccakPi (s : Nat) : Nat :=
  Nat.lor (raised s 0) (Nat.lor (raised s 1) (Nat.lor (raised s 2) (Nat.lor (raised s 3) (Nat.lor (raised s 4) (
    Nat.lor (raised s 6) (Nat.lor (raised s 8) (Nat.lor (raised s 9) (Nat.lor (raised s 11) (Nat.lor (raised s 13) (
    Nat.lor (raised s 18) (Nat.lor (lowered s 1) (Nat.lor (lowered s 3) (Nat.lor (lowered s 4) (
    Nat.lor (lowered s 5) (Nat.lor (lowered s 6) (Nat.lor (lowered s 8) (Nat.lor (lowered s 10) (
    Nat.lor (lowered s 13) (Nat.lor (lowered s 15) (lowered s 20))))))))))))))))))))

/-- Rho, then pi. -/
def keccakRhoPi (s : Nat) : Nat :=
  keccakTurn 0 s fun s => keccakTurn 1 s fun s => keccakTurn 2 s fun s => keccakTurn 3 s fun s => keccakTurn 4 s fun s =>
    keccakTurn 5 s keccakPi

/-- Chi: each lane of a plane is combined with the next two. -/
def keccakChi (s : Nat) : Nat :=
  forced (Nat.lor (Nat.land (Nat.shiftRight s 64) (inLanes (lanesBelow 4) laneBits))
    (Nat.shiftLeft (Nat.land s (inLanes (lanesBelow 1) laneBits)) 256)) fun a =>
  forced (Nat.lor (Nat.land (Nat.shiftRight s 128) (inLanes (lanesBelow 3) laneBits))
    (Nat.shiftLeft (Nat.land s (inLanes (lanesBelow 2) laneBits)) 192)) fun b =>
  Nat.xor s (Nat.land (Nat.xor keccakBits a) b)

/-- A step of the shift register behind iota, modulo x^8 + x^6 + x^5 + x^4 + 1, and `n` steps (FIPS 202, algorithm 5). -/
def iotaStep (r : Nat) : Nat := if r.testBit 7 then Nat.xor (Nat.mul 2 r) 0x171 else Nat.mul 2 r
def iotaAfter : Nat → Nat → Nat
  | 0, r => r
  | n + 1, r => forced (iotaStep r) (iotaAfter n)

/-- What iota combines with lane (0, 0) in a round that finds the register at `r`: bit 2^j - 1 is its lowest bit after `j`
steps (algorithm 6). -/
def iotaWord (r : Nat) : Nat := ((List.range 7).map (fun j => (iotaAfter j r % 2) * 2 ^ (2 ^ j - 1))).sum

/-- The words of `n` rounds, of seven steps each. -/
def iotaWords : Nat → Nat → List Nat
  | 0, _ => []
  | n + 1, r => forced (iotaWord r) fun w => forced (iotaAfter 7 r) fun s => w :: iotaWords n s

/-- The rounds whose words of iota are given. -/
def keccakRounds : List Nat → Nat → Nat
  | [], s => s
  | w :: t, s => forced (keccakTheta s) fun a => forced (keccakRhoPi a) fun b => forced (Nat.xor (keccakChi b) w) (keccakRounds t)

/-- Keccak-f[1600]. -/
def keccak (s : Nat) : Nat := keccakRounds (iotaWords 24 1) s

/-- Bytes that SHAKE256 takes in or gives out between two permutations. -/
def shakeRate : Nat := 136

/-- A message with the suffix of SHAKE256 and the padding to whole blocks. -/
def shakePad (m : List Byte) : List Byte :=
  let q := shakeRate - m.length % shakeRate
  if q = 1 then m ++ [0x9F] else m ++ [0x1F] ++ List.replicate (q - 2) 0 ++ [0x80]

/-- The state after `n` blocks of a padded message. -/
def absorb : Nat → Nat → List Byte → Nat
  | 0, s, _ => s
  | n + 1, s, b =>
    forced (Nat.xor s (leNat (b.take shakeRate))) fun x => forced (keccak x) fun y => absorb n y (b.drop shakeRate)

/-- `n` blocks of output from a state. -/
def squeeze : Nat → Nat → List Byte
  | 0, _ => []
  | n + 1, s => leBytes shakeRate s ++ forced (keccak s) (squeeze n)

/-- The first `n` bytes of SHAKE256 of a message. -/
def shake256 (m : List Byte) (n : Nat) : List Byte :=
  let p := shakePad m
  (forced (absorb (p.length / shakeRate) 0 p) (squeeze ((n + shakeRate - 1) / shakeRate))).take n

end Sys2Proof.Machine
end

