-- ==== Sys2Proof/Machine/RegsA.lean ====
section
/-! DEFINITION. The register fields of the pages and window objects DEVICE, DIAL, LANEGRP, PORT, WAKE, GLEN, GLENSPARE, GSLOT, GPHYS, CLASSIFY, DEFILE, TABLE, each with its place, access code and reset value as its table of spec/ gives them.
A field whose value after reset is per start, per page or per variant has 0 here and its own rule in Machine/Store.lean. -/

namespace Sys2Proof.Machine

/-- DEVICE IDENT PART (R4). -/
def R.DEVICE_IDENT_PART : Fld := ⟨.DEVICE, 8, 0, 1, 0, 16, .ro, 0⟩
/-- DEVICE IDENT STEP (R4). -/
def R.DEVICE_IDENT_STEP : Fld := ⟨.DEVICE, 8, 0, 1, 16, 8, .ro, 176⟩
/-- DEVICE CAP LANES (R5). -/
def R.DEVICE_CAP_LANES : Fld := ⟨.DEVICE, 9, 0, 1, 0, 5, .ro, 0⟩
/-- DEVICE CAP LANE_RATE (R5). -/
def R.DEVICE_CAP_LANE_RATE : Fld := ⟨.DEVICE, 9, 0, 1, 5, 3, .ro, 0⟩
/-- DEVICE CAP HOST_A (R5). -/
def R.DEVICE_CAP_HOST_A : Fld := ⟨.DEVICE, 9, 0, 1, 8, 1, .ro, 1⟩
/-- DEVICE CAP HOST_B (R5). -/
def R.DEVICE_CAP_HOST_B : Fld := ⟨.DEVICE, 9, 0, 1, 9, 1, .ro, 0⟩
/-- DEVICE CAP GLENS_ACTIVE (R5). -/
def R.DEVICE_CAP_GLENS_ACTIVE : Fld := ⟨.DEVICE, 9, 0, 1, 10, 5, .ro, 0⟩
/-- DEVICE CAP GLENS_SPARE (R5). -/
def R.DEVICE_CAP_GLENS_SPARE : Fld := ⟨.DEVICE, 9, 0, 1, 15, 3, .ro, 2⟩
/-- DEVICE CAP HBM_STACKS (R5). -/
def R.DEVICE_CAP_HBM_STACKS : Fld := ⟨.DEVICE, 9, 0, 1, 18, 2, .ro, 0⟩
/-- DEVICE CAP CRYPTO (R5). -/
def R.DEVICE_CAP_CRYPTO : Fld := ⟨.DEVICE, 9, 0, 1, 20, 1, .ro, 0⟩
/-- DEVICE CAP STORE (R5). -/
def R.DEVICE_CAP_STORE : Fld := ⟨.DEVICE, 9, 0, 1, 21, 1, .ro, 0⟩
/-- DEVICE CAP FLOW_LOG2 (R5). -/
def R.DEVICE_CAP_FLOW_LOG2 : Fld := ⟨.DEVICE, 9, 0, 1, 22, 5, .ro, 0⟩
/-- DEVICE CAP POWER_MAX (R5). -/
def R.DEVICE_CAP_POWER_MAX : Fld := ⟨.DEVICE, 9, 0, 1, 27, 9, .ro, 0⟩
/-- DEVICE SERIAL (R603). -/
def R.DEVICE_SERIAL : Fld := ⟨.DEVICE, 10, 1, 2, 0, 64, .ro, 0⟩

/-- DIAL CTRL SRC (R55). -/
def R.DIAL_CTRL_SRC : Fld := ⟨.DIAL, 8, 0, 1, 0, 2, .rwl, 0⟩
/-- DIAL CTRL PTP_PORT (R55). -/
def R.DIAL_CTRL_PTP_PORT : Fld := ⟨.DIAL, 8, 0, 1, 2, 4, .rwl, 0⟩
/-- DIAL STATUS STATE (R56). -/
def R.DIAL_STATUS_STATE : Fld := ⟨.DIAL, 9, 0, 1, 0, 3, .ro, 0⟩
/-- DIAL STATUS SRC_ACTIVE (R56). -/
def R.DIAL_STATUS_SRC_ACTIVE : Fld := ⟨.DIAL, 9, 0, 1, 3, 2, .ro, 0⟩
/-- DIAL STATUS STEPS (R56). -/
def R.DIAL_STATUS_STEPS : Fld := ⟨.DIAL, 9, 0, 1, 16, 16, .ro, 0⟩
/-- DIAL STATUS OFFSET_NS (R56). -/
def R.DIAL_STATUS_OFFSET_NS : Fld := ⟨.DIAL, 9, 0, 1, 32, 32, .ro, 0⟩
/-- DIAL SLEW PPB (R58). -/
def R.DIAL_SLEW_PPB : Fld := ⟨.DIAL, 15, 0, 1, 0, 32, .rwl, 0⟩
/-- DIAL STEP_ARG_SEC SEC (R58). -/
def R.DIAL_STEP_ARG_SEC_SEC : Fld := ⟨.DIAL, 16, 0, 1, 0, 48, .rwl, 0⟩
/-- DIAL STEP_ARG_NS NS (R58). -/
def R.DIAL_STEP_ARG_NS_NS : Fld := ⟨.DIAL, 17, 0, 1, 0, 32, .rwl, 0⟩
/-- DIAL STEP_CMD CODE (R58). -/
def R.DIAL_STEP_CMD_CODE : Fld := ⟨.DIAL, 18, 0, 1, 0, 4, .cmd, 0⟩
/-- DIAL STEP_CMD STATUS (R58). -/
def R.DIAL_STEP_CMD_STATUS : Fld := ⟨.DIAL, 18, 0, 1, 8, 4, .cmd, 0⟩
/-- DIAL SERVO_CFG LOCK_THRESH_NS (R59). -/
def R.DIAL_SERVO_CFG_LOCK_THRESH_NS : Fld := ⟨.DIAL, 19, 0, 1, 0, 16, .rwl, 100⟩
/-- DIAL SERVO_CFG STEP_THRESH_US (R59). -/
def R.DIAL_SERVO_CFG_STEP_THRESH_US : Fld := ⟨.DIAL, 19, 0, 1, 16, 16, .rwl, 1000⟩
/-- DIAL SERVO_CFG SRC_TIMEOUT (R59). -/
def R.DIAL_SERVO_CFG_SRC_TIMEOUT : Fld := ⟨.DIAL, 19, 0, 1, 32, 24, .rwl, 15625000⟩
/-- DIAL SERVO_CFG HOLDOVER_S (R59). -/
def R.DIAL_SERVO_CFG_HOLDOVER_S : Fld := ⟨.DIAL, 19, 0, 1, 56, 8, .rwl, 60⟩
/-- DIAL PPS_OUT_CFG EN (R60). -/
def R.DIAL_PPS_OUT_CFG_EN : Fld := ⟨.DIAL, 20, 0, 1, 0, 1, .rwl, 0⟩
/-- DIAL PPS_OUT_CFG IDLE (R60). -/
def R.DIAL_PPS_OUT_CFG_IDLE : Fld := ⟨.DIAL, 20, 0, 1, 1, 1, .rwl, 1⟩
/-- DIAL PPS_OUT_CFG ADV_NS (R60). -/
def R.DIAL_PPS_OUT_CFG_ADV_NS : Fld := ⟨.DIAL, 20, 0, 1, 2, 6, .rwl, 0⟩
/-- DIAL PPS_OUT_CFG WIDTH (R60). -/
def R.DIAL_PPS_OUT_CFG_WIDTH : Fld := ⟨.DIAL, 20, 0, 1, 8, 24, .rwl, 1562500⟩
/-- DIAL PPS_CNT EDGES (R62). -/
def R.DIAL_PPS_CNT_EDGES : Fld := ⟨.DIAL, 23, 0, 1, 0, 16, .rc, 0⟩
/-- DIAL PPS_CNT MISSED (R62). -/
def R.DIAL_PPS_CNT_MISSED : Fld := ⟨.DIAL, 23, 0, 1, 16, 16, .rc, 0⟩
/-- DIAL PPS_CNT TOD_GOOD (R62). -/
def R.DIAL_PPS_CNT_TOD_GOOD : Fld := ⟨.DIAL, 23, 0, 1, 32, 16, .rc, 0⟩
/-- DIAL PPS_CNT TOD_BAD (R62). -/
def R.DIAL_PPS_CNT_TOD_BAD : Fld := ⟨.DIAL, 23, 0, 1, 48, 16, .rc, 0⟩
/-- DIAL EVENTS STEPPED (R63). -/
def R.DIAL_EVENTS_STEPPED : Fld := ⟨.DIAL, 24, 0, 1, 0, 1, .w1c, 0⟩
/-- DIAL EVENTS LOCK_GAINED (R63). -/
def R.DIAL_EVENTS_LOCK_GAINED : Fld := ⟨.DIAL, 24, 0, 1, 1, 1, .w1c, 0⟩
/-- DIAL EVENTS LOCK_LOST (R63). -/
def R.DIAL_EVENTS_LOCK_LOST : Fld := ⟨.DIAL, 24, 0, 1, 2, 1, .w1c, 0⟩
/-- DIAL EVENTS HOLDOVER_END (R63). -/
def R.DIAL_EVENTS_HOLDOVER_END : Fld := ⟨.DIAL, 24, 0, 1, 3, 1, .w1c, 0⟩
/-- DIAL EVENTS PPS_MISSED (R63). -/
def R.DIAL_EVENTS_PPS_MISSED : Fld := ⟨.DIAL, 24, 0, 1, 4, 1, .w1c, 0⟩
/-- DIAL EVENTS TOD_BAD (R63). -/
def R.DIAL_EVENTS_TOD_BAD : Fld := ⟨.DIAL, 24, 0, 1, 5, 1, .w1c, 0⟩
/-- DIAL EVENTS SLEW_CLAMPED (R63). -/
def R.DIAL_EVENTS_SLEW_CLAMPED : Fld := ⟨.DIAL, 24, 0, 1, 6, 1, .w1c, 0⟩
/-- DIAL NOW_SEC SEC (R57). -/
def R.DIAL_NOW_SEC_SEC : Fld := ⟨.DIAL, 10, 0, 1, 0, 48, .ro, 0⟩
/-- DIAL NOW_NS NS (R57). -/
def R.DIAL_NOW_NS_NS : Fld := ⟨.DIAL, 11, 0, 1, 0, 32, .ro, 0⟩
/-- DIAL NOTCH_COUNT (R57). -/
def R.DIAL_NOTCH_COUNT : Fld := ⟨.DIAL, 12, 0, 1, 0, 64, .ro, 0⟩
/-- DIAL LATCH_SEC SEC (R57). -/
def R.DIAL_LATCH_SEC_SEC : Fld := ⟨.DIAL, 13, 0, 1, 0, 48, .ro, 0⟩
/-- DIAL LATCH_NS NS (R57). -/
def R.DIAL_LATCH_NS_NS : Fld := ⟨.DIAL, 14, 0, 1, 0, 32, .ro, 0⟩
/-- DIAL PPS_IN_SEC SEC (R61). -/
def R.DIAL_PPS_IN_SEC_SEC : Fld := ⟨.DIAL, 21, 0, 1, 0, 48, .ro, 0⟩
/-- DIAL PPS_IN_NS NS (R61). -/
def R.DIAL_PPS_IN_NS_NS : Fld := ⟨.DIAL, 22, 0, 1, 0, 32, .ro, 0⟩

/-- LANEGRP MODE GMODE (R118). -/
def R.LANEGRP_MODE_GMODE : Fld := ⟨.LANEGRP, 8, 0, 1, 0, 1, .rwl, 1⟩
/-- LANEGRP MODE QMODE0 (R118). -/
def R.LANEGRP_MODE_QMODE0 : Fld := ⟨.LANEGRP, 8, 0, 1, 1, 3, .rwl, 5⟩
/-- LANEGRP MODE QMODE1 (R118). -/
def R.LANEGRP_MODE_QMODE1 : Fld := ⟨.LANEGRP, 8, 0, 1, 4, 3, .rwl, 5⟩
/-- LANEGRP LINK_CFG MEDIUM (R118). -/
def R.LANEGRP_LINK_CFG_MEDIUM : Fld := ⟨.LANEGRP, 9, 0, 1, 0, 2, .rwl, 0⟩
/-- LANEGRP LINK_CFG AN_EN (R118). -/
def R.LANEGRP_LINK_CFG_AN_EN : Fld := ⟨.LANEGRP, 9, 0, 1, 2, 1, .rwl, 1⟩
/-- LANEGRP LINK_CFG LT_EN (R118). -/
def R.LANEGRP_LINK_CFG_LT_EN : Fld := ⟨.LANEGRP, 9, 0, 1, 3, 1, .rwl, 1⟩
/-- LANEGRP CMD CODE (R118). -/
def R.LANEGRP_CMD_CODE : Fld := ⟨.LANEGRP, 10, 0, 1, 0, 4, .cmd, 0⟩
/-- LANEGRP CMD ARG_PORT (R118). -/
def R.LANEGRP_CMD_ARG_PORT : Fld := ⟨.LANEGRP, 10, 0, 1, 4, 4, .cmd, 0⟩
/-- LANEGRP CMD STATUS (R118). -/
def R.LANEGRP_CMD_STATUS : Fld := ⟨.LANEGRP, 10, 0, 1, 8, 4, .cmd, 0⟩
/-- LANEGRP STATUS (R118). -/
def R.LANEGRP_STATUS : Fld := ⟨.LANEGRP, 11, 0, 1, 0, 7, .ro, 91⟩

/-- PORT CTRL ADMIN (R119). -/
def R.PORT_CTRL_ADMIN : Fld := ⟨.PORT, 8, 0, 1, 0, 1, .rwl, 0⟩
/-- PORT CTRL RX_MAX_LEN (R119). -/
def R.PORT_CTRL_RX_MAX_LEN : Fld := ⟨.PORT, 8, 0, 1, 16, 14, .rwl, 16383⟩
/-- PORT STATUS LINK (R119). -/
def R.PORT_STATUS_LINK : Fld := ⟨.PORT, 9, 0, 1, 0, 2, .ro, 3⟩
/-- PORT STATUS LANES (R119). -/
def R.PORT_STATUS_LANES : Fld := ⟨.PORT, 9, 0, 1, 2, 4, .ro, 0⟩
/-- PORT STATUS TX_PAUSED (R119). -/
def R.PORT_STATUS_TX_PAUSED : Fld := ⟨.PORT, 9, 0, 1, 16, 8, .ro, 0⟩
/-- PORT STATUS FEC_DEGRADED (R119). -/
def R.PORT_STATUS_FEC_DEGRADED : Fld := ⟨.PORT, 9, 0, 1, 24, 1, .ro, 0⟩
/-- PORT FC_CFG RX_MODE (R119). -/
def R.PORT_FC_CFG_RX_MODE : Fld := ⟨.PORT, 10, 0, 1, 0, 1, .rwl, 0⟩
/-- PORT FC_CFG FC_IGNORE (R119). -/
def R.PORT_FC_CFG_FC_IGNORE : Fld := ⟨.PORT, 10, 0, 1, 1, 1, .rwl, 0⟩
/-- PORT FC_CFG TX_MODE (R119). -/
def R.PORT_FC_CFG_TX_MODE : Fld := ⟨.PORT, 10, 0, 1, 2, 2, .rwl, 0⟩
/-- PORT FC_CFG TX_QUANTA (R119). -/
def R.PORT_FC_CFG_TX_QUANTA : Fld := ⟨.PORT, 10, 0, 1, 4, 16, .rwl, 65535⟩
/-- PORT FC_CFG REFRESH (R119). -/
def R.PORT_FC_CFG_REFRESH : Fld := ⟨.PORT, 10, 0, 1, 20, 20, .rwl, 160⟩
/-- PORT FC_CFG PFC_TX_EN (R119). -/
def R.PORT_FC_CFG_PFC_TX_EN : Fld := ⟨.PORT, 10, 0, 1, 40, 8, .rwl, 0⟩
/-- PORT PFC_THRESH XOFF_CELLS (R119). -/
def R.PORT_PFC_THRESH_XOFF_CELLS : Fld := ⟨.PORT, 11, 0, 1, 0, 20, .rwl, 2048⟩
/-- PORT PFC_THRESH XON_CELLS (R119). -/
def R.PORT_PFC_THRESH_XON_CELLS : Fld := ⟨.PORT, 11, 0, 1, 20, 20, .rwl, 1024⟩
/-- PORT TS_CFG RX_EN (R119). -/
def R.PORT_TS_CFG_RX_EN : Fld := ⟨.PORT, 12, 0, 1, 0, 1, .rwl, 0⟩
/-- PORT TS_CFG RX_DELAY_NS (R119). -/
def R.PORT_TS_CFG_RX_DELAY_NS : Fld := ⟨.PORT, 12, 0, 1, 8, 8, .rwl, 0⟩
/-- PORT TS_CFG TX_DELAY_NS (R119). -/
def R.PORT_TS_CFG_TX_DELAY_NS : Fld := ⟨.PORT, 12, 0, 1, 16, 8, .rwl, 0⟩
/-- PORT RX_DEFAULT ACTION (R119). -/
def R.PORT_RX_DEFAULT_ACTION : Fld := ⟨.PORT, 13, 0, 1, 0, 1, .rwl, 0⟩
/-- PORT RX_DEFAULT CLASS_SRC (R119). -/
def R.PORT_RX_DEFAULT_CLASS_SRC : Fld := ⟨.PORT, 13, 0, 1, 1, 1, .rwl, 0⟩
/-- PORT RX_DEFAULT CLASS (R119). -/
def R.PORT_RX_DEFAULT_CLASS : Fld := ⟨.PORT, 13, 0, 1, 2, 3, .rwl, 0⟩
/-- PORT RX_DEFAULT PCP_MAP (R119). -/
def R.PORT_RX_DEFAULT_PCP_MAP : Fld := ⟨.PORT, 13, 0, 1, 5, 24, .rwl, 16434824⟩
/-- PORT EVENTS (R119). -/
def R.PORT_EVENTS : Fld := ⟨.PORT, 48, 0, 1, 0, 6, .w1c, 0⟩
/-- PORT MATCH VALID (R120). -/
def R.PORT_MATCH_VALID : Fld := ⟨.PORT, 16, 2, 16, 0, 1, .rwl, 0⟩
/-- PORT MATCH TAGGED (R120). -/
def R.PORT_MATCH_TAGGED : Fld := ⟨.PORT, 16, 2, 16, 1, 2, .rwl, 0⟩
/-- PORT MATCH VID (R120). -/
def R.PORT_MATCH_VID : Fld := ⟨.PORT, 16, 2, 16, 3, 12, .rwl, 0⟩
/-- PORT MATCH VID_MASK (R120). -/
def R.PORT_MATCH_VID_MASK : Fld := ⟨.PORT, 16, 2, 16, 15, 12, .rwl, 0⟩
/-- PORT MATCH PCP (R120). -/
def R.PORT_MATCH_PCP : Fld := ⟨.PORT, 16, 2, 16, 27, 3, .rwl, 0⟩
/-- PORT MATCH PCP_CARE (R120). -/
def R.PORT_MATCH_PCP_CARE : Fld := ⟨.PORT, 16, 2, 16, 30, 1, .rwl, 0⟩
/-- PORT MATCH ETYPE (R120). -/
def R.PORT_MATCH_ETYPE : Fld := ⟨.PORT, 16, 2, 16, 31, 16, .rwl, 0⟩
/-- PORT MATCH ETYPE_MASK (R120). -/
def R.PORT_MATCH_ETYPE_MASK : Fld := ⟨.PORT, 16, 2, 16, 47, 16, .rwl, 0⟩
/-- PORT ACTION ACTION (R120). -/
def R.PORT_ACTION_ACTION : Fld := ⟨.PORT, 17, 2, 16, 0, 1, .rwl, 0⟩
/-- PORT ACTION CLASS (R120). -/
def R.PORT_ACTION_CLASS : Fld := ⟨.PORT, 17, 2, 16, 1, 3, .rwl, 0⟩
/-- PORT RX_FRAMES (R121). -/
def R.PORT_RX_FRAMES : Fld := ⟨.PORT, 64, 0, 1, 0, 64, .rc, 0⟩
/-- PORT RX_OCTETS (R121). -/
def R.PORT_RX_OCTETS : Fld := ⟨.PORT, 65, 0, 1, 0, 64, .rc, 0⟩
/-- PORT RX_FCS_ERR (R121). -/
def R.PORT_RX_FCS_ERR : Fld := ⟨.PORT, 66, 0, 1, 0, 64, .rc, 0⟩
/-- PORT RX_RUNT (R121). -/
def R.PORT_RX_RUNT : Fld := ⟨.PORT, 67, 0, 1, 0, 64, .rc, 0⟩
/-- PORT RX_OVERSIZE (R121). -/
def R.PORT_RX_OVERSIZE : Fld := ⟨.PORT, 68, 0, 1, 0, 64, .rc, 0⟩
/-- PORT RX_FILTER_DROP (R121). -/
def R.PORT_RX_FILTER_DROP : Fld := ⟨.PORT, 69, 0, 1, 0, 64, .rc, 0⟩
/-- PORT RX_NOCELL (R121). -/
def R.PORT_RX_NOCELL : Fld := ⟨.PORT, 70, 0, 1, 0, 64, .rc, 0⟩
/-- PORT RX_PAUSE (R121). -/
def R.PORT_RX_PAUSE : Fld := ⟨.PORT, 71, 0, 1, 0, 64, .rc, 0⟩
/-- PORT RX_PFC (R121). -/
def R.PORT_RX_PFC : Fld := ⟨.PORT, 72, 0, 1, 0, 64, .rc, 0⟩
/-- PORT RX_FC_IGNORED (R121). -/
def R.PORT_RX_FC_IGNORED : Fld := ⟨.PORT, 73, 0, 1, 0, 64, .rc, 0⟩
/-- PORT RX_MACCTL_OTHER (R121). -/
def R.PORT_RX_MACCTL_OTHER : Fld := ⟨.PORT, 74, 0, 1, 0, 64, .rc, 0⟩
/-- PORT TX_FRAMES (R121). -/
def R.PORT_TX_FRAMES : Fld := ⟨.PORT, 75, 0, 1, 0, 64, .rc, 0⟩
/-- PORT TX_OCTETS (R121). -/
def R.PORT_TX_OCTETS : Fld := ⟨.PORT, 76, 0, 1, 0, 64, .rc, 0⟩
/-- PORT TX_ERR_END (R121). -/
def R.PORT_TX_ERR_END : Fld := ⟨.PORT, 77, 0, 1, 0, 64, .rc, 0⟩
/-- PORT TX_UNDERRUN (R121). -/
def R.PORT_TX_UNDERRUN : Fld := ⟨.PORT, 78, 0, 1, 0, 64, .rc, 0⟩
/-- PORT TX_PAUSE (R121). -/
def R.PORT_TX_PAUSE : Fld := ⟨.PORT, 79, 0, 1, 0, 64, .rc, 0⟩
/-- PORT TX_PFC (R121). -/
def R.PORT_TX_PFC : Fld := ⟨.PORT, 80, 0, 1, 0, 64, .rc, 0⟩
/-- PORT TX_DOWN_DROP (R121). -/
def R.PORT_TX_DOWN_DROP : Fld := ⟨.PORT, 81, 0, 1, 0, 64, .rc, 0⟩
/-- PORT FEC_CORR_CW (R121). -/
def R.PORT_FEC_CORR_CW : Fld := ⟨.PORT, 82, 0, 1, 0, 64, .rc, 0⟩
/-- PORT FEC_UNCORR_CW (R121). -/
def R.PORT_FEC_UNCORR_CW : Fld := ⟨.PORT, 83, 0, 1, 0, 64, .rc, 0⟩
/-- PORT TX_PAUSED_NOTCHES (R121). -/
def R.PORT_TX_PAUSED_NOTCHES : Fld := ⟨.PORT, 84, 1, 8, 0, 64, .rc, 0⟩

/-- WAKE CTRL PAT_EN (R122). -/
def R.WAKE_CTRL_PAT_EN : Fld := ⟨.WAKE, 8, 0, 1, 0, 8, .rwl, 0⟩
/-- WAKE CTRL MAGIC_EN (R122). -/
def R.WAKE_CTRL_MAGIC_EN : Fld := ⟨.WAKE, 8, 0, 1, 8, 1, .rwl, 0⟩
/-- WAKE MAGIC_MAC MAC (R122). -/
def R.WAKE_MAGIC_MAC_MAC : Fld := ⟨.WAKE, 9, 0, 1, 0, 48, .rwl, 0⟩
/-- WAKE CMD CODE (R122). -/
def R.WAKE_CMD_CODE : Fld := ⟨.WAKE, 10, 0, 1, 0, 4, .cmd, 0⟩
/-- WAKE CMD STATUS (R122). -/
def R.WAKE_CMD_STATUS : Fld := ⟨.WAKE, 10, 0, 1, 8, 4, .cmd, 0⟩
/-- WAKE CAUSE CAUSE (R122). -/
def R.WAKE_CAUSE_CAUSE : Fld := ⟨.WAKE, 11, 0, 1, 0, 2, .ro, 0⟩
/-- WAKE CAUSE PATTERN (R122). -/
def R.WAKE_CAUSE_PATTERN : Fld := ⟨.WAKE, 11, 0, 1, 2, 3, .ro, 0⟩
/-- WAKE PATTERN (R122). -/
def R.WAKE_PATTERN : Fld := ⟨.WAKE, 32, 1, 128, 0, 64, .rwl, 0⟩
/-- WAKE MASK (R122). -/
def R.WAKE_MASK : Fld := ⟨.WAKE, 160, 1, 16, 0, 64, .rwl, 0⟩
/-- WAKE LENGTH LEN (R122); after reset 1 (DESIGN CHOICE, notes/assumptions/5). -/
def R.WAKE_LENGTH_LEN : Fld := ⟨.WAKE, 176, 1, 8, 0, 8, .rwl, 1⟩

/-- GLEN CMD CODE (R170). -/
def R.GLEN_CMD_CODE : Fld := ⟨.GLEN, 8, 0, 1, 0, 4, .cmd, 0⟩
/-- GLEN CMD ARG_SLOT (R170). -/
def R.GLEN_CMD_ARG_SLOT : Fld := ⟨.GLEN, 8, 0, 1, 4, 4, .cmd, 0⟩
/-- GLEN CMD ARG_PHYS (R170). -/
def R.GLEN_CMD_ARG_PHYS : Fld := ⟨.GLEN, 8, 0, 1, 8, 5, .cmd, 0⟩
/-- GLEN CMD ARG_CORE (R170). -/
def R.GLEN_CMD_ARG_CORE : Fld := ⟨.GLEN, 8, 0, 1, 13, 5, .cmd, 0⟩
/-- GLEN CMD STATUS (R170). -/
def R.GLEN_CMD_STATUS : Fld := ⟨.GLEN, 8, 0, 1, 20, 4, .cmd, 0⟩
/-- GLEN STALE_DROP (R170). -/
def R.GLEN_STALE_DROP : Fld := ⟨.GLEN, 9, 0, 1, 0, 64, .rc, 0⟩
/-- GLEN LOST_TICKETS (R170). -/
def R.GLEN_LOST_TICKETS : Fld := ⟨.GLEN, 10, 0, 1, 0, 64, .rc, 0⟩
/-- GLEN EVENTS (R170). -/
def R.GLEN_EVENTS : Fld := ⟨.GLEN, 11, 0, 1, 0, 7, .w1c, 0⟩
/-- GLEN DRAIN_LIMIT NOTCHES (R170). -/
def R.GLEN_DRAIN_LIMIT_NOTCHES : Fld := ⟨.GLEN, 12, 0, 1, 0, 16, .rw, 2048⟩
/-- GLEN SLOT PHYS (R170). -/
def R.GLEN_SLOT_PHYS : Fld := ⟨.GLEN, 32, 1, 16, 0, 5, .ro, 0⟩
/-- GLEN SLOT EPOCH (R170). -/
def R.GLEN_SLOT_EPOCH : Fld := ⟨.GLEN, 32, 1, 16, 5, 8, .ro, 0⟩
/-- GLEN SLOT STATE (R170). -/
def R.GLEN_SLOT_STATE : Fld := ⟨.GLEN, 32, 1, 16, 13, 2, .ro, 0⟩

/-- GLENSPARE POLICY AUTO (R170). -/
def R.GLENSPARE_POLICY_AUTO : Fld := ⟨.GLENSPARE, 8, 0, 1, 0, 1, .rwl, 1⟩

/-- GSLOT PROG_ADDR ADDR (R171). -/
def R.GSLOT_PROG_ADDR_ADDR : Fld := ⟨.GSLOT, 8, 0, 1, 0, 64, .rw, 0⟩
/-- GSLOT PROG_INFO LEN (R171). -/
def R.GSLOT_PROG_INFO_LEN : Fld := ⟨.GSLOT, 9, 0, 1, 0, 19, .rw, 0⟩
/-- GSLOT PROG_INFO STAGED (R171). -/
def R.GSLOT_PROG_INFO_STAGED : Fld := ⟨.GSLOT, 9, 0, 1, 19, 1, .ro, 0⟩
/-- GSLOT PROG_INFO CFG_PENDING (R171). -/
def R.GSLOT_PROG_INFO_CFG_PENDING : Fld := ⟨.GSLOT, 9, 0, 1, 20, 1, .ro, 0⟩
/-- GSLOT PROG_CRC CUR (R171). -/
def R.GSLOT_PROG_CRC_CUR : Fld := ⟨.GSLOT, 10, 0, 1, 0, 32, .ro, 0⟩
/-- GSLOT PROG_CRC STAGED (R171). -/
def R.GSLOT_PROG_CRC_STAGED : Fld := ⟨.GSLOT, 10, 0, 1, 32, 32, .ro, 0⟩
/-- GSLOT ENTRY PACKET (R171). -/
def R.GSLOT_ENTRY_PACKET : Fld := ⟨.GSLOT, 11, 0, 1, 0, 18, .rw, 0⟩
/-- GSLOT ENTRY SERVICE (R171). -/
def R.GSLOT_ENTRY_SERVICE : Fld := ⟨.GSLOT, 11, 0, 1, 32, 18, .rw, 0⟩
/-- GSLOT CORE_POLICY AUTO_RESTART (R171). -/
def R.GSLOT_CORE_POLICY_AUTO_RESTART : Fld := ⟨.GSLOT, 12, 0, 1, 0, 1, .rw, 1⟩
/-- GSLOT CORE_POLICY RESTART_DELAY (R171). -/
def R.GSLOT_CORE_POLICY_RESTART_DELAY : Fld := ⟨.GSLOT, 12, 0, 1, 8, 16, .rw, 16⟩
/-- GSLOT CORE_CFG MODE (R171). -/
def R.GSLOT_CORE_CFG_MODE : Fld := ⟨.GSLOT, 32, 1, 32, 0, 16, .rw, 21845⟩
/-- GSLOT CORE_CFG ISSUE (R171). -/
def R.GSLOT_CORE_CFG_ISSUE : Fld := ⟨.GSLOT, 32, 1, 32, 16, 48, .rw, 275730608604808⟩

/-- GPHYS STATUS STATE (R172). -/
def R.GPHYS_STATUS_STATE : Fld := ⟨.GPHYS, 8, 0, 1, 0, 4, .ro, 0⟩
/-- GPHYS STATUS SLOT (R172). -/
def R.GPHYS_STATUS_SLOT : Fld := ⟨.GPHYS, 8, 0, 1, 4, 4, .ro, 0⟩
/-- GPHYS STATUS EPOCH (R172). -/
def R.GPHYS_STATUS_EPOCH : Fld := ⟨.GPHYS, 8, 0, 1, 8, 8, .ro, 0⟩
/-- GPHYS STATUS CORES_RUN (R172). -/
def R.GPHYS_STATUS_CORES_RUN : Fld := ⟨.GPHYS, 8, 0, 1, 16, 32, .ro, 0⟩
/-- GPHYS STATUS HALTED (R172). -/
def R.GPHYS_STATUS_HALTED : Fld := ⟨.GPHYS, 8, 0, 1, 48, 1, .ro, 0⟩
/-- GPHYS HB LAST (R172). -/
def R.GPHYS_HB_LAST : Fld := ⟨.GPHYS, 9, 0, 1, 0, 32, .ro, 0⟩
/-- GPHYS HB MISSES (R172). -/
def R.GPHYS_HB_MISSES : Fld := ⟨.GPHYS, 9, 0, 1, 32, 3, .ro, 0⟩
/-- GPHYS LOST (R172). -/
def R.GPHYS_LOST : Fld := ⟨.GPHYS, 10, 0, 1, 0, 64, .rc, 0⟩
/-- GPHYS STALE (R172). -/
def R.GPHYS_STALE : Fld := ⟨.GPHYS, 11, 0, 1, 0, 64, .rc, 0⟩
/-- GPHYS FAULTS (R172). -/
def R.GPHYS_FAULTS : Fld := ⟨.GPHYS, 12, 0, 1, 0, 64, .rc, 0⟩
/-- GPHYS DBG_SEL CORE (R172). -/
def R.GPHYS_DBG_SEL_CORE : Fld := ⟨.GPHYS, 13, 0, 1, 0, 5, .rw, 0⟩
/-- GPHYS DBG_SEL THREAD (R172). -/
def R.GPHYS_DBG_SEL_THREAD : Fld := ⟨.GPHYS, 13, 0, 1, 5, 3, .rw, 0⟩
/-- GPHYS DBG_CMD CODE (R172). -/
def R.GPHYS_DBG_CMD_CODE : Fld := ⟨.GPHYS, 14, 0, 1, 0, 4, .cmd, 0⟩
/-- GPHYS DBG_CMD STATUS (R172). -/
def R.GPHYS_DBG_CMD_STATUS : Fld := ⟨.GPHYS, 14, 0, 1, 8, 4, .cmd, 0⟩
/-- GPHYS DBG_STATE STATE (R172). -/
def R.GPHYS_DBG_STATE_STATE : Fld := ⟨.GPHYS, 15, 0, 1, 0, 4, .ro, 0⟩
/-- GPHYS DBG_STATE HALTED (R172). -/
def R.GPHYS_DBG_STATE_HALTED : Fld := ⟨.GPHYS, 15, 0, 1, 4, 1, .ro, 0⟩
/-- GPHYS DBG_STATE PC (R172). -/
def R.GPHYS_DBG_STATE_PC : Fld := ⟨.GPHYS, 15, 0, 1, 8, 18, .ro, 0⟩
/-- GPHYS DBG_STATE LOCKS (R172). -/
def R.GPHYS_DBG_STATE_LOCKS : Fld := ⟨.GPHYS, 15, 0, 1, 26, 4, .ro, 0⟩
/-- GPHYS DBG_STATE STAGE_OPEN (R172). -/
def R.GPHYS_DBG_STATE_STAGE_OPEN : Fld := ⟨.GPHYS, 15, 0, 1, 30, 1, .ro, 0⟩
/-- GPHYS DBG_STATE STAGE_CHAN (R172). -/
def R.GPHYS_DBG_STATE_STAGE_CHAN : Fld := ⟨.GPHYS, 15, 0, 1, 32, 6, .ro, 0⟩
/-- GPHYS DBG_STATE STAGE_WORDS (R172). -/
def R.GPHYS_DBG_STATE_STAGE_WORDS : Fld := ⟨.GPHYS, 15, 0, 1, 38, 5, .ro, 0⟩
/-- GPHYS DBG_STATE WAIT_OBJ (R172). -/
def R.GPHYS_DBG_STATE_WAIT_OBJ : Fld := ⟨.GPHYS, 15, 0, 1, 45, 13, .ro, 0⟩
/-- GPHYS BRK EN (R172). -/
def R.GPHYS_BRK_EN : Fld := ⟨.GPHYS, 16, 1, 4, 0, 1, .rw, 0⟩
/-- GPHYS BRK CORE (R172). -/
def R.GPHYS_BRK_CORE : Fld := ⟨.GPHYS, 16, 1, 4, 1, 5, .rw, 0⟩
/-- GPHYS BRK ADDR (R172). -/
def R.GPHYS_BRK_ADDR : Fld := ⟨.GPHYS, 16, 1, 4, 8, 18, .rw, 0⟩
/-- GPHYS EVENTS (R172). -/
def R.GPHYS_EVENTS : Fld := ⟨.GPHYS, 20, 0, 1, 0, 2, .w1c, 0⟩
/-- GPHYS CORE_FAULT CODE (R172). -/
def R.GPHYS_CORE_FAULT_CODE : Fld := ⟨.GPHYS, 64, 2, 32, 0, 8, .ro, 0⟩
/-- GPHYS CORE_FAULT THREAD (R172). -/
def R.GPHYS_CORE_FAULT_THREAD : Fld := ⟨.GPHYS, 64, 2, 32, 8, 3, .ro, 0⟩
/-- GPHYS CORE_FAULT PC (R172). -/
def R.GPHYS_CORE_FAULT_PC : Fld := ⟨.GPHYS, 64, 2, 32, 12, 18, .ro, 0⟩
/-- GPHYS CORE_FAULT NOTCH (R172). -/
def R.GPHYS_CORE_FAULT_NOTCH : Fld := ⟨.GPHYS, 64, 2, 32, 32, 32, .ro, 0⟩
/-- GPHYS CORE_FAULT DETAIL (R172). -/
def R.GPHYS_CORE_FAULT_DETAIL : Fld := ⟨.GPHYS, 65, 2, 32, 0, 64, .ro, 0⟩

/-- CLASSIFY ROWS_USED (R243). -/
def R.CLASSIFY_ROWS_USED : Fld := ⟨.CLASSIFY, 8, 0, 1, 0, 18, .ro, 0⟩
/-- CLASSIFY LOOKUPS (R243). -/
def R.CLASSIFY_LOOKUPS : Fld := ⟨.CLASSIFY, 9, 0, 1, 0, 64, .rc, 0⟩
/-- CLASSIFY ECC_MISS (R243). -/
def R.CLASSIFY_ECC_MISS : Fld := ⟨.CLASSIFY, 10, 0, 1, 0, 64, .rc, 0⟩
/-- CLASSIFY ZERO_PROFILE (R243). -/
def R.CLASSIFY_ZERO_PROFILE : Fld := ⟨.CLASSIFY, 16, 1, 8, 0, 64, .rw, 0⟩
/-- CLASSIFY RULESET VALID (R243). -/
def R.CLASSIFY_RULESET_VALID : Fld := ⟨.CLASSIFY, 256, 1, 256, 0, 1, .rw, 0⟩
/-- CLASSIFY RULESET KEY_WORDS (R243). -/
def R.CLASSIFY_RULESET_KEY_WORDS : Fld := ⟨.CLASSIFY, 256, 1, 256, 1, 3, .rw, 0⟩
/-- CLASSIFY RULESET ZPROF (R243). -/
def R.CLASSIFY_RULESET_ZPROF : Fld := ⟨.CLASSIFY, 256, 1, 256, 4, 3, .rw, 0⟩
/-- CLASSIFY RULESET BASE (R243). -/
def R.CLASSIFY_RULESET_BASE : Fld := ⟨.CLASSIFY, 256, 1, 256, 7, 17, .rw, 0⟩
/-- CLASSIFY RULESET ROWS (R243). -/
def R.CLASSIFY_RULESET_ROWS : Fld := ⟨.CLASSIFY, 256, 1, 256, 24, 18, .rw, 0⟩

/-- DEFILE SKIP_TIMEOUT (R244). -/
def R.DEFILE_SKIP_TIMEOUT : Fld := ⟨.DEFILE, 8, 0, 1, 0, 64, .rc, 0⟩
/-- DEFILE SKIP_LOST (R244). -/
def R.DEFILE_SKIP_LOST : Fld := ⟨.DEFILE, 9, 0, 1, 0, 64, .rc, 0⟩
/-- DEFILE LATE (R244). -/
def R.DEFILE_LATE : Fld := ⟨.DEFILE, 10, 0, 1, 0, 64, .rc, 0⟩
/-- DEFILE EVENTS (R244). -/
def R.DEFILE_EVENTS : Fld := ⟨.DEFILE, 11, 0, 1, 0, 2, .w1c, 0⟩
/-- DEFILE ING DEAL_SEQ (R244). -/
def R.DEFILE_ING_DEAL_SEQ : Fld := ⟨.DEFILE, 32, 4, 32, 0, 32, .ro, 0⟩
/-- DEFILE ING HEAD (R244). -/
def R.DEFILE_ING_HEAD : Fld := ⟨.DEFILE, 33, 4, 32, 0, 32, .ro, 0⟩
/-- DEFILE ING HELD (R244). -/
def R.DEFILE_ING_HELD : Fld := ⟨.DEFILE, 33, 4, 32, 32, 17, .ro, 0⟩
/-- DEFILE ING WAIT (R244). -/
def R.DEFILE_ING_WAIT : Fld := ⟨.DEFILE, 34, 4, 32, 0, 20, .ro, 0⟩
/-- DEFILE ING HOLE_AGE (R244). -/
def R.DEFILE_ING_HOLE_AGE : Fld := ⟨.DEFILE, 34, 4, 32, 32, 13, .ro, 0⟩
/-- DEFILE ING SKIPPED (R244). -/
def R.DEFILE_ING_SKIPPED : Fld := ⟨.DEFILE, 35, 4, 32, 0, 64, .rc, 0⟩

/-- TABLE CMD CODE (R281). -/
def R.TABLE_CMD_CODE : Fld := ⟨.TABLE, 8, 0, 1, 0, 4, .cmd, 0⟩
/-- TABLE CMD ARG_TABLE (R281). -/
def R.TABLE_CMD_ARG_TABLE : Fld := ⟨.TABLE, 8, 0, 1, 4, 5, .cmd, 0⟩
/-- TABLE CMD STATUS (R281). -/
def R.TABLE_CMD_STATUS : Fld := ⟨.TABLE, 8, 0, 1, 12, 4, .cmd, 0⟩
/-- TABLE CMD_ARG ARG (R281). -/
def R.TABLE_CMD_ARG_ARG : Fld := ⟨.TABLE, 9, 0, 1, 0, 32, .rw, 0⟩
/-- TABLE CMD_RESULT ENTRY (R281). -/
def R.TABLE_CMD_RESULT_ENTRY : Fld := ⟨.TABLE, 10, 0, 1, 0, 25, .ro, 0⟩
/-- TABLE CMD_RESULT MOVES (R281). -/
def R.TABLE_CMD_RESULT_MOVES : Fld := ⟨.TABLE, 10, 0, 1, 28, 4, .ro, 0⟩
/-- TABLE STAGE_CTRL STATIC (R281). -/
def R.TABLE_STAGE_CTRL_STATIC : Fld := ⟨.TABLE, 11, 0, 1, 0, 1, .rw, 0⟩
/-- TABLE STAGE_CTRL FAMILY (R281). -/
def R.TABLE_STAGE_CTRL_FAMILY : Fld := ⟨.TABLE, 11, 0, 1, 1, 1, .rw, 0⟩
/-- TABLE STAGE_CTRL LEN (R281). -/
def R.TABLE_STAGE_CTRL_LEN : Fld := ⟨.TABLE, 11, 0, 1, 8, 8, .rw, 0⟩
/-- TABLE STAGE_CTRL VRF (R281). -/
def R.TABLE_STAGE_CTRL_VRF : Fld := ⟨.TABLE, 11, 0, 1, 16, 12, .rw, 0⟩
/-- TABLE STAGE_KEY (R281). -/
def R.TABLE_STAGE_KEY : Fld := ⟨.TABLE, 12, 1, 8, 0, 64, .rw, 0⟩
/-- TABLE STAGE_DATA (R281). -/
def R.TABLE_STAGE_DATA : Fld := ⟨.TABLE, 20, 1, 4, 0, 64, .rw, 0⟩
/-- TABLE FC_HITS (R281). -/
def R.TABLE_FC_HITS : Fld := ⟨.TABLE, 24, 0, 1, 0, 64, .rc, 0⟩
/-- TABLE FC_MISSES (R281). -/
def R.TABLE_FC_MISSES : Fld := ⟨.TABLE, 25, 0, 1, 0, 64, .rc, 0⟩
/-- TABLE HBM_LOOKUPS (R281). -/
def R.TABLE_HBM_LOOKUPS : Fld := ⟨.TABLE, 26, 0, 1, 0, 64, .rc, 0⟩
/-- TABLE HBM_WAITS (R281). -/
def R.TABLE_HBM_WAITS : Fld := ⟨.TABLE, 27, 0, 1, 0, 64, .rc, 0⟩
/-- TABLE ECC_CORR (R281). -/
def R.TABLE_ECC_CORR : Fld := ⟨.TABLE, 28, 0, 1, 0, 64, .rc, 0⟩
/-- TABLE ECC_MISS (R281). -/
def R.TABLE_ECC_MISS : Fld := ⟨.TABLE, 29, 0, 1, 0, 64, .rc, 0⟩
/-- TABLE ECC_ADDR KIND (R281). -/
def R.TABLE_ECC_ADDR_KIND : Fld := ⟨.TABLE, 30, 0, 1, 0, 2, .ro, 0⟩
/-- TABLE ECC_ADDR OBJECT (R281). -/
def R.TABLE_ECC_ADDR_OBJECT : Fld := ⟨.TABLE, 30, 0, 1, 2, 2, .ro, 0⟩
/-- TABLE ECC_ADDR BANK (R281). -/
def R.TABLE_ECC_ADDR_BANK : Fld := ⟨.TABLE, 30, 0, 1, 4, 1, .ro, 0⟩
/-- TABLE ECC_ADDR INDEX (R281). -/
def R.TABLE_ECC_ADDR_INDEX : Fld := ⟨.TABLE, 30, 0, 1, 8, 25, .ro, 0⟩
/-- TABLE EVENTS (R281). -/
def R.TABLE_EVENTS : Fld := ⟨.TABLE, 31, 0, 1, 0, 4, .w1c, 0⟩
/-- TABLE MOVELOG OCC (R281). -/
def R.TABLE_MOVELOG_OCC : Fld := ⟨.TABLE, 32, 0, 1, 0, 6, .ro, 0⟩
/-- TABLE MOVELOG MAX (R281). -/
def R.TABLE_MOVELOG_MAX : Fld := ⟨.TABLE, 32, 0, 1, 8, 6, .ro, 0⟩
/-- TABLE MAC.CFG EN (R281). -/
def R.TABLE_MAC_CFG_EN : Fld := ⟨.TABLE, 33, 0, 1, 0, 1, .rw, 0⟩
/-- TABLE MAC.CFG LEARN_EN (R281). -/
def R.TABLE_MAC_CFG_LEARN_EN : Fld := ⟨.TABLE, 33, 0, 1, 1, 1, .rw, 0⟩
/-- TABLE MAC.CFG AGE_EN (R281). -/
def R.TABLE_MAC_CFG_AGE_EN : Fld := ⟨.TABLE, 33, 0, 1, 2, 1, .rw, 0⟩
/-- TABLE MAC.CFG AGE_LIMIT (R281). -/
def R.TABLE_MAC_CFG_AGE_LIMIT : Fld := ⟨.TABLE, 33, 0, 1, 32, 24, .rw, 4577637⟩
/-- TABLE MAC.SEED (R281). -/
def R.TABLE_MAC_SEED : Fld := ⟨.TABLE, 35, 1, 2, 0, 64, .rw, 0⟩
/-- TABLE MAC.LEARNED (R281). -/
def R.TABLE_MAC_LEARNED : Fld := ⟨.TABLE, 37, 0, 1, 0, 64, .rc, 0⟩
/-- TABLE MAC.MOVES (R281). -/
def R.TABLE_MAC_MOVES : Fld := ⟨.TABLE, 38, 0, 1, 0, 64, .rc, 0⟩
/-- TABLE MAC.AGED (R281). -/
def R.TABLE_MAC_AGED : Fld := ⟨.TABLE, 39, 0, 1, 0, 64, .rc, 0⟩
/-- TABLE RT.SEED (R281). -/
def R.TABLE_RT_SEED : Fld := ⟨.TABLE, 41, 1, 2, 0, 64, .rw, 0⟩
/-- TABLE RT.FILTER_SEED (R281). -/
def R.TABLE_RT_FILTER_SEED : Fld := ⟨.TABLE, 43, 0, 1, 0, 64, .rw, 4340410372558406595⟩
/-- TABLE RT.FILTER_SAT (R281). -/
def R.TABLE_RT_FILTER_SAT : Fld := ⟨.TABLE, 44, 0, 1, 0, 25, .ro, 0⟩
/-- TABLE RT.PROBES (R281). -/
def R.TABLE_RT_PROBES : Fld := ⟨.TABLE, 45, 0, 1, 0, 64, .rc, 0⟩
/-- TABLE RT.FILTER_SKIPS (R281). -/
def R.TABLE_RT_FILTER_SKIPS : Fld := ⟨.TABLE, 46, 0, 1, 0, 64, .rc, 0⟩
/-- TABLE FT.CFG VALID (R282). -/
def R.TABLE_FT_CFG_VALID : Fld := ⟨.TABLE, 128, 8, 16, 0, 1, .rw, 0⟩
/-- TABLE FT.CFG KEY_WORDS (R282). -/
def R.TABLE_FT_CFG_KEY_WORDS : Fld := ⟨.TABLE, 128, 8, 16, 1, 3, .rw, 0⟩
/-- TABLE FT.CFG AGE_EN (R282). -/
def R.TABLE_FT_CFG_AGE_EN : Fld := ⟨.TABLE, 128, 8, 16, 4, 1, .rw, 0⟩
/-- TABLE FT.CFG BUCKET_LOG2 (R282). -/
def R.TABLE_FT_CFG_BUCKET_LOG2 : Fld := ⟨.TABLE, 128, 8, 16, 8, 5, .rw, 7⟩
/-- TABLE FT.CFG BASE (R282). -/
def R.TABLE_FT_CFG_BASE : Fld := ⟨.TABLE, 128, 8, 16, 32, 25, .rw, 0⟩
/-- TABLE FT.AGE_LIMIT UNITS (R282). -/
def R.TABLE_FT_AGE_LIMIT_UNITS : Fld := ⟨.TABLE, 129, 8, 16, 0, 24, .rw, 457764⟩
/-- TABLE FT.STATE ACTIVE (R282). -/
def R.TABLE_FT_STATE_ACTIVE : Fld := ⟨.TABLE, 130, 8, 16, 0, 1, .ro, 0⟩
/-- TABLE FT.STATE STATE (R282). -/
def R.TABLE_FT_STATE_STATE : Fld := ⟨.TABLE, 130, 8, 16, 1, 1, .ro, 0⟩
/-- TABLE FT.STATE REHASH_REQ (R282). -/
def R.TABLE_FT_STATE_REHASH_REQ : Fld := ⟨.TABLE, 130, 8, 16, 2, 1, .ro, 0⟩
/-- TABLE FT.STATE COUNT_ACTIVE (R282). -/
def R.TABLE_FT_STATE_COUNT_ACTIVE : Fld := ⟨.TABLE, 130, 8, 16, 9, 26, .ro, 0⟩
/-- TABLE FT.STATE COUNT_SHADOW (R282). -/
def R.TABLE_FT_STATE_COUNT_SHADOW : Fld := ⟨.TABLE, 130, 8, 16, 35, 26, .ro, 0⟩
/-- TABLE FT.CURSOR BUCKET (R282). -/
def R.TABLE_FT_CURSOR_BUCKET : Fld := ⟨.TABLE, 131, 8, 16, 0, 22, .ro, 0⟩
/-- TABLE FT.CURSOR SLOT (R282). -/
def R.TABLE_FT_CURSOR_SLOT : Fld := ⟨.TABLE, 131, 8, 16, 22, 3, .ro, 0⟩
/-- TABLE FT.SEED k = 0 (R282). -/
def R.TABLE_FT_SEED0 : Fld := ⟨.TABLE, 132, 8, 16, 0, 64, .rw, 6510615558205997055⟩
/-- TABLE FT.SEED k = 1 (R282). -/
def R.TABLE_FT_SEED1 : Fld := ⟨.TABLE, 133, 8, 16, 0, 64, .rw, 0⟩
/-- TABLE FT.LOOKUPS (R282). -/
def R.TABLE_FT_LOOKUPS : Fld := ⟨.TABLE, 134, 8, 16, 0, 64, .rc, 0⟩
/-- TABLE FT.COUNTS INSERT_FULL (R282). -/
def R.TABLE_FT_COUNTS_INSERT_FULL : Fld := ⟨.TABLE, 135, 8, 16, 0, 32, .rc, 0⟩
/-- TABLE FT.COUNTS AGED (R282). -/
def R.TABLE_FT_COUNTS_AGED : Fld := ⟨.TABLE, 135, 8, 16, 32, 32, .rc, 0⟩
/-- TABLE MAC_STATE ACTIVE (R281). -/
def R.TABLE_MAC_STATE_ACTIVE : Fld := ⟨.TABLE, 34, 0, 1, 0, 1, .ro, 0⟩
/-- TABLE MAC_STATE STATE (R281). -/
def R.TABLE_MAC_STATE_STATE : Fld := ⟨.TABLE, 34, 0, 1, 1, 1, .ro, 0⟩
/-- TABLE MAC_STATE REHASH_REQ (R281). -/
def R.TABLE_MAC_STATE_REHASH_REQ : Fld := ⟨.TABLE, 34, 0, 1, 2, 1, .ro, 0⟩
/-- TABLE MAC_STATE COUNT_ACTIVE (R281). -/
def R.TABLE_MAC_STATE_COUNT_ACTIVE : Fld := ⟨.TABLE, 34, 0, 1, 9, 20, .ro, 0⟩
/-- TABLE MAC_STATE COUNT_SHADOW (R281). -/
def R.TABLE_MAC_STATE_COUNT_SHADOW : Fld := ⟨.TABLE, 34, 0, 1, 29, 20, .ro, 0⟩
/-- TABLE RT_STATE ACTIVE (R281). -/
def R.TABLE_RT_STATE_ACTIVE : Fld := ⟨.TABLE, 40, 0, 1, 0, 1, .ro, 0⟩
/-- TABLE RT_STATE STATE (R281). -/
def R.TABLE_RT_STATE_STATE : Fld := ⟨.TABLE, 40, 0, 1, 1, 1, .ro, 0⟩
/-- TABLE RT_STATE REHASH_REQ (R281). -/
def R.TABLE_RT_STATE_REHASH_REQ : Fld := ⟨.TABLE, 40, 0, 1, 2, 1, .ro, 0⟩
/-- TABLE RT_STATE COUNT_ACTIVE (R281). -/
def R.TABLE_RT_STATE_COUNT_ACTIVE : Fld := ⟨.TABLE, 40, 0, 1, 9, 23, .ro, 0⟩
/-- TABLE RT_STATE COUNT_SHADOW (R281). -/
def R.TABLE_RT_STATE_COUNT_SHADOW : Fld := ⟨.TABLE, 40, 0, 1, 32, 23, .ro, 0⟩

end Sys2Proof.Machine
end

