-- ==== Sys2Proof/Machine/RegsB.lean ====
section
/-! DEFINITION. The register fields of the pages and window objects BASIN, SCHED, HOST, INST, RCTX, INSTCTL, CRYPTO, MOVER, STORE, EVT, HEALTH, ROLE, each with its place, access code and reset value as its table of spec/ gives them.
A field whose value after reset is per start, per page or per variant has 0 here and its own rule in Machine/Store.lean. -/

namespace Sys2Proof.Machine

/-- BASIN CFG SHARED_LIMIT (R310). -/
def R.BASIN_CFG_SHARED_LIMIT : Fld := ⟨.BASIN, 8, 0, 1, 0, 20, .rw, 360448⟩
/-- BASIN CELLS_TOTAL TOTAL (R310). -/
def R.BASIN_CELLS_TOTAL_TOTAL : Fld := ⟨.BASIN, 9, 0, 1, 0, 20, .ro, 393216⟩
/-- BASIN CELLS_TOTAL BANKS_OUT (R310). -/
def R.BASIN_CELLS_TOTAL_BANKS_OUT : Fld := ⟨.BASIN, 9, 0, 1, 32, 32, .ro, 0⟩
/-- BASIN CELL_FREE FREE (R310). -/
def R.BASIN_CELL_FREE_FREE : Fld := ⟨.BASIN, 10, 0, 1, 0, 20, .ro, 393216⟩
/-- BASIN SHARED_USED USED (R310). -/
def R.BASIN_SHARED_USED_USED : Fld := ⟨.BASIN, 11, 0, 1, 0, 20, .ro, 0⟩
/-- BASIN SHARED_USED EFF_LIMIT (R310). -/
def R.BASIN_SHARED_USED_EFF_LIMIT : Fld := ⟨.BASIN, 11, 0, 1, 32, 20, .ro, 360448⟩
/-- BASIN USED_PEAK CELLS (R310). -/
def R.BASIN_USED_PEAK_CELLS : Fld := ⟨.BASIN, 12, 0, 1, 0, 20, .rc, 0⟩
/-- BASIN GMIN_SUM CELLS (R310). -/
def R.BASIN_GMIN_SUM_CELLS : Fld := ⟨.BASIN, 13, 0, 1, 0, 20, .ro, 0⟩
/-- BASIN LOW_MARK CELLS (R310). -/
def R.BASIN_LOW_MARK_CELLS : Fld := ⟨.BASIN, 14, 0, 1, 0, 20, .rw, 16384⟩
/-- BASIN EVENTS (R310). -/
def R.BASIN_EVENTS : Fld := ⟨.BASIN, 15, 0, 1, 0, 5, .w1c, 0⟩
/-- BASIN RECIRC_DROP (R310). -/
def R.BASIN_RECIRC_DROP : Fld := ⟨.BASIN, 16, 0, 1, 0, 64, .rc, 0⟩
/-- BASIN PROG_DROP (R310). -/
def R.BASIN_PROG_DROP : Fld := ⟨.BASIN, 17, 0, 1, 0, 64, .rc, 0⟩
/-- BASIN UNRESOLVED_DROP (R310). -/
def R.BASIN_UNRESOLVED_DROP : Fld := ⟨.BASIN, 18, 0, 1, 0, 64, .rc, 0⟩
/-- BASIN BAD_DEST (R310). -/
def R.BASIN_BAD_DEST : Fld := ⟨.BASIN, 19, 0, 1, 0, 64, .rc, 0⟩
/-- BASIN INST_DROP (R310). -/
def R.BASIN_INST_DROP : Fld := ⟨.BASIN, 20, 0, 1, 0, 64, .rc, 0⟩
/-- BASIN TAIL_DROP (R310). -/
def R.BASIN_TAIL_DROP : Fld := ⟨.BASIN, 21, 0, 1, 0, 64, .rc, 0⟩
/-- BASIN PUSHOUT (R310). -/
def R.BASIN_PUSHOUT : Fld := ⟨.BASIN, 22, 0, 1, 0, 64, .rc, 0⟩
/-- BASIN AGED (R310). -/
def R.BASIN_AGED : Fld := ⟨.BASIN, 23, 0, 1, 0, 64, .rc, 0⟩
/-- BASIN NOCELL_ADMIT (R310). -/
def R.BASIN_NOCELL_ADMIT : Fld := ⟨.BASIN, 24, 0, 1, 0, 64, .rc, 0⟩
/-- BASIN CT_STARTS (R310). -/
def R.BASIN_CT_STARTS : Fld := ⟨.BASIN, 25, 0, 1, 0, 64, .rc, 0⟩
/-- BASIN CT_FALLBACK (R310). -/
def R.BASIN_CT_FALLBACK : Fld := ⟨.BASIN, 26, 0, 1, 0, 64, .rc, 0⟩
/-- BASIN Q.CFG GMIN (R311). -/
def R.BASIN_Q_CFG_GMIN : Fld := ⟨.BASIN, 128, 2, 160, 0, 20, .rw, 0⟩
/-- BASIN Q.CFG QMAX (R311). -/
def R.BASIN_Q_CFG_QMAX : Fld := ⟨.BASIN, 128, 2, 160, 20, 20, .rw, 65536⟩
/-- BASIN Q.CFG CT_EN (R311). -/
def R.BASIN_Q_CFG_CT_EN : Fld := ⟨.BASIN, 128, 2, 160, 40, 1, .rw, 0⟩
/-- BASIN Q.CFG PUSHOUT_EN (R311). -/
def R.BASIN_Q_CFG_PUSHOUT_EN : Fld := ⟨.BASIN, 128, 2, 160, 41, 1, .rw, 0⟩
/-- BASIN Q.CFG YEL_FRAC (R311). -/
def R.BASIN_Q_CFG_YEL_FRAC : Fld := ⟨.BASIN, 128, 2, 160, 44, 4, .rw, 11⟩
/-- BASIN Q.CFG RED_FRAC (R311). -/
def R.BASIN_Q_CFG_RED_FRAC : Fld := ⟨.BASIN, 128, 2, 160, 48, 4, .rw, 7⟩
/-- BASIN Q.AGE AGE_LIMIT (R311). -/
def R.BASIN_Q_AGE_AGE_LIMIT : Fld := ⟨.BASIN, 129, 2, 160, 0, 24, .rw, 1562500⟩
/-- BASIN Q.AGE OCC (R311). -/
def R.BASIN_Q_AGE_OCC : Fld := ⟨.BASIN, 129, 2, 160, 24, 20, .ro, 0⟩
/-- BASIN ING.CFG MAX (R312). -/
def R.BASIN_ING_CFG_MAX : Fld := ⟨.BASIN, 448, 2, 20, 0, 20, .rw, 65536⟩
/-- BASIN ING.HELD CELLS (R312). -/
def R.BASIN_ING_HELD_CELLS : Fld := ⟨.BASIN, 449, 2, 20, 0, 20, .ro, 0⟩

/-- SCHED CMD CODE (R347). -/
def R.SCHED_CMD_CODE : Fld := ⟨.SCHED, 8, 0, 1, 0, 4, .cmd, 0⟩
/-- SCHED CMD ARG_LEAF (R347). -/
def R.SCHED_CMD_ARG_LEAF : Fld := ⟨.SCHED, 8, 0, 1, 4, 17, .cmd, 0⟩
/-- SCHED CMD ARG_NODE (R347). -/
def R.SCHED_CMD_ARG_NODE : Fld := ⟨.SCHED, 8, 0, 1, 21, 15, .cmd, 0⟩
/-- SCHED CMD ARG_EGRESS (R347). -/
def R.SCHED_CMD_ARG_EGRESS : Fld := ⟨.SCHED, 8, 0, 1, 36, 5, .cmd, 0⟩
/-- SCHED CMD ARG_CLASS (R347). -/
def R.SCHED_CMD_ARG_CLASS : Fld := ⟨.SCHED, 8, 0, 1, 41, 3, .cmd, 0⟩
/-- SCHED CMD STATUS (R347). -/
def R.SCHED_CMD_STATUS : Fld := ⟨.SCHED, 8, 0, 1, 48, 4, .cmd, 0⟩
/-- SCHED CLASS_MISMATCH (R347). -/
def R.SCHED_CLASS_MISMATCH : Fld := ⟨.SCHED, 9, 0, 1, 0, 64, .rc, 0⟩
/-- SCHED POLICE_DROP (R347). -/
def R.SCHED_POLICE_DROP : Fld := ⟨.SCHED, 10, 0, 1, 0, 64, .rc, 0⟩
/-- SCHED COL_HOLDS (R347). -/
def R.SCHED_COL_HOLDS : Fld := ⟨.SCHED, 11, 0, 1, 0, 64, .rc, 0⟩
/-- SCHED EVENTS (R347). -/
def R.SCHED_EVENTS : Fld := ⟨.SCHED, 12, 0, 1, 0, 2, .w1c, 0⟩
/-- SCHED EGR OVERHEAD (R347). -/
def R.SCHED_EGR_OVERHEAD : Fld := ⟨.SCHED, 32, 1, 20, 0, 7, .rw, 0⟩

/-- HOST LINK_CFG MAX_SPEED (R388). -/
def R.HOST_LINK_CFG_MAX_SPEED : Fld := ⟨.HOST, 8, 0, 1, 0, 2, .rwl, 0⟩
/-- HOST LINK_CFG MAX_WIDTH (R388). -/
def R.HOST_LINK_CFG_MAX_WIDTH : Fld := ⟨.HOST, 8, 0, 1, 2, 2, .rwl, 0⟩
/-- HOST LINK_CFG CLK_MODE (R388). -/
def R.HOST_LINK_CFG_CLK_MODE : Fld := ⟨.HOST, 8, 0, 1, 4, 1, .rwl, 0⟩
/-- HOST LINK_CFG VF_TOTAL (R388). -/
def R.HOST_LINK_CFG_VF_TOTAL : Fld := ⟨.HOST, 8, 0, 1, 16, 13, .rwl, 0⟩
/-- HOST LINK_CFG VF_TOTAL_NOW (R388). -/
def R.HOST_LINK_CFG_VF_TOTAL_NOW : Fld := ⟨.HOST, 8, 0, 1, 32, 13, .ro, 0⟩
/-- HOST LINK_STATUS UP (R388). -/
def R.HOST_LINK_STATUS_UP : Fld := ⟨.HOST, 9, 0, 1, 0, 1, .ro, 0⟩
/-- HOST LINK_STATUS SPEED (R388). -/
def R.HOST_LINK_STATUS_SPEED : Fld := ⟨.HOST, 9, 0, 1, 1, 3, .ro, 0⟩
/-- HOST LINK_STATUS WIDTH (R388). -/
def R.HOST_LINK_STATUS_WIDTH : Fld := ⟨.HOST, 9, 0, 1, 4, 2, .ro, 0⟩
/-- HOST LINK_STATUS FLIT (R388). -/
def R.HOST_LINK_STATUS_FLIT : Fld := ⟨.HOST, 9, 0, 1, 6, 1, .ro, 0⟩
/-- HOST LINK_STATUS RETRAINS (R388). -/
def R.HOST_LINK_STATUS_RETRAINS : Fld := ⟨.HOST, 9, 0, 1, 16, 16, .ro, 0⟩
/-- HOST CMD CODE (R388). -/
def R.HOST_CMD_CODE : Fld := ⟨.HOST, 10, 0, 1, 0, 4, .cmd, 0⟩
/-- HOST CMD STATUS (R388). -/
def R.HOST_CMD_STATUS : Fld := ⟨.HOST, 10, 0, 1, 8, 4, .cmd, 0⟩
/-- HOST EVENTS (R388). -/
def R.HOST_EVENTS : Fld := ⟨.HOST, 11, 0, 1, 0, 5, .w1c, 0⟩
/-- HOST CORR_ERR (R388). -/
def R.HOST_CORR_ERR : Fld := ⟨.HOST, 12, 0, 1, 0, 64, .rc, 0⟩
/-- HOST DMA_ERR (R388). -/
def R.HOST_DMA_ERR : Fld := ⟨.HOST, 13, 0, 1, 0, 64, .rc, 0⟩

/-- INST RING_RANGE QP_BASE (R390). -/
def R.INST_RING_RANGE_QP_BASE : Fld := ⟨.INST, 128, 0, 1, 0, 19, .rwl, 0⟩
/-- INST RING_RANGE QP_COUNT (R390). -/
def R.INST_RING_RANGE_QP_COUNT : Fld := ⟨.INST, 128, 0, 1, 32, 14, .rwl, 0⟩
/-- INST VEC_RANGE VEC_BASE (R390). -/
def R.INST_VEC_RANGE_VEC_BASE : Fld := ⟨.INST, 129, 0, 1, 0, 16, .rwl, 0⟩
/-- INST VEC_RANGE VEC_COUNT (R390). -/
def R.INST_VEC_RANGE_VEC_COUNT : Fld := ⟨.INST, 129, 0, 1, 32, 12, .rwl, 0⟩
/-- INST HOSTPORT PORT (R390). -/
def R.INST_HOSTPORT_PORT : Fld := ⟨.INST, 130, 0, 1, 0, 2, .ro, 0⟩
/-- INST HOSTPORT VF (R390). -/
def R.INST_HOSTPORT_VF : Fld := ⟨.INST, 130, 0, 1, 16, 13, .ro, 0⟩
/-- INST EVT_VEC VEC (R390). -/
def R.INST_EVT_VEC_VEC : Fld := ⟨.INST, 131, 0, 1, 0, 11, .rw, 0⟩
/-- INST EVT_VEC EN (R390). -/
def R.INST_EVT_VEC_EN : Fld := ⟨.INST, 131, 0, 1, 16, 1, .rw, 0⟩
/-- INST DB_CNT DB_LAP (R390). -/
def R.INST_DB_CNT_DB_LAP : Fld := ⟨.INST, 132, 0, 1, 0, 32, .rc, 0⟩
/-- INST DB_CNT DB_BAD (R390). -/
def R.INST_DB_CNT_DB_BAD : Fld := ⟨.INST, 132, 0, 1, 32, 32, .rc, 0⟩
/-- INST RING_EVENTS (R390). -/
def R.INST_RING_EVENTS : Fld := ⟨.INST, 133, 0, 1, 0, 6, .w1c, 0⟩
/-- INST RING_SEL RING (R390). -/
def R.INST_RING_SEL_RING : Fld := ⟨.INST, 134, 0, 1, 0, 14, .rw, 0⟩
/-- INST STATE STATE (R423). -/
def R.INST_STATE_STATE : Fld := ⟨.INST, 8, 0, 1, 0, 3, .ro, 0⟩
/-- INST STATE FORCED (R423). -/
def R.INST_STATE_FORCED : Fld := ⟨.INST, 8, 0, 1, 8, 1, .ro, 0⟩
/-- INST STATE FLR (R423). -/
def R.INST_STATE_FLR : Fld := ⟨.INST, 8, 0, 1, 9, 1, .ro, 0⟩
/-- INST CMD CODE (R423). -/
def R.INST_CMD_CODE : Fld := ⟨.INST, 9, 0, 1, 0, 4, .cmd, 0⟩
/-- INST CMD STATUS (R423). -/
def R.INST_CMD_STATUS : Fld := ⟨.INST, 9, 0, 1, 8, 4, .cmd, 0⟩
/-- INST QUIESCE_LIMIT NOTCHES (R423). -/
def R.INST_QUIESCE_LIMIT_NOTCHES : Fld := ⟨.INST, 10, 0, 1, 0, 24, .rwl, 1562500⟩
/-- INST MIG_ADDR ADDR (R423). -/
def R.INST_MIG_ADDR_ADDR : Fld := ⟨.INST, 11, 0, 1, 0, 64, .rwl, 0⟩
/-- INST MIG_SIZE BYTES (R423). -/
def R.INST_MIG_SIZE_BYTES : Fld := ⟨.INST, 12, 0, 1, 0, 32, .rwl, 0⟩
/-- INST MIG_LEN BYTES (R423). -/
def R.INST_MIG_LEN_BYTES : Fld := ⟨.INST, 13, 0, 1, 0, 32, .ro, 376⟩
/-- INST DIRTY_CFG EN (R423). -/
def R.INST_DIRTY_CFG_EN : Fld := ⟨.INST, 14, 0, 1, 0, 1, .rwl, 0⟩
/-- INST DIRTY_BASE ADDR (R423). -/
def R.INST_DIRTY_BASE_ADDR : Fld := ⟨.INST, 15, 0, 1, 0, 64, .rwl, 0⟩
/-- INST DIRTY_PAGES PAGES (R423). -/
def R.INST_DIRTY_PAGES_PAGES : Fld := ⟨.INST, 16, 0, 1, 0, 29, .rwl, 0⟩
/-- INST DIRTY_ADDR ADDR (R423). -/
def R.INST_DIRTY_ADDR_ADDR : Fld := ⟨.INST, 17, 0, 1, 0, 64, .rwl, 0⟩
/-- INST DIRTY_STAT OUT (R423). -/
def R.INST_DIRTY_STAT_OUT : Fld := ⟨.INST, 18, 0, 1, 0, 32, .rc, 0⟩
/-- INST DIRTY_STAT MARKED (R423). -/
def R.INST_DIRTY_STAT_MARKED : Fld := ⟨.INST, 18, 0, 1, 32, 29, .ro, 0⟩
/-- INST ADMIT_DROP (R423). -/
def R.INST_ADMIT_DROP : Fld := ⟨.INST, 19, 0, 1, 0, 64, .rc, 0⟩
/-- INST LOST_TICKETS (R423). -/
def R.INST_LOST_TICKETS : Fld := ⟨.INST, 20, 0, 1, 0, 64, .rc, 0⟩
/-- INST STATE_DROP (R423). -/
def R.INST_STATE_DROP : Fld := ⟨.INST, 21, 0, 1, 0, 64, .rc, 0⟩
/-- INST TX_ABORTED (R423). -/
def R.INST_TX_ABORTED : Fld := ⟨.INST, 22, 0, 1, 0, 64, .rc, 0⟩
/-- INST FLR_CNT FLR (R423). -/
def R.INST_FLR_CNT_FLR : Fld := ⟨.INST, 23, 0, 1, 0, 32, .rc, 0⟩
/-- INST FLR_CNT FORCED (R423). -/
def R.INST_FLR_CNT_FORCED : Fld := ⟨.INST, 23, 0, 1, 32, 32, .rc, 0⟩
/-- INST EVENTS (R423). -/
def R.INST_EVENTS : Fld := ⟨.INST, 24, 0, 1, 0, 8, .w1c, 0⟩
/-- INST USE_BYTES (R423). -/
def R.INST_USE_BYTES : Fld := ⟨.INST, 32, 1, 8, 0, 64, .ro, 0⟩
/-- INST USE_FRAMES (R423). -/
def R.INST_USE_FRAMES : Fld := ⟨.INST, 40, 1, 8, 0, 64, .ro, 0⟩
/-- INST USE_CRYPTO (R423). -/
def R.INST_USE_CRYPTO : Fld := ⟨.INST, 48, 0, 1, 0, 64, .ro, 0⟩
/-- INST USE_STORE (R423). -/
def R.INST_USE_STORE : Fld := ⟨.INST, 49, 0, 1, 0, 64, .ro, 0⟩
/-- INST USE_GLEN_TN (R423). -/
def R.INST_USE_GLEN_TN : Fld := ⟨.INST, 50, 0, 1, 0, 64, .ro, 0⟩

/-- RCTX BASE ADDR (R390). -/
def R.RCTX_BASE_ADDR : Fld := ⟨.RCTX, 136, 0, 1, 0, 64, .rw, 0⟩
/-- RCTX CFG EN (R390). -/
def R.RCTX_CFG_EN : Fld := ⟨.RCTX, 137, 0, 1, 0, 1, .rw, 0⟩
/-- RCTX CFG SIZE_LOG2 (R390). -/
def R.RCTX_CFG_SIZE_LOG2 : Fld := ⟨.RCTX, 137, 0, 1, 1, 5, .rw, 6⟩
/-- RCTX CFG DIR (R390). -/
def R.RCTX_CFG_DIR : Fld := ⟨.RCTX, 137, 0, 1, 6, 1, .ro, 0⟩
/-- RCTX CFG DEF_CLASS (R390). -/
def R.RCTX_CFG_DEF_CLASS : Fld := ⟨.RCTX, 137, 0, 1, 8, 3, .rw, 0⟩
/-- RCTX CFG RX_WAIT (R390). -/
def R.RCTX_CFG_RX_WAIT : Fld := ⟨.RCTX, 137, 0, 1, 16, 16, .rw, 1024⟩
/-- RCTX CFG VEC (R390). -/
def R.RCTX_CFG_VEC : Fld := ⟨.RCTX, 137, 0, 1, 32, 11, .rw, 0⟩
/-- RCTX CFG INT_EN (R390). -/
def R.RCTX_CFG_INT_EN : Fld := ⟨.RCTX, 137, 0, 1, 43, 1, .rw, 0⟩
/-- RCTX MOD TIME (R390). -/
def R.RCTX_MOD_TIME : Fld := ⟨.RCTX, 138, 0, 1, 0, 24, .rw, 0⟩
/-- RCTX MOD CNT (R390). -/
def R.RCTX_MOD_CNT : Fld := ⟨.RCTX, 138, 0, 1, 32, 12, .rw, 1⟩
/-- RCTX IDX PROD (R390). -/
def R.RCTX_IDX_PROD : Fld := ⟨.RCTX, 139, 0, 1, 0, 16, .ro, 0⟩
/-- RCTX IDX PROD_WRAP (R390). -/
def R.RCTX_IDX_PROD_WRAP : Fld := ⟨.RCTX, 139, 0, 1, 16, 1, .ro, 0⟩
/-- RCTX IDX CONS (R390). -/
def R.RCTX_IDX_CONS : Fld := ⟨.RCTX, 139, 0, 1, 32, 16, .ro, 0⟩
/-- RCTX IDX CONS_WRAP (R390). -/
def R.RCTX_IDX_CONS_WRAP : Fld := ⟨.RCTX, 139, 0, 1, 48, 1, .ro, 0⟩
/-- RCTX FRAMES (R390). -/
def R.RCTX_FRAMES : Fld := ⟨.RCTX, 140, 0, 1, 0, 64, .rc, 0⟩
/-- RCTX OCTETS (R390). -/
def R.RCTX_OCTETS : Fld := ⟨.RCTX, 141, 0, 1, 0, 64, .rc, 0⟩
/-- RCTX ERR_DESC (R390). -/
def R.RCTX_ERR_DESC : Fld := ⟨.RCTX, 142, 0, 1, 0, 64, .rc, 0⟩
/-- RCTX RX_TRUNC (R390). -/
def R.RCTX_RX_TRUNC : Fld := ⟨.RCTX, 143, 0, 1, 0, 64, .rc, 0⟩
/-- RCTX RX_NOBUF (R390). -/
def R.RCTX_RX_NOBUF : Fld := ⟨.RCTX, 144, 0, 1, 0, 64, .rc, 0⟩
/-- RCTX HOLD FRAMES (R390). -/
def R.RCTX_HOLD_FRAMES : Fld := ⟨.RCTX, 145, 0, 1, 0, 16, .ro, 0⟩
/-- RCTX HOLD WAIT (R390). -/
def R.RCTX_HOLD_WAIT : Fld := ⟨.RCTX, 145, 0, 1, 32, 16, .ro, 0⟩

/-- INSTCTL LEDGER_CFG EN (R424). -/
def R.INSTCTL_LEDGER_CFG_EN : Fld := ⟨.INSTCTL, 8, 0, 1, 0, 1, .rw, 0⟩
/-- INSTCTL LEDGER_CFG PORT (R424). -/
def R.INSTCTL_LEDGER_CFG_PORT : Fld := ⟨.INSTCTL, 8, 0, 1, 1, 1, .rw, 0⟩
/-- INSTCTL LEDGER_CFG SIZE_LOG2 (R424). -/
def R.INSTCTL_LEDGER_CFG_SIZE_LOG2 : Fld := ⟨.INSTCTL, 8, 0, 1, 2, 5, .rw, 12⟩
/-- INSTCTL LEDGER_CFG CLASS_MAP (R424). -/
def R.INSTCTL_LEDGER_CFG_CLASS_MAP : Fld := ⟨.INSTCTL, 8, 0, 1, 16, 16, .rw, 64080⟩
/-- INSTCTL LEDGER_BASE ADDR (R424). -/
def R.INSTCTL_LEDGER_BASE_ADDR : Fld := ⟨.INSTCTL, 9, 0, 1, 0, 64, .rw, 0⟩
/-- INSTCTL LEDGER_PROD INDEX (R424). -/
def R.INSTCTL_LEDGER_PROD_INDEX : Fld := ⟨.INSTCTL, 10, 0, 1, 0, 20, .ro, 0⟩
/-- INSTCTL LEDGER_PROD WRAP (R424). -/
def R.INSTCTL_LEDGER_PROD_WRAP : Fld := ⟨.INSTCTL, 10, 0, 1, 20, 1, .ro, 0⟩
/-- INSTCTL LEDGER_CONS INDEX (R424). -/
def R.INSTCTL_LEDGER_CONS_INDEX : Fld := ⟨.INSTCTL, 11, 0, 1, 0, 20, .rw, 0⟩
/-- INSTCTL LEDGER_CONS WRAP (R424). -/
def R.INSTCTL_LEDGER_CONS_WRAP : Fld := ⟨.INSTCTL, 11, 0, 1, 20, 1, .rw, 0⟩
/-- INSTCTL LEDGER_BACKLOG RECORDS (R424). -/
def R.INSTCTL_LEDGER_BACKLOG_RECORDS : Fld := ⟨.INSTCTL, 12, 0, 1, 0, 19, .ro, 0⟩
/-- INSTCTL LEDGER_LOST (R424). -/
def R.INSTCTL_LEDGER_LOST : Fld := ⟨.INSTCTL, 13, 0, 1, 0, 64, .rc, 0⟩
/-- INSTCTL LEDGER_EVENTS (R424). -/
def R.INSTCTL_LEDGER_EVENTS : Fld := ⟨.INSTCTL, 14, 0, 1, 0, 4, .w1c, 0⟩
/-- INSTCTL DIRTY_USE COUNT (R424). -/
def R.INSTCTL_DIRTY_USE_COUNT : Fld := ⟨.INSTCTL, 15, 0, 1, 0, 7, .ro, 0⟩
/-- INSTCTL SUMMARY (R424). -/
def R.INSTCTL_SUMMARY : Fld := ⟨.INSTCTL, 32, 1, 64, 0, 64, .ro, 0⟩

/-- CRYPTO CMD CODE (R441). -/
def R.CRYPTO_CMD_CODE : Fld := ⟨.CRYPTO, 8, 0, 1, 0, 4, .cmd, 0⟩
/-- CRYPTO CMD ARG_SA (R441). -/
def R.CRYPTO_CMD_ARG_SA : Fld := ⟨.CRYPTO, 8, 0, 1, 4, 20, .cmd, 0⟩
/-- CRYPTO CMD STATUS (R441). -/
def R.CRYPTO_CMD_STATUS : Fld := ⟨.CRYPTO, 8, 0, 1, 32, 4, .cmd, 0⟩
/-- CRYPTO KEY_STAGE (R441). -/
def R.CRYPTO_KEY_STAGE : Fld := ⟨.CRYPTO, 9, 1, 4, 0, 64, .rw, 0⟩
/-- CRYPTO SA_EVT VALID (R441). -/
def R.CRYPTO_SA_EVT_VALID : Fld := ⟨.CRYPTO, 13, 0, 1, 0, 1, .ro, 0⟩
/-- CRYPTO SA_EVT KIND (R441). -/
def R.CRYPTO_SA_EVT_KIND : Fld := ⟨.CRYPTO, 13, 0, 1, 1, 3, .ro, 0⟩
/-- CRYPTO SA_EVT SA (R441). -/
def R.CRYPTO_SA_EVT_SA : Fld := ⟨.CRYPTO, 13, 0, 1, 32, 20, .ro, 0⟩
/-- CRYPTO SA_EVT_STAT DEPTH (R441). -/
def R.CRYPTO_SA_EVT_STAT_DEPTH : Fld := ⟨.CRYPTO, 14, 0, 1, 0, 9, .ro, 0⟩
/-- CRYPTO SA_EVT_STAT LOST (R441). -/
def R.CRYPTO_SA_EVT_STAT_LOST : Fld := ⟨.CRYPTO, 14, 0, 1, 32, 32, .rc, 0⟩
/-- CRYPTO EVENTS (R441). -/
def R.CRYPTO_EVENTS : Fld := ⟨.CRYPTO, 15, 0, 1, 0, 3, .w1c, 0⟩
/-- CRYPTO SA_CACHE_HITS (R441). -/
def R.CRYPTO_SA_CACHE_HITS : Fld := ⟨.CRYPTO, 16, 0, 1, 0, 64, .rc, 0⟩
/-- CRYPTO SA_CACHE_MISSES (R441). -/
def R.CRYPTO_SA_CACHE_MISSES : Fld := ⟨.CRYPTO, 17, 0, 1, 0, 64, .rc, 0⟩
/-- CRYPTO FRAMES (R441). -/
def R.CRYPTO_FRAMES : Fld := ⟨.CRYPTO, 18, 0, 1, 0, 64, .rc, 0⟩
/-- CRYPTO OCTETS (R441). -/
def R.CRYPTO_OCTETS : Fld := ⟨.CRYPTO, 19, 0, 1, 0, 64, .rc, 0⟩
/-- CRYPTO LAST_DROP CODE (R441). -/
def R.CRYPTO_LAST_DROP_CODE : Fld := ⟨.CRYPTO, 20, 0, 1, 0, 8, .ro, 0⟩
/-- CRYPTO LAST_DROP SA (R441). -/
def R.CRYPTO_LAST_DROP_SA : Fld := ⟨.CRYPTO, 20, 0, 1, 8, 20, .ro, 0⟩
/-- CRYPTO LAST_DROP NOTCH (R441). -/
def R.CRYPTO_LAST_DROP_NOTCH : Fld := ⟨.CRYPTO, 20, 0, 1, 32, 32, .ro, 0⟩
/-- CRYPTO DROPS (R441). -/
def R.CRYPTO_DROPS : Fld := ⟨.CRYPTO, 32, 1, 12, 0, 64, .rc, 0⟩
/-- CRYPTO TLS_PASS (R441). -/
def R.CRYPTO_TLS_PASS : Fld := ⟨.CRYPTO, 48, 0, 1, 0, 64, .rc, 0⟩

/-- MOVER CMD CODE (R467). -/
def R.MOVER_CMD_CODE : Fld := ⟨.MOVER, 8, 0, 1, 0, 4, .cmd, 0⟩
/-- MOVER CMD ARG_CH (R467). -/
def R.MOVER_CMD_ARG_CH : Fld := ⟨.MOVER, 8, 0, 1, 4, 6, .cmd, 0⟩
/-- MOVER CMD STATUS (R467). -/
def R.MOVER_CMD_STATUS : Fld := ⟨.MOVER, 8, 0, 1, 16, 4, .cmd, 0⟩
/-- MOVER SWREQ (R467). -/
def R.MOVER_SWREQ : Fld := ⟨.MOVER, 9, 0, 1, 8, 24, .w1s, 0⟩
/-- MOVER EVENTS (R467). -/
def R.MOVER_EVENTS : Fld := ⟨.MOVER, 10, 0, 1, 0, 4, .w1c, 0⟩
/-- MOVER DONE_MAP (R467). -/
def R.MOVER_DONE_MAP : Fld := ⟨.MOVER, 11, 0, 1, 0, 64, .w1c, 0⟩
/-- MOVER ERR_MAP (R467). -/
def R.MOVER_ERR_MAP : Fld := ⟨.MOVER, 12, 0, 1, 0, 64, .w1c, 0⟩
/-- MOVER BEATS (R467). -/
def R.MOVER_BEATS : Fld := ⟨.MOVER, 13, 0, 1, 0, 64, .rc, 0⟩
/-- MOVER PREEMPTS (R467). -/
def R.MOVER_PREEMPTS : Fld := ⟨.MOVER, 14, 0, 1, 0, 64, .rc, 0⟩
/-- MOVER REQ_LOST (R467). -/
def R.MOVER_REQ_LOST : Fld := ⟨.MOVER, 15, 0, 1, 0, 64, .rc, 0⟩
/-- MOVERCH CFG DISABLE (R468). -/
def R.MOVERCH_CFG_DISABLE : Fld := ⟨.MOVER, 32, 6, 64, 0, 1, .rw, 0⟩
/-- MOVERCH CFG PRIO (R468). -/
def R.MOVERCH_CFG_PRIO : Fld := ⟨.MOVER, 32, 6, 64, 1, 3, .rw, 0⟩
/-- MOVERCH CFG TRIG (R468). -/
def R.MOVERCH_CFG_TRIG : Fld := ⟨.MOVER, 32, 6, 64, 4, 3, .rw, 0⟩
/-- MOVERCH CFG TRIG_ARG (R468). -/
def R.MOVERCH_CFG_TRIG_ARG : Fld := ⟨.MOVER, 32, 6, 64, 8, 6, .rw, 0⟩
/-- MOVERCH CFG BURST (R468). -/
def R.MOVERCH_CFG_BURST : Fld := ⟨.MOVER, 32, 6, 64, 16, 12, .rw, 0⟩
/-- MOVERCH CFG DESC_SPACE (R468). -/
def R.MOVERCH_CFG_DESC_SPACE : Fld := ⟨.MOVER, 32, 6, 64, 28, 4, .rw, 0⟩
/-- MOVERCH CFG PERIOD (R468). -/
def R.MOVERCH_CFG_PERIOD : Fld := ⟨.MOVER, 32, 6, 64, 32, 24, .rw, 1⟩
/-- MOVERCH DESC_ADDR (R468). -/
def R.MOVERCH_DESC_ADDR : Fld := ⟨.MOVER, 33, 6, 64, 0, 64, .rw, 0⟩
/-- MOVERCH STATUS STATE (R468). -/
def R.MOVERCH_STATUS_STATE : Fld := ⟨.MOVER, 34, 6, 64, 0, 3, .ro, 0⟩
/-- MOVERCH STATUS LATE (R468). -/
def R.MOVERCH_STATUS_LATE : Fld := ⟨.MOVER, 34, 6, 64, 3, 1, .ro, 0⟩
/-- MOVERCH STATUS STAGED (R468). -/
def R.MOVERCH_STATUS_STAGED : Fld := ⟨.MOVER, 34, 6, 64, 8, 7, .ro, 0⟩
/-- MOVERCH STATUS PEND_REQ (R468). -/
def R.MOVERCH_STATUS_PEND_REQ : Fld := ⟨.MOVER, 34, 6, 64, 16, 8, .ro, 0⟩
/-- MOVERCH STATUS ERR_CODE (R468). -/
def R.MOVERCH_STATUS_ERR_CODE : Fld := ⟨.MOVER, 34, 6, 64, 24, 8, .ro, 0⟩
/-- MOVERCH STATUS BYTES (R468). -/
def R.MOVERCH_STATUS_BYTES : Fld := ⟨.MOVER, 34, 6, 64, 32, 32, .ro, 0⟩
/-- MOVERCH TRIG_SEC (R468). -/
def R.MOVERCH_TRIG_SEC : Fld := ⟨.MOVER, 35, 6, 64, 0, 48, .rw, 0⟩
/-- MOVERCH TRIG_NS (R468). -/
def R.MOVERCH_TRIG_NS : Fld := ⟨.MOVER, 36, 6, 64, 0, 32, .rw, 0⟩
/-- MOVERCH TRIG_NS PHASE (R468). -/
def R.MOVERCH_TRIG_NS_PHASE : Fld := ⟨.MOVER, 36, 6, 64, 32, 24, .rw, 0⟩
/-- MOVERCH CRC (R468). -/
def R.MOVERCH_CRC : Fld := ⟨.MOVER, 37, 6, 64, 0, 64, .ro, 0⟩

/-- STORE FRAMES_IN (R469). -/
def R.STORE_FRAMES_IN : Fld := ⟨.STORE, 8, 0, 1, 0, 64, .rc, 0⟩
/-- STORE FRAMES_OUT (R469). -/
def R.STORE_FRAMES_OUT : Fld := ⟨.STORE, 9, 0, 1, 0, 64, .rc, 0⟩
/-- STORE PLACED_BYTES (R469). -/
def R.STORE_PLACED_BYTES : Fld := ⟨.STORE, 10, 0, 1, 0, 64, .rc, 0⟩
/-- STORE DGST_FAIL (R469). -/
def R.STORE_DGST_FAIL : Fld := ⟨.STORE, 11, 0, 1, 0, 64, .rc, 0⟩
/-- STORE PASS (R469). -/
def R.STORE_PASS : Fld := ⟨.STORE, 12, 0, 1, 0, 64, .rc, 0⟩
/-- STORE LAST_DROP CODE (R469). -/
def R.STORE_LAST_DROP_CODE : Fld := ⟨.STORE, 13, 0, 1, 0, 8, .ro, 0⟩
/-- STORE LAST_DROP CONN (R469). -/
def R.STORE_LAST_DROP_CONN : Fld := ⟨.STORE, 13, 0, 1, 8, 17, .ro, 0⟩
/-- STORE LAST_DROP NOTCH (R469). -/
def R.STORE_LAST_DROP_NOTCH : Fld := ⟨.STORE, 13, 0, 1, 32, 32, .ro, 0⟩
/-- STORE EVENTS (R469). -/
def R.STORE_EVENTS : Fld := ⟨.STORE, 14, 0, 1, 0, 4, .w1c, 0⟩
/-- STORE DROPS (R469). -/
def R.STORE_DROPS : Fld := ⟨.STORE, 32, 1, 6, 0, 64, .rc, 0⟩

/-- EVT SWSET (R491). -/
def R.EVT_SWSET : Fld := ⟨.EVT, 8, 0, 1, 0, 64, .w1s, 0⟩
/-- EVT HOST_EOI SOURCE (R491). -/
def R.EVT_HOST_EOI_SOURCE : Fld := ⟨.EVT, 9, 0, 1, 0, 11, .cmd, 0⟩
/-- EVT HOST_EOI STATUS (R491). -/
def R.EVT_HOST_EOI_STATUS : Fld := ⟨.EVT, 9, 0, 1, 16, 4, .cmd, 0⟩
/-- EVT PRESENTED (R491). -/
def R.EVT_PRESENTED : Fld := ⟨.EVT, 10, 0, 1, 0, 64, .rc, 0⟩
/-- EVT SPURIOUS (R491). -/
def R.EVT_SPURIOUS : Fld := ⟨.EVT, 11, 0, 1, 0, 64, .rc, 0⟩
/-- EVT ROTOR CORE (R491). -/
def R.EVT_ROTOR_CORE : Fld := ⟨.EVT, 12, 0, 1, 0, 4, .ro, 0⟩
/-- EVT SEV_PRIO (R491). -/
def R.EVT_SEV_PRIO : Fld := ⟨.EVT, 13, 1, 4, 0, 6, .rw, 0⟩
/-- EVT CORE RUN_PRIO (R491). -/
def R.EVT_CORE_RUN_PRIO : Fld := ⟨.EVT, 32, 1, 16, 0, 6, .ro, 0⟩
/-- EVT CORE IE (R491). -/
def R.EVT_CORE_IE : Fld := ⟨.EVT, 32, 1, 16, 6, 1, .ro, 0⟩
/-- EVT CORE HALTED (R491). -/
def R.EVT_CORE_HALTED : Fld := ⟨.EVT, 32, 1, 16, 7, 1, .ro, 0⟩
/-- EVT CORE STOPPED (R491). -/
def R.EVT_CORE_STOPPED : Fld := ⟨.EVT, 32, 1, 16, 8, 1, .ro, 0⟩
/-- EVT CORE OUTST_VALID (R491). -/
def R.EVT_CORE_OUTST_VALID : Fld := ⟨.EVT, 32, 1, 16, 9, 1, .ro, 0⟩
/-- EVT CORE OUTST (R491). -/
def R.EVT_CORE_OUTST : Fld := ⟨.EVT, 32, 1, 16, 16, 11, .ro, 0⟩
/-- EVT CORE DEPTH (R491). -/
def R.EVT_CORE_DEPTH : Fld := ⟨.EVT, 32, 1, 16, 32, 7, .ro, 0⟩
/-- EVT PEND_MAP (R491). -/
def R.EVT_PEND_MAP : Fld := ⟨.EVT, 64, 1, 32, 0, 64, .ro, 0⟩
/-- EVT ACTIVE_MAP (R491). -/
def R.EVT_ACTIVE_MAP : Fld := ⟨.EVT, 96, 1, 32, 0, 64, .ro, 0⟩

/-- HEALTH STATUS SAFE_HOLD (R519). -/
def R.HEALTH_STATUS_SAFE_HOLD : Fld := ⟨.HEALTH, 8, 0, 1, 0, 1, .ro, 0⟩
/-- HEALTH STATUS FATAL_OPEN (R519). -/
def R.HEALTH_STATUS_FATAL_OPEN : Fld := ⟨.HEALTH, 8, 0, 1, 8, 8, .ro, 0⟩
/-- HEALTH STATUS SPARE_READY (R519). -/
def R.HEALTH_STATUS_SPARE_READY : Fld := ⟨.HEALTH, 8, 0, 1, 16, 5, .ro, 0⟩
/-- HEALTH STATUS SLOTS_VACANT (R519). -/
def R.HEALTH_STATUS_SLOTS_VACANT : Fld := ⟨.HEALTH, 8, 0, 1, 24, 5, .ro, 0⟩
/-- HEALTH STATUS GLEN_CLK (R519). -/
def R.HEALTH_STATUS_GLEN_CLK : Fld := ⟨.HEALTH, 8, 0, 1, 32, 5, .ro, 16⟩
/-- HEALTH STATUS CTRL_STOPPED (R519). -/
def R.HEALTH_STATUS_CTRL_STOPPED : Fld := ⟨.HEALTH, 8, 0, 1, 40, 5, .ro, 0⟩
/-- HEALTH STATUS POWER_W (R519). -/
def R.HEALTH_STATUS_POWER_W : Fld := ⟨.HEALTH, 8, 0, 1, 48, 10, .ro, 0⟩
/-- HEALTH REPLACE REASON (R519). -/
def R.HEALTH_REPLACE_REASON : Fld := ⟨.HEALTH, 9, 0, 1, 0, 8, .ro, 0⟩
/-- HEALTH REPLACE REASONS (R519). -/
def R.HEALTH_REPLACE_REASONS : Fld := ⟨.HEALTH, 9, 0, 1, 16, 16, .ro, 0⟩
/-- HEALTH REPLACE NOTCH (R519). -/
def R.HEALTH_REPLACE_NOTCH : Fld := ⟨.HEALTH, 9, 0, 1, 32, 32, .ro, 0⟩
/-- HEALTH SAFE CAUSE (R519). -/
def R.HEALTH_SAFE_CAUSE : Fld := ⟨.HEALTH, 10, 0, 1, 0, 3, .ro, 0⟩
/-- HEALTH SAFE CLASS (R519). -/
def R.HEALTH_SAFE_CLASS : Fld := ⟨.HEALTH, 10, 0, 1, 3, 5, .ro, 0⟩
/-- HEALTH SAFE PAGE (R519). -/
def R.HEALTH_SAFE_PAGE : Fld := ⟨.HEALTH, 10, 0, 1, 8, 12, .ro, 0⟩
/-- HEALTH SAFE NOTCH (R519). -/
def R.HEALTH_SAFE_NOTCH : Fld := ⟨.HEALTH, 10, 0, 1, 32, 32, .ro, 0⟩
/-- HEALTH LAST_SAFE (R519). -/
def R.HEALTH_LAST_SAFE : Fld := ⟨.HEALTH, 11, 0, 1, 0, 64, .ro, 0⟩
/-- HEALTH ERRS (R519). -/
def R.HEALTH_ERRS : Fld := ⟨.HEALTH, 12, 1, 4, 0, 64, .rc, 0⟩
/-- HEALTH HBM REMAPPED (R519). -/
def R.HEALTH_HBM_REMAPPED : Fld := ⟨.HEALTH, 16, 1, 2, 0, 9, .ro, 0⟩
/-- HEALTH HBM FAILED (R519). -/
def R.HEALTH_HBM_FAILED : Fld := ⟨.HEALTH, 16, 1, 2, 16, 9, .ro, 0⟩
/-- HEALTH HBM VISIBLE (R519). -/
def R.HEALTH_HBM_VISIBLE : Fld := ⟨.HEALTH, 16, 1, 2, 32, 14, .ro, 0⟩
/-- HEALTH HBM_CFG CORR_LIMIT (R519). -/
def R.HEALTH_HBM_CFG_CORR_LIMIT : Fld := ⟨.HEALTH, 18, 0, 1, 0, 16, .rwl, 16⟩
/-- HEALTH HBM_CFG WINDOW (R519). -/
def R.HEALTH_HBM_CFG_WINDOW : Fld := ⟨.HEALTH, 18, 0, 1, 16, 32, .rwl, 937500000⟩
/-- HEALTH BASIN_HCFG CORR_LIMIT (R519). -/
def R.HEALTH_BASIN_HCFG_CORR_LIMIT : Fld := ⟨.HEALTH, 19, 0, 1, 0, 16, .rwl, 64⟩
/-- HEALTH BASIN_HCFG AUTO_MAX (R519). -/
def R.HEALTH_BASIN_HCFG_AUTO_MAX : Fld := ⟨.HEALTH, 19, 0, 1, 16, 4, .rwl, 4⟩
/-- HEALTH CELLS_LEAKED (R519). -/
def R.HEALTH_CELLS_LEAKED : Fld := ⟨.HEALTH, 20, 0, 1, 0, 20, .ro, 0⟩
/-- HEALTH SSTORE WEAR (R519). -/
def R.HEALTH_SSTORE_WEAR : Fld := ⟨.HEALTH, 21, 1, 2, 0, 8, .ro, 0⟩
/-- HEALTH SSTORE PE_FAIL (R519). -/
def R.HEALTH_SSTORE_PE_FAIL : Fld := ⟨.HEALTH, 21, 1, 2, 16, 16, .ro, 0⟩
/-- HEALTH SSTORE WEAR_LIMIT (R519). -/
def R.HEALTH_SSTORE_WEAR_LIMIT : Fld := ⟨.HEALTH, 21, 1, 2, 40, 8, .rwl, 80⟩
/-- HEALTH PHASES FAILED_MAP (R519). -/
def R.HEALTH_PHASES_FAILED_MAP : Fld := ⟨.HEALTH, 23, 0, 1, 0, 12, .ro, 0⟩
/-- HEALTH CMD CODE (R519). -/
def R.HEALTH_CMD_CODE : Fld := ⟨.HEALTH, 24, 0, 1, 0, 4, .cmd, 0⟩
/-- HEALTH CMD ARG_STACK (R519). -/
def R.HEALTH_CMD_ARG_STACK : Fld := ⟨.HEALTH, 24, 0, 1, 4, 1, .cmd, 0⟩
/-- HEALTH CMD ARG_INDEX (R519). -/
def R.HEALTH_CMD_ARG_INDEX : Fld := ⟨.HEALTH, 24, 0, 1, 8, 14, .cmd, 0⟩
/-- HEALTH CMD ARG_REASONS (R519). -/
def R.HEALTH_CMD_ARG_REASONS : Fld := ⟨.HEALTH, 24, 0, 1, 22, 10, .cmd, 0⟩
/-- HEALTH CMD STATUS (R519). -/
def R.HEALTH_CMD_STATUS : Fld := ⟨.HEALTH, 24, 0, 1, 48, 4, .cmd, 0⟩
/-- HEALTH EVENTS (R519). -/
def R.HEALTH_EVENTS : Fld := ⟨.HEALTH, 25, 0, 1, 0, 6, .w1c, 0⟩

/-- ROLE SESS_CMD CODE (R555). -/
def R.ROLE_SESS_CMD_CODE : Fld := ⟨.ROLE, 8, 0, 1, 0, 4, .cmd, 0⟩
/-- ROLE SESS_CMD ARG_ROLE (R555). -/
def R.ROLE_SESS_CMD_ARG_ROLE : Fld := ⟨.ROLE, 8, 0, 1, 4, 2, .cmd, 0⟩
/-- ROLE SESS_CMD ARG_SLOT (R555). -/
def R.ROLE_SESS_CMD_ARG_SLOT : Fld := ⟨.ROLE, 8, 0, 1, 6, 4, .cmd, 0⟩
/-- ROLE SESS_CMD STATUS (R555). -/
def R.ROLE_SESS_CMD_STATUS : Fld := ⟨.ROLE, 8, 0, 1, 16, 4, .cmd, 0⟩
/-- ROLE SESS_STATE OPEN (R555). -/
def R.ROLE_SESS_STATE_OPEN : Fld := ⟨.ROLE, 9, 0, 1, 0, 1, .ro, 0⟩
/-- ROLE SESS_STATE ROLE (R555). -/
def R.ROLE_SESS_STATE_ROLE : Fld := ⟨.ROLE, 9, 0, 1, 1, 2, .ro, 0⟩
/-- ROLE SESS_STATE SLOT (R555). -/
def R.ROLE_SESS_STATE_SLOT : Fld := ⟨.ROLE, 9, 0, 1, 3, 4, .ro, 0⟩
/-- ROLE SESS_STATE LOCKED (R555). -/
def R.ROLE_SESS_STATE_LOCKED : Fld := ⟨.ROLE, 9, 0, 1, 7, 1, .ro, 0⟩
/-- ROLE SESS_STATE IDLE_LEFT (R555). -/
def R.ROLE_SESS_STATE_IDLE_LEFT : Fld := ⟨.ROLE, 9, 0, 1, 16, 32, .ro, 0⟩
/-- ROLE CHALLENGE (R555). -/
def R.ROLE_CHALLENGE : Fld := ⟨.ROLE, 10, 1, 4, 0, 64, .ro, 0⟩
/-- ROLE COUNTER (R555). -/
def R.ROLE_COUNTER : Fld := ⟨.ROLE, 14, 0, 1, 0, 64, .ro, 0⟩
/-- ROLE SIG_ADDR (R555). -/
def R.ROLE_SIG_ADDR : Fld := ⟨.ROLE, 15, 0, 1, 0, 64, .rw, 0⟩
/-- ROLE SESS_CFG IDLE_S (R555). -/
def R.ROLE_SESS_CFG_IDLE_S : Fld := ⟨.ROLE, 16, 0, 1, 0, 16, .rwl, 900⟩
/-- ROLE KEY_CMD CODE (R555). -/
def R.ROLE_KEY_CMD_CODE : Fld := ⟨.ROLE, 17, 0, 1, 0, 4, .cmd, 0⟩
/-- ROLE KEY_CMD ARG_CLASS (R555). -/
def R.ROLE_KEY_CMD_ARG_CLASS : Fld := ⟨.ROLE, 17, 0, 1, 4, 2, .cmd, 0⟩
/-- ROLE KEY_CMD ARG_SLOT (R555). -/
def R.ROLE_KEY_CMD_ARG_SLOT : Fld := ⟨.ROLE, 17, 0, 1, 6, 4, .cmd, 0⟩
/-- ROLE KEY_CMD STATUS (R555). -/
def R.ROLE_KEY_CMD_STATUS : Fld := ⟨.ROLE, 17, 0, 1, 16, 4, .cmd, 0⟩
/-- ROLE KEY_ADDR (R555). -/
def R.ROLE_KEY_ADDR : Fld := ⟨.ROLE, 18, 0, 1, 0, 64, .rw, 0⟩
/-- ROLE JOURNAL_SEQ (R555). -/
def R.ROLE_JOURNAL_SEQ : Fld := ⟨.ROLE, 20, 0, 1, 0, 64, .ro, 0⟩
/-- ROLE JOURNAL_HEAD (R555). -/
def R.ROLE_JOURNAL_HEAD : Fld := ⟨.ROLE, 21, 1, 4, 0, 64, .ro, 0⟩
/-- ROLE JOURNAL_STAT BUFFERED (R555). -/
def R.ROLE_JOURNAL_STAT_BUFFERED : Fld := ⟨.ROLE, 25, 0, 1, 0, 11, .ro, 0⟩
/-- ROLE JOURNAL_STAT REFUSED (R555). -/
def R.ROLE_JOURNAL_STAT_REFUSED : Fld := ⟨.ROLE, 25, 0, 1, 32, 32, .rc, 0⟩
/-- ROLE EVENTS (R555). -/
def R.ROLE_EVENTS : Fld := ⟨.ROLE, 26, 0, 1, 0, 5, .w1c, 0⟩
/-- ROLE ATTEST LEAF_NEXT (R555). -/
def R.ROLE_ATTEST_LEAF_NEXT : Fld := ⟨.ROLE, 27, 0, 1, 0, 41, .ro, 0⟩
/-- ROLE ATTEST_RES END (R555). -/
def R.ROLE_ATTEST_RES_END : Fld := ⟨.ROLE, 28, 0, 1, 0, 41, .ro, 0⟩
/-- ROLE ATTEST_FP (R555). -/
def R.ROLE_ATTEST_FP : Fld := ⟨.ROLE, 29, 1, 2, 0, 64, .ro, 0⟩

end Sys2Proof.Machine
end

