-- ==== Sys2Proof/Machine/RegsC.lean ====
section
/-! DEFINITION. The register fields of the pages and window objects SSTORE, BOOT, CTRLCORE, HDR, RULE, FLOW, FLOWBKT, ROUTEBKT, MACBKT, ROUTE, MACENT, MOVELOG, VRF, FILTER, CELL, LEAFREC, ECSTAT, LEAF, NODE, ECLASS, POLICER, GATE, GATEENT, SA, CONN, SRC, HBMREG, BANK, each with its place, access code and reset value as its table of spec/ gives them.
A field whose value after reset is per start, per page or per variant has 0 here and its own rule in Machine/Store.lean. -/

namespace Sys2Proof.Machine

/-- SSTORE DEV PRESENT (R558). -/
def R.SSTORE_DEV_PRESENT : Fld := ⟨.SSTORE, 8, 1, 2, 0, 1, .ro, 0⟩
/-- SSTORE DEV SFDP_OK (R558). -/
def R.SSTORE_DEV_SFDP_OK : Fld := ⟨.SSTORE, 8, 1, 2, 1, 1, .ro, 0⟩
/-- SSTORE DEV MIB (R558). -/
def R.SSTORE_DEV_MIB : Fld := ⟨.SSTORE, 8, 1, 2, 4, 12, .ro, 0⟩
/-- SSTORE FW ACTIVE (R558). -/
def R.SSTORE_FW_ACTIVE : Fld := ⟨.SSTORE, 10, 0, 1, 0, 1, .ro, 0⟩
/-- SSTORE FW VALID_A (R558). -/
def R.SSTORE_FW_VALID_A : Fld := ⟨.SSTORE, 10, 0, 1, 1, 1, .ro, 0⟩
/-- SSTORE FW VALID_B (R558). -/
def R.SSTORE_FW_VALID_B : Fld := ⟨.SSTORE, 10, 0, 1, 2, 1, .ro, 0⟩
/-- SSTORE FW_GEN (R558). -/
def R.SSTORE_FW_GEN : Fld := ⟨.SSTORE, 11, 1, 2, 0, 64, .ro, 0⟩
/-- SSTORE FW_FLOOR (R558). -/
def R.SSTORE_FW_FLOOR : Fld := ⟨.SSTORE, 13, 0, 1, 0, 64, .rwl, 0⟩
/-- SSTORE SET ACTIVE (R558). -/
def R.SSTORE_SET_ACTIVE : Fld := ⟨.SSTORE, 14, 0, 1, 0, 1, .ro, 0⟩
/-- SSTORE SET VALID_A (R558). -/
def R.SSTORE_SET_VALID_A : Fld := ⟨.SSTORE, 14, 0, 1, 1, 1, .ro, 0⟩
/-- SSTORE SET VALID_B (R558). -/
def R.SSTORE_SET_VALID_B : Fld := ⟨.SSTORE, 14, 0, 1, 2, 1, .ro, 0⟩
/-- SSTORE SET_GEN (R558). -/
def R.SSTORE_SET_GEN : Fld := ⟨.SSTORE, 15, 1, 2, 0, 64, .ro, 0⟩
/-- SSTORE SRC_ADDR (R558). -/
def R.SSTORE_SRC_ADDR : Fld := ⟨.SSTORE, 17, 0, 1, 0, 64, .rw, 0⟩
/-- SSTORE SRC_LEN (R558). -/
def R.SSTORE_SRC_LEN : Fld := ⟨.SSTORE, 18, 0, 1, 0, 32, .rw, 0⟩
/-- SSTORE CMD CODE (R558). -/
def R.SSTORE_CMD_CODE : Fld := ⟨.SSTORE, 19, 0, 1, 0, 4, .cmd, 0⟩
/-- SSTORE CMD SRC (R558). -/
def R.SSTORE_CMD_SRC : Fld := ⟨.SSTORE, 19, 0, 1, 4, 1, .cmd, 0⟩
/-- SSTORE CMD STATUS (R558). -/
def R.SSTORE_CMD_STATUS : Fld := ⟨.SSTORE, 19, 0, 1, 16, 8, .cmd, 0⟩
/-- SSTORE EVENTS (R558). -/
def R.SSTORE_EVENTS : Fld := ⟨.SSTORE, 20, 0, 1, 0, 4, .w1c, 0⟩

/-- BOOT STATUS STAGE (R579). -/
def R.BOOT_STATUS_STAGE : Fld := ⟨.BOOT, 8, 0, 1, 0, 3, .ro, 0⟩
/-- BOOT STATUS CAUSE (R579). -/
def R.BOOT_STATUS_CAUSE : Fld := ⟨.BOOT, 8, 0, 1, 4, 2, .ro, 0⟩
/-- BOOT STATUS FW_TRIAL (R579). -/
def R.BOOT_STATUS_FW_TRIAL : Fld := ⟨.BOOT, 8, 0, 1, 8, 1, .ro, 0⟩
/-- BOOT STATUS FW_FALLBACK (R579). -/
def R.BOOT_STATUS_FW_FALLBACK : Fld := ⟨.BOOT, 8, 0, 1, 9, 1, .ro, 0⟩
/-- BOOT STATUS SET_FALLBACK (R579). -/
def R.BOOT_STATUS_SET_FALLBACK : Fld := ⟨.BOOT, 8, 0, 1, 10, 1, .ro, 0⟩
/-- BOOT STATUS SET_NONE (R579). -/
def R.BOOT_STATUS_SET_NONE : Fld := ⟨.BOOT, 8, 0, 1, 11, 1, .ro, 0⟩
/-- BOOT STATUS COMMITTED_SLOT (R579). -/
def R.BOOT_STATUS_COMMITTED_SLOT : Fld := ⟨.BOOT, 8, 0, 1, 12, 1, .ro, 0⟩
/-- BOOT T_STAGE1 T_FW (R579). -/
def R.BOOT_T_STAGE1_T_FW : Fld := ⟨.BOOT, 9, 0, 1, 0, 32, .ro, 0⟩
/-- BOOT T_STAGE1 T_SET (R579). -/
def R.BOOT_T_STAGE1_T_SET : Fld := ⟨.BOOT, 9, 0, 1, 32, 32, .ro, 0⟩
/-- BOOT T_STAGE2 T_GLENS (R579). -/
def R.BOOT_T_STAGE2_T_GLENS : Fld := ⟨.BOOT, 10, 0, 1, 0, 32, .ro, 0⟩
/-- BOOT T_STAGE2 T_SERVICE (R579). -/
def R.BOOT_T_STAGE2_T_SERVICE : Fld := ⟨.BOOT, 10, 0, 1, 32, 32, .ro, 0⟩
/-- BOOT CMD CODE (R579). -/
def R.BOOT_CMD_CODE : Fld := ⟨.BOOT, 11, 0, 1, 0, 4, .cmd, 0⟩
/-- BOOT CMD ARG_SLOT (R579). -/
def R.BOOT_CMD_ARG_SLOT : Fld := ⟨.BOOT, 11, 0, 1, 4, 1, .cmd, 0⟩
/-- BOOT CMD STATUS (R579). -/
def R.BOOT_CMD_STATUS : Fld := ⟨.BOOT, 11, 0, 1, 8, 8, .cmd, 0⟩
/-- BOOT TRIAL LIMIT_S (R579). -/
def R.BOOT_TRIAL_LIMIT_S : Fld := ⟨.BOOT, 12, 0, 1, 0, 16, .rwl, 600⟩
/-- BOOT TRIAL LEFT_S (R579). -/
def R.BOOT_TRIAL_LEFT_S : Fld := ⟨.BOOT, 12, 0, 1, 32, 16, .ro, 0⟩
/-- BOOT WDOG KICKS (R579). -/
def R.BOOT_WDOG_KICKS : Fld := ⟨.BOOT, 13, 0, 1, 0, 32, .ro, 0⟩
/-- BOOT WDOG LAST (R579). -/
def R.BOOT_WDOG_LAST : Fld := ⟨.BOOT, 13, 0, 1, 32, 32, .ro, 0⟩
/-- BOOT EVENTS (R579). -/
def R.BOOT_EVENTS : Fld := ⟨.BOOT, 14, 0, 1, 0, 5, .w1c, 0⟩

/-- CTRLCORE STOPPED MAP (R603). -/
def R.CTRLCORE_STOPPED_MAP : Fld := ⟨.CTRLCORE, 8, 0, 1, 0, 16, .ro, 0⟩
/-- CTRLCORE EVENTS (R603). -/
def R.CTRLCORE_EVENTS : Fld := ⟨.CTRLCORE, 9, 0, 1, 0, 1, .w1c, 0⟩
/-- CTRLCORE CORE STOPPED (R603). -/
def R.CTRLCORE_CORE_STOPPED : Fld := ⟨.CTRLCORE, 32, 1, 16, 0, 1, .ro, 0⟩
/-- CTRLCORE CORE CAUSE (R603). -/
def R.CTRLCORE_CORE_CAUSE : Fld := ⟨.CTRLCORE, 32, 1, 16, 8, 8, .ro, 0⟩
/-- CTRLCORE CORE EPC (R603). -/
def R.CTRLCORE_CORE_EPC : Fld := ⟨.CTRLCORE, 32, 1, 16, 32, 19, .ro, 0⟩

/-- HDR PAGE_ID INDEX (R584). -/
def R.HDR_PAGE_ID_INDEX : Fld := ⟨.HDR, 0, 0, 1, 0, 13, .ro, 0⟩
/-- HDR PAGE_ID TYPE (R584). -/
def R.HDR_PAGE_ID_TYPE : Fld := ⟨.HDR, 0, 0, 1, 16, 8, .ro, 0⟩
/-- HDR PAGE_ID UNIT (R584). -/
def R.HDR_PAGE_ID_UNIT : Fld := ⟨.HDR, 0, 0, 1, 24, 8, .ro, 0⟩
/-- HDR PAGE_VER VER (R584). -/
def R.HDR_PAGE_VER_VER : Fld := ⟨.HDR, 1, 0, 1, 0, 8, .ro, 1⟩
/-- HDR PAGE_CAP PRESENT (R584). -/
def R.HDR_PAGE_CAP_PRESENT : Fld := ⟨.HDR, 1, 0, 1, 32, 1, .ro, 0⟩
/-- HDR PAGE_CAP WINDOW (R584). -/
def R.HDR_PAGE_CAP_WINDOW : Fld := ⟨.HDR, 1, 0, 1, 33, 1, .ro, 0⟩
/-- HDR PAGE_CAP HOLD_OK (R584). -/
def R.HDR_PAGE_CAP_HOLD_OK : Fld := ⟨.HDR, 1, 0, 1, 34, 1, .ro, 0⟩
/-- HDR PAGE_CAP WIN_OFF (R584). -/
def R.HDR_PAGE_CAP_WIN_OFF : Fld := ⟨.HDR, 1, 0, 1, 36, 12, .ro, 0⟩
/-- HDR PAGE_STATUS ROLE_NOW (R584). -/
def R.HDR_PAGE_STATUS_ROLE_NOW : Fld := ⟨.HDR, 2, 0, 1, 0, 3, .ro, 0⟩
/-- HDR PAGE_STATUS PATH (R584). -/
def R.HDR_PAGE_STATUS_PATH : Fld := ⟨.HDR, 2, 0, 1, 3, 5, .ro, 0⟩
/-- HDR PAGE_STATUS SAFE_HOLD (R584). -/
def R.HDR_PAGE_STATUS_SAFE_HOLD : Fld := ⟨.HDR, 2, 0, 1, 8, 1, .ro, 0⟩
/-- HDR PAGE_ACCESS WRITE_ROLE (R584). -/
def R.HDR_PAGE_ACCESS_WRITE_ROLE : Fld := ⟨.HDR, 2, 0, 1, 32, 2, .ro, 0⟩
/-- HDR PAGE_ACCESS AUDIT (R584). -/
def R.HDR_PAGE_ACCESS_AUDIT : Fld := ⟨.HDR, 2, 0, 1, 34, 1, .ro, 0⟩
/-- HDR EVT_MASK MASK (R585). -/
def R.HDR_EVT_MASK_MASK : Fld := ⟨.HDR, 7, 0, 1, 0, 32, .rwl, 0⟩
/-- HDR UPD_CTRL HOLD (R585). -/
def R.HDR_UPD_CTRL_HOLD : Fld := ⟨.HDR, 7, 0, 1, 32, 1, .rw, 0⟩
/-- HDR UPD_CTRL DROP (R585). -/
def R.HDR_UPD_CTRL_DROP : Fld := ⟨.HDR, 7, 0, 1, 33, 1, .rw, 0⟩
/-- HDR UPD_CTRL STAGED (R585). -/
def R.HDR_UPD_CTRL_STAGED : Fld := ⟨.HDR, 7, 0, 1, 40, 7, .ro, 0⟩
/-- HDR UPD_CTRL OVERFLOW (R585). -/
def R.HDR_UPD_CTRL_OVERFLOW : Fld := ⟨.HDR, 7, 0, 1, 47, 1, .ro, 0⟩
/-- HDR ERR_FIRST VALID (R495). -/
def R.HDR_ERR_FIRST_VALID : Fld := ⟨.HDR, 3, 0, 1, 0, 1, .w1c, 0⟩
/-- HDR ERR_FIRST SEV (R495). -/
def R.HDR_ERR_FIRST_SEV : Fld := ⟨.HDR, 3, 0, 1, 1, 2, .ro, 0⟩
/-- HDR ERR_FIRST CLASS (R495). -/
def R.HDR_ERR_FIRST_CLASS : Fld := ⟨.HDR, 3, 0, 1, 3, 5, .ro, 0⟩
/-- HDR ERR_FIRST CODE (R495). -/
def R.HDR_ERR_FIRST_CODE : Fld := ⟨.HDR, 3, 0, 1, 8, 8, .ro, 0⟩
/-- HDR ERR_FIRST INSTANCE (R495). -/
def R.HDR_ERR_FIRST_INSTANCE : Fld := ⟨.HDR, 3, 0, 1, 16, 12, .ro, 0⟩
/-- HDR ERR_FIRST INST_VALID (R495). -/
def R.HDR_ERR_FIRST_INST_VALID : Fld := ⟨.HDR, 3, 0, 1, 28, 1, .ro, 0⟩
/-- HDR ERR_FIRST NOTCH (R495). -/
def R.HDR_ERR_FIRST_NOTCH : Fld := ⟨.HDR, 3, 0, 1, 32, 32, .ro, 0⟩
/-- HDR ERR_FIRST DETAIL (R495). -/
def R.HDR_ERR_FIRST_DETAIL : Fld := ⟨.HDR, 4, 0, 1, 0, 64, .ro, 0⟩
/-- HDR ERR_MORE COUNT (R495). -/
def R.HDR_ERR_MORE_COUNT : Fld := ⟨.HDR, 5, 0, 1, 0, 16, .ro, 0⟩
/-- HDR ERR_MORE MAX_SEV (R495). -/
def R.HDR_ERR_MORE_MAX_SEV : Fld := ⟨.HDR, 5, 0, 1, 16, 2, .ro, 0⟩
/-- HDR ERR_CLASSES CLASSES (R495). -/
def R.HDR_ERR_CLASSES_CLASSES : Fld := ⟨.HDR, 5, 0, 1, 32, 32, .ro, 0⟩
/-- HDR ERR_LAST VALID (R495). -/
def R.HDR_ERR_LAST_VALID : Fld := ⟨.HDR, 6, 0, 1, 0, 1, .ro, 0⟩
/-- HDR ERR_LAST SEV (R495). -/
def R.HDR_ERR_LAST_SEV : Fld := ⟨.HDR, 6, 0, 1, 1, 2, .ro, 0⟩
/-- HDR ERR_LAST CLASS (R495). -/
def R.HDR_ERR_LAST_CLASS : Fld := ⟨.HDR, 6, 0, 1, 3, 5, .ro, 0⟩
/-- HDR ERR_LAST NOTCH (R495). -/
def R.HDR_ERR_LAST_NOTCH : Fld := ⟨.HDR, 6, 0, 1, 32, 32, .ro, 0⟩

/-- RULE CTRL VALID (R242). -/
def R.RULE_CTRL_VALID : Fld := ⟨.RULE, 0, 0, 1, 0, 1, .rw, 0⟩
/-- RULE CTRL PRIO (R242). -/
def R.RULE_CTRL_PRIO : Fld := ⟨.RULE, 0, 0, 1, 16, 16, .rw, 0⟩
/-- RULE ACT0 (R242). -/
def R.RULE_ACT0 : Fld := ⟨.RULE, 1, 0, 1, 0, 64, .rw, 0⟩
/-- RULE ACT1 (R242). -/
def R.RULE_ACT1 : Fld := ⟨.RULE, 2, 0, 1, 0, 64, .rw, 0⟩
/-- RULE VALUE (R242). -/
def R.RULE_VALUE : Fld := ⟨.RULE, 3, 1, 8, 0, 64, .rw, 0⟩
/-- RULE MASK (R242). -/
def R.RULE_MASK : Fld := ⟨.RULE, 11, 1, 8, 0, 64, .rw, 0⟩
/-- RULE PARITY_ERR (R242). -/
def R.RULE_PARITY_ERR : Fld := ⟨.RULE, 19, 0, 1, 0, 1, .ro, 0⟩

/-- FLOW W0 VALID (R250). -/
def R.FLOW_W0_VALID : Fld := ⟨.FLOW, 0, 0, 1, 0, 1, .ro, 0⟩
/-- FLOW W0 TABLE (R250). -/
def R.FLOW_W0_TABLE : Fld := ⟨.FLOW, 0, 0, 1, 1, 4, .ro, 0⟩
/-- FLOW W0 STATIC (R250). -/
def R.FLOW_W0_STATIC : Fld := ⟨.FLOW, 0, 0, 1, 5, 1, .rw, 0⟩
/-- FLOW W0 BANK (R250). -/
def R.FLOW_W0_BANK : Fld := ⟨.FLOW, 0, 0, 1, 6, 1, .ro, 0⟩
/-- FLOW W0 SLOT (R250). -/
def R.FLOW_W0_SLOT : Fld := ⟨.FLOW, 0, 0, 1, 7, 3, .ro, 0⟩
/-- FLOW W0 BUCKET (R250). -/
def R.FLOW_W0_BUCKET : Fld := ⟨.FLOW, 0, 0, 1, 10, 22, .ro, 0⟩
/-- FLOW W0 STAMP (R250). -/
def R.FLOW_W0_STAMP : Fld := ⟨.FLOW, 0, 0, 1, 32, 32, .ro, 0⟩
/-- FLOW KEY (R250). -/
def R.FLOW_KEY : Fld := ⟨.FLOW, 2, 1, 8, 0, 64, .ro, 0⟩
/-- FLOW DATA (R250). -/
def R.FLOW_DATA : Fld := ⟨.FLOW, 10, 1, 4, 0, 64, .rw, 0⟩

/-- FLOWBKT SLOT SIG (R249). -/
def R.FLOWBKT_SLOT_SIG : Fld := ⟨.FLOWBKT, 0, 1, 8, 0, 16, .ro, 0⟩
/-- FLOWBKT SLOT ENTRY (R249). -/
def R.FLOWBKT_SLOT_ENTRY : Fld := ⟨.FLOWBKT, 0, 1, 8, 16, 25, .ro, 0⟩
/-- FLOWBKT SLOT ALT (R249). -/
def R.FLOWBKT_SLOT_ALT : Fld := ⟨.FLOWBKT, 0, 1, 8, 41, 22, .ro, 0⟩

/-- ROUTEBKT SLOT SIG (R249). -/
def R.ROUTEBKT_SLOT_SIG : Fld := ⟨.ROUTEBKT, 0, 1, 8, 0, 16, .ro, 0⟩
/-- ROUTEBKT SLOT ENTRY (R249). -/
def R.ROUTEBKT_SLOT_ENTRY : Fld := ⟨.ROUTEBKT, 0, 1, 8, 16, 25, .ro, 0⟩
/-- ROUTEBKT SLOT ALT (R249). -/
def R.ROUTEBKT_SLOT_ALT : Fld := ⟨.ROUTEBKT, 0, 1, 8, 41, 22, .ro, 0⟩

/-- MACBKT SLOT SIG (R249). -/
def R.MACBKT_SLOT_SIG : Fld := ⟨.MACBKT, 0, 1, 8, 0, 16, .ro, 0⟩
/-- MACBKT SLOT ENTRY (R249). -/
def R.MACBKT_SLOT_ENTRY : Fld := ⟨.MACBKT, 0, 1, 8, 16, 25, .ro, 0⟩
/-- MACBKT SLOT ALT (R249). -/
def R.MACBKT_SLOT_ALT : Fld := ⟨.MACBKT, 0, 1, 8, 41, 22, .ro, 0⟩

/-- ROUTE W0 VALID (R251). -/
def R.ROUTE_W0_VALID : Fld := ⟨.ROUTE, 0, 0, 1, 0, 1, .ro, 0⟩
/-- ROUTE W0 FAMILY (R251). -/
def R.ROUTE_W0_FAMILY : Fld := ⟨.ROUTE, 0, 0, 1, 1, 1, .ro, 0⟩
/-- ROUTE W0 BANK (R251). -/
def R.ROUTE_W0_BANK : Fld := ⟨.ROUTE, 0, 0, 1, 2, 1, .ro, 0⟩
/-- ROUTE W0 SLOT (R251). -/
def R.ROUTE_W0_SLOT : Fld := ⟨.ROUTE, 0, 0, 1, 3, 3, .ro, 0⟩
/-- ROUTE W0 BUCKET (R251). -/
def R.ROUTE_W0_BUCKET : Fld := ⟨.ROUTE, 0, 0, 1, 6, 19, .ro, 0⟩
/-- ROUTE W0 LEN (R251). -/
def R.ROUTE_W0_LEN : Fld := ⟨.ROUTE, 0, 0, 1, 32, 8, .ro, 0⟩
/-- ROUTE W0 VRF (R251). -/
def R.ROUTE_W0_VRF : Fld := ⟨.ROUTE, 0, 0, 1, 40, 12, .ro, 0⟩
/-- ROUTE ADDR_HI (R251). -/
def R.ROUTE_ADDR_HI : Fld := ⟨.ROUTE, 1, 0, 1, 0, 64, .ro, 0⟩
/-- ROUTE ADDR_LO (R251). -/
def R.ROUTE_ADDR_LO : Fld := ⟨.ROUTE, 2, 0, 1, 0, 64, .ro, 0⟩
/-- ROUTE NEXT_HOP (R251). -/
def R.ROUTE_NEXT_HOP : Fld := ⟨.ROUTE, 3, 0, 1, 0, 64, .rw, 0⟩

/-- MACENT W0 VALID (R251). -/
def R.MACENT_W0_VALID : Fld := ⟨.MACENT, 0, 0, 1, 0, 1, .ro, 0⟩
/-- MACENT W0 STATIC (R251). -/
def R.MACENT_W0_STATIC : Fld := ⟨.MACENT, 0, 0, 1, 1, 1, .rw, 0⟩
/-- MACENT W0 BANK (R251). -/
def R.MACENT_W0_BANK : Fld := ⟨.MACENT, 0, 0, 1, 2, 1, .ro, 0⟩
/-- MACENT W0 SLOT (R251). -/
def R.MACENT_W0_SLOT : Fld := ⟨.MACENT, 0, 0, 1, 3, 3, .ro, 0⟩
/-- MACENT W0 BUCKET (R251). -/
def R.MACENT_W0_BUCKET : Fld := ⟨.MACENT, 0, 0, 1, 6, 16, .ro, 0⟩
/-- MACENT W0 STAMP (R251). -/
def R.MACENT_W0_STAMP : Fld := ⟨.MACENT, 0, 0, 1, 32, 32, .ro, 0⟩
/-- MACENT KEY (R251). -/
def R.MACENT_KEY : Fld := ⟨.MACENT, 1, 0, 1, 0, 64, .ro, 0⟩
/-- MACENT DATA (R251). -/
def R.MACENT_DATA : Fld := ⟨.MACENT, 2, 0, 1, 0, 64, .rw, 0⟩
/-- MACENT LEARNER (R251). -/
def R.MACENT_LEARNER : Fld := ⟨.MACENT, 3, 0, 1, 0, 12, .ro, 0⟩

/-- MOVELOG W0 STATE (R283). -/
def R.MOVELOG_W0_STATE : Fld := ⟨.MOVELOG, 0, 0, 1, 0, 2, .ro, 0⟩
/-- MOVELOG W0 TABLE (R283). -/
def R.MOVELOG_W0_TABLE : Fld := ⟨.MOVELOG, 0, 0, 1, 2, 5, .ro, 0⟩
/-- MOVELOG W0 CROSS (R283). -/
def R.MOVELOG_W0_CROSS : Fld := ⟨.MOVELOG, 0, 0, 1, 7, 1, .ro, 0⟩
/-- MOVELOG W0 ENTRY (R283). -/
def R.MOVELOG_W0_ENTRY : Fld := ⟨.MOVELOG, 0, 0, 1, 8, 25, .ro, 0⟩
/-- MOVELOG W0 FROM_BANK (R283). -/
def R.MOVELOG_W0_FROM_BANK : Fld := ⟨.MOVELOG, 0, 0, 1, 33, 1, .ro, 0⟩
/-- MOVELOG W0 TO_BANK (R283). -/
def R.MOVELOG_W0_TO_BANK : Fld := ⟨.MOVELOG, 0, 0, 1, 34, 1, .ro, 0⟩
/-- MOVELOG W1 FROM_BUCKET (R283). -/
def R.MOVELOG_W1_FROM_BUCKET : Fld := ⟨.MOVELOG, 1, 0, 1, 0, 22, .ro, 0⟩
/-- MOVELOG W1 FROM_SLOT (R283). -/
def R.MOVELOG_W1_FROM_SLOT : Fld := ⟨.MOVELOG, 1, 0, 1, 22, 3, .ro, 0⟩
/-- MOVELOG W1 TO_BUCKET (R283). -/
def R.MOVELOG_W1_TO_BUCKET : Fld := ⟨.MOVELOG, 1, 0, 1, 25, 22, .ro, 0⟩
/-- MOVELOG W1 TO_SLOT (R283). -/
def R.MOVELOG_W1_TO_SLOT : Fld := ⟨.MOVELOG, 1, 0, 1, 47, 3, .ro, 0⟩

/-- VRF W0 EN (R283). -/
def R.VRF_W0_EN : Fld := ⟨.VRF, 0, 0, 1, 0, 1, .rw, 0⟩
/-- VRF W0 FILTER_EN (R283). -/
def R.VRF_W0_FILTER_EN : Fld := ⟨.VRF, 0, 0, 1, 1, 1, .rw, 0⟩
/-- VRF MAP4 (R283). -/
def R.VRF_MAP4 : Fld := ⟨.VRF, 1, 0, 1, 0, 33, .ro, 0⟩
/-- VRF MAP6 (R283). -/
def R.VRF_MAP6 : Fld := ⟨.VRF, 2, 1, 2, 0, 64, .ro, 0⟩
/-- VRF MAP6TOP (R283). -/
def R.VRF_MAP6TOP : Fld := ⟨.VRF, 4, 0, 1, 0, 1, .ro, 0⟩

/-- FILTER COUNTERS (R283). -/
def R.FILTER_COUNTERS : Fld := ⟨.FILTER, 0, 0, 1, 0, 64, .ro, 0⟩

/-- CELL W0 NEXT (R313). -/
def R.CELL_W0_NEXT : Fld := ⟨.CELL, 0, 0, 1, 0, 20, .ro, 0⟩
/-- CELL W0 FIRST (R313). -/
def R.CELL_W0_FIRST : Fld := ⟨.CELL, 0, 0, 1, 20, 1, .ro, 0⟩
/-- CELL W0 LAST (R313). -/
def R.CELL_W0_LAST : Fld := ⟨.CELL, 0, 0, 1, 21, 1, .ro, 0⟩
/-- CELL W0 BYTES (R313). -/
def R.CELL_W0_BYTES : Fld := ⟨.CELL, 0, 0, 1, 22, 9, .ro, 0⟩
/-- CELL W0 STATE (R313). -/
def R.CELL_W0_STATE : Fld := ⟨.CELL, 0, 0, 1, 32, 2, .ro, 0⟩
/-- CELL W0 INGRESS (R313). -/
def R.CELL_W0_INGRESS : Fld := ⟨.CELL, 0, 0, 1, 34, 5, .ro, 0⟩

/-- LEAFREC W0 MAX_CELLS (R313). -/
def R.LEAFREC_W0_MAX_CELLS : Fld := ⟨.LEAFREC, 0, 0, 1, 0, 20, .rw, 65536⟩

/-- ECSTAT ADMITTED (R313). -/
def R.ECSTAT_ADMITTED : Fld := ⟨.ECSTAT, 0, 0, 1, 0, 64, .rc, 0⟩
/-- ECSTAT TAIL_DROP (R313). -/
def R.ECSTAT_TAIL_DROP : Fld := ⟨.ECSTAT, 1, 0, 1, 0, 64, .rc, 0⟩
/-- ECSTAT PUSHED_OUT (R313). -/
def R.ECSTAT_PUSHED_OUT : Fld := ⟨.ECSTAT, 2, 0, 1, 0, 64, .rc, 0⟩
/-- ECSTAT AGED (R313). -/
def R.ECSTAT_AGED : Fld := ⟨.ECSTAT, 3, 0, 1, 0, 64, .rc, 0⟩

/-- LEAF W0 NODE (R348). -/
def R.LEAF_W0_NODE : Fld := ⟨.LEAF, 0, 0, 1, 0, 15, .ro, 32767⟩
/-- LEAF W0 SH_EN (R348). -/
def R.LEAF_W0_SH_EN : Fld := ⟨.LEAF, 0, 0, 1, 15, 1, .rw, 0⟩
/-- LEAF W0 WEIGHT (R348). -/
def R.LEAF_W0_WEIGHT : Fld := ⟨.LEAF, 0, 0, 1, 16, 16, .rw, 1⟩
/-- LEAF W0 WEIGHT_USE (R348). -/
def R.LEAF_W0_WEIGHT_USE : Fld := ⟨.LEAF, 0, 0, 1, 32, 16, .ro, 1⟩
/-- LEAF W1 CIR (R348). -/
def R.LEAF_W1_CIR : Fld := ⟨.LEAF, 1, 0, 1, 0, 22, .rw, 0⟩
/-- LEAF W1 PIR (R348). -/
def R.LEAF_W1_PIR : Fld := ⟨.LEAF, 1, 0, 1, 22, 22, .rw, 0⟩
/-- LEAF W2 CBS (R348). -/
def R.LEAF_W2_CBS : Fld := ⟨.LEAF, 2, 0, 1, 0, 24, .rw, 0⟩
/-- LEAF W2 PBS (R348). -/
def R.LEAF_W2_PBS : Fld := ⟨.LEAF, 2, 0, 1, 24, 24, .rw, 0⟩
/-- LEAF F (R348). -/
def R.LEAF_F : Fld := ⟨.LEAF, 3, 0, 1, 0, 48, .ro, 0⟩
/-- LEAF TC (R348). -/
def R.LEAF_TC : Fld := ⟨.LEAF, 4, 0, 1, 0, 48, .ro, 0⟩
/-- LEAF TP (R348). -/
def R.LEAF_TP : Fld := ⟨.LEAF, 5, 0, 1, 0, 48, .ro, 0⟩

/-- NODE W0 EGRESS (R348). -/
def R.NODE_W0_EGRESS : Fld := ⟨.NODE, 0, 0, 1, 0, 5, .ro, 0⟩
/-- NODE W0 CLASS (R348). -/
def R.NODE_W0_CLASS : Fld := ⟨.NODE, 0, 0, 1, 5, 3, .ro, 0⟩
/-- NODE W0 ATTACHED (R348). -/
def R.NODE_W0_ATTACHED : Fld := ⟨.NODE, 0, 0, 1, 8, 1, .ro, 0⟩
/-- NODE W0 SH_EN (R348). -/
def R.NODE_W0_SH_EN : Fld := ⟨.NODE, 0, 0, 1, 9, 1, .rw, 0⟩
/-- NODE W0 LABEL (R348). -/
def R.NODE_W0_LABEL : Fld := ⟨.NODE, 0, 0, 1, 10, 12, .rw, 0⟩
/-- NODE W0 WEIGHT (R348). -/
def R.NODE_W0_WEIGHT : Fld := ⟨.NODE, 0, 0, 1, 32, 16, .rw, 1⟩
/-- NODE W0 WEIGHT_USE (R348). -/
def R.NODE_W0_WEIGHT_USE : Fld := ⟨.NODE, 0, 0, 1, 48, 16, .ro, 1⟩
/-- NODE W1 CIR (R348). -/
def R.NODE_W1_CIR : Fld := ⟨.NODE, 1, 0, 1, 0, 22, .rw, 0⟩
/-- NODE W1 PIR (R348). -/
def R.NODE_W1_PIR : Fld := ⟨.NODE, 1, 0, 1, 22, 22, .rw, 0⟩
/-- NODE W2 CBS (R348). -/
def R.NODE_W2_CBS : Fld := ⟨.NODE, 2, 0, 1, 0, 24, .rw, 0⟩
/-- NODE W2 PBS (R348). -/
def R.NODE_W2_PBS : Fld := ⟨.NODE, 2, 0, 1, 24, 24, .rw, 0⟩
/-- NODE F (R348). -/
def R.NODE_F : Fld := ⟨.NODE, 3, 0, 1, 0, 48, .ro, 0⟩
/-- NODE V (R348). -/
def R.NODE_V : Fld := ⟨.NODE, 4, 0, 1, 0, 48, .ro, 0⟩
/-- NODE TC (R348). -/
def R.NODE_TC : Fld := ⟨.NODE, 5, 0, 1, 0, 48, .ro, 0⟩
/-- NODE TP (R348). -/
def R.NODE_TP : Fld := ⟨.NODE, 6, 0, 1, 0, 48, .ro, 0⟩

/-- ECLASS V (R348). -/
def R.ECLASS_V : Fld := ⟨.ECLASS, 0, 0, 1, 0, 48, .ro, 0⟩

/-- POLICER W0 MODE (R348). -/
def R.POLICER_W0_MODE : Fld := ⟨.POLICER, 0, 0, 1, 0, 2, .rw, 0⟩
/-- POLICER W0 AWARE (R348). -/
def R.POLICER_W0_AWARE : Fld := ⟨.POLICER, 0, 0, 1, 2, 1, .rw, 0⟩
/-- POLICER W0 ACT_G (R348). -/
def R.POLICER_W0_ACT_G : Fld := ⟨.POLICER, 0, 0, 1, 3, 1, .rw, 0⟩
/-- POLICER W0 ACT_Y (R348). -/
def R.POLICER_W0_ACT_Y : Fld := ⟨.POLICER, 0, 0, 1, 4, 1, .rw, 0⟩
/-- POLICER W0 ACT_R (R348). -/
def R.POLICER_W0_ACT_R : Fld := ⟨.POLICER, 0, 0, 1, 5, 1, .rw, 0⟩
/-- POLICER W1 CIR (R348). -/
def R.POLICER_W1_CIR : Fld := ⟨.POLICER, 1, 0, 1, 0, 22, .rw, 0⟩
/-- POLICER W1 PIR (R348). -/
def R.POLICER_W1_PIR : Fld := ⟨.POLICER, 1, 0, 1, 22, 22, .rw, 0⟩
/-- POLICER W2 CBS (R348). -/
def R.POLICER_W2_CBS : Fld := ⟨.POLICER, 2, 0, 1, 0, 24, .rw, 0⟩
/-- POLICER W2 XBS (R348). -/
def R.POLICER_W2_XBS : Fld := ⟨.POLICER, 2, 0, 1, 24, 24, .rw, 0⟩
/-- POLICER T1 (R348). -/
def R.POLICER_T1 : Fld := ⟨.POLICER, 3, 0, 1, 0, 48, .ro, 0⟩
/-- POLICER T2 (R348). -/
def R.POLICER_T2 : Fld := ⟨.POLICER, 4, 0, 1, 0, 48, .ro, 0⟩
/-- POLICER GREEN (R348). -/
def R.POLICER_GREEN : Fld := ⟨.POLICER, 5, 0, 1, 0, 64, .rc, 0⟩
/-- POLICER YELLOW (R348). -/
def R.POLICER_YELLOW : Fld := ⟨.POLICER, 6, 0, 1, 0, 64, .rc, 0⟩
/-- POLICER RED (R348). -/
def R.POLICER_RED : Fld := ⟨.POLICER, 7, 0, 1, 0, 64, .rc, 0⟩
/-- POLICER DROP (R348). -/
def R.POLICER_DROP : Fld := ⟨.POLICER, 8, 0, 1, 0, 64, .rc, 0⟩

/-- GATE W0 EN (R348). -/
def R.GATE_W0_EN : Fld := ⟨.GATE, 0, 0, 1, 0, 1, .rw, 0⟩
/-- GATE W0 ACTIVE (R348). -/
def R.GATE_W0_ACTIVE : Fld := ⟨.GATE, 0, 0, 1, 1, 1, .ro, 0⟩
/-- GATE W0 INIT_OPEN (R348). -/
def R.GATE_W0_INIT_OPEN : Fld := ⟨.GATE, 0, 0, 1, 2, 1, .rw, 1⟩
/-- GATE W0 COL_MODE (R348). -/
def R.GATE_W0_COL_MODE : Fld := ⟨.GATE, 0, 0, 1, 3, 1, .rw, 1⟩
/-- GATE W0 COL_NOTCHES (R348). -/
def R.GATE_W0_COL_NOTCHES : Fld := ⟨.GATE, 0, 0, 1, 8, 16, .rw, 0⟩
/-- GATE W0 PENDING (R348). -/
def R.GATE_W0_PENDING : Fld := ⟨.GATE, 0, 0, 1, 24, 1, .ro, 0⟩
/-- GATE W0 OPEN_NOW (R348). -/
def R.GATE_W0_OPEN_NOW : Fld := ⟨.GATE, 0, 0, 1, 25, 1, .ro, 1⟩
/-- GATE W0 ENTRY_NOW (R348). -/
def R.GATE_W0_ENTRY_NOW : Fld := ⟨.GATE, 0, 0, 1, 32, 10, .ro, 0⟩
/-- GATE CHANGE_SEC (R348). -/
def R.GATE_CHANGE_SEC : Fld := ⟨.GATE, 1, 0, 1, 0, 48, .rw, 0⟩
/-- GATE CHANGE_NS (R348). -/
def R.GATE_CHANGE_NS : Fld := ⟨.GATE, 2, 0, 1, 0, 32, .rw, 0⟩
/-- GATE BASE_SEC (R348). -/
def R.GATE_BASE_SEC : Fld := ⟨.GATE, 3, 3, 2, 0, 48, .rw, 0⟩
/-- GATE BASE NS (R348). -/
def R.GATE_BASE_NS : Fld := ⟨.GATE, 4, 3, 2, 0, 32, .rw, 0⟩
/-- GATE BASE LEN (R348). -/
def R.GATE_BASE_LEN : Fld := ⟨.GATE, 4, 3, 2, 32, 11, .rw, 1⟩
/-- GATE CYCLE (R348). -/
def R.GATE_CYCLE : Fld := ⟨.GATE, 5, 3, 2, 0, 24, .rw, 15625000⟩
/-- GATE COL_HOLDS (R348). -/
def R.GATE_COL_HOLDS : Fld := ⟨.GATE, 9, 0, 1, 0, 64, .rc, 0⟩

/-- GATEENT W0 OPEN (R348). -/
def R.GATEENT_W0_OPEN : Fld := ⟨.GATEENT, 0, 0, 1, 0, 1, .rw, 1⟩
/-- GATEENT W0 DURATION (R348). -/
def R.GATEENT_W0_DURATION : Fld := ⟨.GATEENT, 0, 0, 1, 1, 24, .rw, 15625000⟩

/-- SA W0 VALID (R427). -/
def R.SA_W0_VALID : Fld := ⟨.SA, 0, 0, 1, 0, 1, .rw, 0⟩
/-- SA W0 DIR (R427). -/
def R.SA_W0_DIR : Fld := ⟨.SA, 0, 0, 1, 1, 1, .rw, 0⟩
/-- SA W0 PROTO (R427). -/
def R.SA_W0_PROTO : Fld := ⟨.SA, 0, 0, 1, 2, 2, .rw, 0⟩
/-- SA W0 ALG (R427). -/
def R.SA_W0_ALG : Fld := ⟨.SA, 0, 0, 1, 4, 2, .rw, 0⟩
/-- SA W0 MODE (R427). -/
def R.SA_W0_MODE : Fld := ⟨.SA, 0, 0, 1, 6, 1, .rw, 0⟩
/-- SA W0 ESN (R427). -/
def R.SA_W0_ESN : Fld := ⟨.SA, 0, 0, 1, 7, 1, .rw, 0⟩
/-- SA W0 KEY_LOADED (R427). -/
def R.SA_W0_KEY_LOADED : Fld := ⟨.SA, 0, 0, 1, 8, 1, .ro, 0⟩
/-- SA W0 EXHAUSTED (R427). -/
def R.SA_W0_EXHAUSTED : Fld := ⟨.SA, 0, 0, 1, 9, 1, .ro, 0⟩
/-- SA W0 SOFT_HIT (R427). -/
def R.SA_W0_SOFT_HIT : Fld := ⟨.SA, 0, 0, 1, 10, 1, .rw, 0⟩
/-- SA W0 RX_SYNC (R427). -/
def R.SA_W0_RX_SYNC : Fld := ⟨.SA, 0, 0, 1, 11, 1, .rw, 0⟩
/-- SA W0 WIN_SIZE (R427). -/
def R.SA_W0_WIN_SIZE : Fld := ⟨.SA, 0, 0, 1, 12, 11, .rw, 1024⟩
/-- SA W0 INSTANCE (R427). -/
def R.SA_W0_INSTANCE : Fld := ⟨.SA, 0, 0, 1, 32, 12, .rw, 0⟩
/-- SA W1 SPI (R427). -/
def R.SA_W1_SPI : Fld := ⟨.SA, 1, 0, 1, 0, 32, .rw, 0⟩
/-- SA W1 AN (R427). -/
def R.SA_W1_AN : Fld := ⟨.SA, 1, 0, 1, 32, 2, .rw, 0⟩
/-- SA SALT LO (R427). -/
def R.SA_SALT_LO : Fld := ⟨.SA, 2, 0, 1, 0, 64, .rw, 0⟩
/-- SA SALT HI (R427). -/
def R.SA_SALT_HI : Fld := ⟨.SA, 3, 0, 1, 0, 32, .rw, 0⟩
/-- SA SCI (R427). -/
def R.SA_SCI : Fld := ⟨.SA, 4, 0, 1, 0, 64, .rw, 0⟩
/-- SA SEQ (R427). -/
def R.SA_SEQ : Fld := ⟨.SA, 5, 0, 1, 0, 64, .rw, 0⟩
/-- SA SEQ_SOFT (R427). -/
def R.SA_SEQ_SOFT : Fld := ⟨.SA, 6, 0, 1, 0, 64, .rw, 0⟩
/-- SA RX_TCP_SEQ (R427). -/
def R.SA_RX_TCP_SEQ : Fld := ⟨.SA, 7, 0, 1, 0, 32, .rw, 0⟩
/-- SA KEY_FP (R427). -/
def R.SA_KEY_FP : Fld := ⟨.SA, 8, 1, 2, 0, 64, .ro, 0⟩
/-- SA FRAMES (R427). -/
def R.SA_FRAMES : Fld := ⟨.SA, 10, 0, 1, 0, 64, .rc, 0⟩
/-- SA OCTETS (R427). -/
def R.SA_OCTETS : Fld := ⟨.SA, 11, 0, 1, 0, 64, .rc, 0⟩
/-- SA W12 REPLAY_DROPS (R427). -/
def R.SA_W12_REPLAY_DROPS : Fld := ⟨.SA, 12, 0, 1, 0, 32, .rc, 0⟩
/-- SA W12 AUTH_FAILS (R427). -/
def R.SA_W12_AUTH_FAILS : Fld := ⟨.SA, 12, 0, 1, 32, 32, .rc, 0⟩
/-- SA WINDOW (R427). -/
def R.SA_WINDOW : Fld := ⟨.SA, 16, 1, 16, 0, 64, .rw, 0⟩

/-- CONN W0 VALID (R470). -/
def R.CONN_W0_VALID : Fld := ⟨.CONN, 0, 0, 1, 0, 1, .rw, 0⟩
/-- CONN W0 HDGST_EN (R470). -/
def R.CONN_W0_HDGST_EN : Fld := ⟨.CONN, 0, 0, 1, 1, 1, .rw, 0⟩
/-- CONN W0 DDGST_EN (R470). -/
def R.CONN_W0_DDGST_EN : Fld := ⟨.CONN, 0, 0, 1, 2, 1, .rw, 0⟩
/-- CONN W0 PLACE_EN (R470). -/
def R.CONN_W0_PLACE_EN : Fld := ⟨.CONN, 0, 0, 1, 3, 1, .rw, 0⟩
/-- CONN W0 RX_SYNC (R470). -/
def R.CONN_W0_RX_SYNC : Fld := ⟨.CONN, 0, 0, 1, 4, 1, .rw, 0⟩
/-- CONN W0 BUF_LOG2 (R470). -/
def R.CONN_W0_BUF_LOG2 : Fld := ⟨.CONN, 0, 0, 1, 8, 4, .rw, 0⟩
/-- CONN W0 INSTANCE (R470). -/
def R.CONN_W0_INSTANCE : Fld := ⟨.CONN, 0, 0, 1, 16, 12, .rw, 0⟩
/-- CONN W0 MSS (R470). -/
def R.CONN_W0_MSS : Fld := ⟨.CONN, 0, 0, 1, 32, 16, .rw, 1460⟩
/-- CONN W0 LOCAL_PORT (R470). -/
def R.CONN_W0_LOCAL_PORT : Fld := ⟨.CONN, 0, 0, 1, 48, 16, .rw, 0⟩
/-- CONN W1 RCV_NXT (R470). -/
def R.CONN_W1_RCV_NXT : Fld := ⟨.CONN, 1, 0, 1, 0, 32, .rw, 0⟩
/-- CONN W1 PDU_REM (R470). -/
def R.CONN_W1_PDU_REM : Fld := ⟨.CONN, 1, 0, 1, 32, 32, .rw, 0⟩
/-- CONN BUF_BASE (R470). -/
def R.CONN_BUF_BASE : Fld := ⟨.CONN, 2, 0, 1, 0, 64, .rw, 0⟩
/-- CONN W3 HDR_BYTES (R470). -/
def R.CONN_W3_HDR_BYTES : Fld := ⟨.CONN, 3, 0, 1, 0, 6, .ro, 0⟩
/-- CONN W3 CUR_CCCID (R470). -/
def R.CONN_W3_CUR_CCCID : Fld := ⟨.CONN, 3, 0, 1, 16, 16, .ro, 0⟩
/-- CONN W3 DGST_ACC (R470). -/
def R.CONN_W3_DGST_ACC : Fld := ⟨.CONN, 3, 0, 1, 32, 32, .ro, 0⟩
/-- CONN CUR_DATAO (R470). -/
def R.CONN_CUR_DATAO : Fld := ⟨.CONN, 4, 0, 1, 0, 32, .ro, 0⟩
/-- CONN HDR_STAGE (R470). -/
def R.CONN_HDR_STAGE : Fld := ⟨.CONN, 5, 1, 4, 0, 64, .ro, 0⟩
/-- CONN PDUS_RX (R470). -/
def R.CONN_PDUS_RX : Fld := ⟨.CONN, 9, 0, 1, 0, 64, .rc, 0⟩
/-- CONN PDUS_TX (R470). -/
def R.CONN_PDUS_TX : Fld := ⟨.CONN, 10, 0, 1, 0, 64, .rc, 0⟩
/-- CONN PLACED (R470). -/
def R.CONN_PLACED : Fld := ⟨.CONN, 11, 0, 1, 0, 64, .rc, 0⟩
/-- CONN W12 HDGST_FAILS (R470). -/
def R.CONN_W12_HDGST_FAILS : Fld := ⟨.CONN, 12, 0, 1, 0, 32, .rc, 0⟩
/-- CONN W12 DDGST_FAILS (R470). -/
def R.CONN_W12_DDGST_FAILS : Fld := ⟨.CONN, 12, 0, 1, 32, 32, .rc, 0⟩
/-- CONN IOS (R470). -/
def R.CONN_IOS : Fld := ⟨.CONN, 13, 0, 1, 0, 64, .rc, 0⟩

/-- SRC W0 PRIO (R492). -/
def R.SRC_W0_PRIO : Fld := ⟨.SRC, 0, 0, 1, 0, 6, .rw, 0⟩
/-- SRC W0 MASK (R492). -/
def R.SRC_W0_MASK : Fld := ⟨.SRC, 0, 0, 1, 6, 1, .rw, 0⟩
/-- SRC W0 TRIGGER (R492). -/
def R.SRC_W0_TRIGGER : Fld := ⟨.SRC, 0, 0, 1, 7, 1, .ro, 0⟩
/-- SRC W0 ROUTE (R492). -/
def R.SRC_W0_ROUTE : Fld := ⟨.SRC, 0, 0, 1, 8, 1, .rw, 0⟩
/-- SRC W0 HOST_PF (R492). -/
def R.SRC_W0_HOST_PF : Fld := ⟨.SRC, 0, 0, 1, 9, 2, .rw, 0⟩
/-- SRC W0 HOST_VEC (R492). -/
def R.SRC_W0_HOST_VEC : Fld := ⟨.SRC, 0, 0, 1, 11, 6, .rw, 0⟩
/-- SRC W0 TARGETS (R492). -/
def R.SRC_W0_TARGETS : Fld := ⟨.SRC, 0, 0, 1, 32, 16, .rw, 65535⟩
/-- SRC W1 PEND (R492). -/
def R.SRC_W1_PEND : Fld := ⟨.SRC, 1, 0, 1, 0, 1, .ro, 0⟩
/-- SRC W1 SERVICE (R492). -/
def R.SRC_W1_SERVICE : Fld := ⟨.SRC, 1, 0, 1, 1, 2, .ro, 0⟩
/-- SRC W1 CORE (R492). -/
def R.SRC_W1_CORE : Fld := ⟨.SRC, 1, 0, 1, 4, 4, .ro, 0⟩
/-- SRC W1 EFF_PRIO (R492). -/
def R.SRC_W1_EFF_PRIO : Fld := ⟨.SRC, 1, 0, 1, 8, 6, .ro, 0⟩
/-- SRC W1 COUNT (R492). -/
def R.SRC_W1_COUNT : Fld := ⟨.SRC, 1, 0, 1, 32, 32, .rc, 0⟩

/-- HBMREG W0 STATE (R520). -/
def R.HBMREG_W0_STATE : Fld := ⟨.HBMREG, 0, 0, 1, 0, 2, .ro, 0⟩
/-- HBMREG W0 PHYS (R520). -/
def R.HBMREG_W0_PHYS : Fld := ⟨.HBMREG, 0, 0, 1, 16, 14, .ro, 0⟩
/-- HBMREG W0 CORR (R520). -/
def R.HBMREG_W0_CORR : Fld := ⟨.HBMREG, 0, 0, 1, 32, 16, .ro, 0⟩

/-- BANK W0 STATE (R520). -/
def R.BANK_W0_STATE : Fld := ⟨.BANK, 0, 0, 1, 0, 2, .ro, 0⟩
/-- BANK W0 CORR (R520). -/
def R.BANK_W0_CORR : Fld := ⟨.BANK, 0, 0, 1, 16, 16, .ro, 0⟩
/-- BANK W0 UNCORR (R520). -/
def R.BANK_W0_UNCORR : Fld := ⟨.BANK, 0, 0, 1, 32, 16, .ro, 0⟩

end Sys2Proof.Machine
end

