-- ==== Sys2Proof/Machine/RegPages.lean ====
section
/-! DEFINITION. The fields of each page and object, gathered for the generic register accesses (R15, R588, R597, R598). -/

namespace Sys2Proof.Machine

/-- Fields of DEVICE. -/
def fieldsDEVICE : List Fld :=
  [R.DEVICE_IDENT_PART, R.DEVICE_IDENT_STEP, R.DEVICE_CAP_LANES, R.DEVICE_CAP_LANE_RATE, R.DEVICE_CAP_HOST_A, R.DEVICE_CAP_HOST_B, R.DEVICE_CAP_GLENS_ACTIVE, R.DEVICE_CAP_GLENS_SPARE, R.DEVICE_CAP_HBM_STACKS, R.DEVICE_CAP_CRYPTO, R.DEVICE_CAP_STORE, R.DEVICE_CAP_FLOW_LOG2, R.DEVICE_CAP_POWER_MAX, R.DEVICE_SERIAL]
/-- Fields of DIAL, part 0. -/
def fieldsDIAL_0 : List Fld :=
  [R.DIAL_CTRL_SRC, R.DIAL_CTRL_PTP_PORT, R.DIAL_STATUS_STATE, R.DIAL_STATUS_SRC_ACTIVE, R.DIAL_STATUS_STEPS, R.DIAL_STATUS_OFFSET_NS, R.DIAL_SLEW_PPB, R.DIAL_STEP_ARG_SEC_SEC, R.DIAL_STEP_ARG_NS_NS, R.DIAL_STEP_CMD_CODE, R.DIAL_STEP_CMD_STATUS, R.DIAL_SERVO_CFG_LOCK_THRESH_NS, R.DIAL_SERVO_CFG_STEP_THRESH_US, R.DIAL_SERVO_CFG_SRC_TIMEOUT, R.DIAL_SERVO_CFG_HOLDOVER_S, R.DIAL_PPS_OUT_CFG_EN, R.DIAL_PPS_OUT_CFG_IDLE, R.DIAL_PPS_OUT_CFG_ADV_NS, R.DIAL_PPS_OUT_CFG_WIDTH, R.DIAL_PPS_CNT_EDGES, R.DIAL_PPS_CNT_MISSED, R.DIAL_PPS_CNT_TOD_GOOD, R.DIAL_PPS_CNT_TOD_BAD, R.DIAL_EVENTS_STEPPED, R.DIAL_EVENTS_LOCK_GAINED, R.DIAL_EVENTS_LOCK_LOST, R.DIAL_EVENTS_HOLDOVER_END, R.DIAL_EVENTS_PPS_MISSED, R.DIAL_EVENTS_TOD_BAD, R.DIAL_EVENTS_SLEW_CLAMPED]
/-- Fields of DIAL, part 1. -/
def fieldsDIAL_1 : List Fld :=
  [R.DIAL_NOW_SEC_SEC, R.DIAL_NOW_NS_NS, R.DIAL_NOTCH_COUNT, R.DIAL_LATCH_SEC_SEC, R.DIAL_LATCH_NS_NS, R.DIAL_PPS_IN_SEC_SEC, R.DIAL_PPS_IN_NS_NS]
/-- Fields of DIAL. -/
def fieldsDIAL : List Fld := fieldsDIAL_0 ++ fieldsDIAL_1
/-- Fields of LANEGRP. -/
def fieldsLANEGRP : List Fld :=
  [R.LANEGRP_MODE_GMODE, R.LANEGRP_MODE_QMODE0, R.LANEGRP_MODE_QMODE1, R.LANEGRP_LINK_CFG_MEDIUM, R.LANEGRP_LINK_CFG_AN_EN, R.LANEGRP_LINK_CFG_LT_EN, R.LANEGRP_CMD_CODE, R.LANEGRP_CMD_ARG_PORT, R.LANEGRP_CMD_STATUS, R.LANEGRP_STATUS]
/-- Fields of PORT, part 0. -/
def fieldsPORT_0 : List Fld :=
  [R.PORT_CTRL_ADMIN, R.PORT_CTRL_RX_MAX_LEN, R.PORT_STATUS_LINK, R.PORT_STATUS_LANES, R.PORT_STATUS_TX_PAUSED, R.PORT_STATUS_FEC_DEGRADED, R.PORT_FC_CFG_RX_MODE, R.PORT_FC_CFG_FC_IGNORE, R.PORT_FC_CFG_TX_MODE, R.PORT_FC_CFG_TX_QUANTA, R.PORT_FC_CFG_REFRESH, R.PORT_FC_CFG_PFC_TX_EN, R.PORT_PFC_THRESH_XOFF_CELLS, R.PORT_PFC_THRESH_XON_CELLS, R.PORT_TS_CFG_RX_EN, R.PORT_TS_CFG_RX_DELAY_NS, R.PORT_TS_CFG_TX_DELAY_NS, R.PORT_RX_DEFAULT_ACTION, R.PORT_RX_DEFAULT_CLASS_SRC, R.PORT_RX_DEFAULT_CLASS, R.PORT_RX_DEFAULT_PCP_MAP, R.PORT_EVENTS, R.PORT_MATCH_VALID, R.PORT_MATCH_TAGGED, R.PORT_MATCH_VID, R.PORT_MATCH_VID_MASK, R.PORT_MATCH_PCP, R.PORT_MATCH_PCP_CARE, R.PORT_MATCH_ETYPE, R.PORT_MATCH_ETYPE_MASK]
/-- Fields of PORT, part 1. -/
def fieldsPORT_1 : List Fld :=
  [R.PORT_ACTION_ACTION, R.PORT_ACTION_CLASS, R.PORT_RX_FRAMES, R.PORT_RX_OCTETS, R.PORT_RX_FCS_ERR, R.PORT_RX_RUNT, R.PORT_RX_OVERSIZE, R.PORT_RX_FILTER_DROP, R.PORT_RX_NOCELL, R.PORT_RX_PAUSE, R.PORT_RX_PFC, R.PORT_RX_FC_IGNORED, R.PORT_RX_MACCTL_OTHER, R.PORT_TX_FRAMES, R.PORT_TX_OCTETS, R.PORT_TX_ERR_END, R.PORT_TX_UNDERRUN, R.PORT_TX_PAUSE, R.PORT_TX_PFC, R.PORT_TX_DOWN_DROP, R.PORT_FEC_CORR_CW, R.PORT_FEC_UNCORR_CW, R.PORT_TX_PAUSED_NOTCHES]
/-- Fields of PORT. -/
def fieldsPORT : List Fld := fieldsPORT_0 ++ fieldsPORT_1
/-- Fields of WAKE. -/
def fieldsWAKE : List Fld :=
  [R.WAKE_CTRL_PAT_EN, R.WAKE_CTRL_MAGIC_EN, R.WAKE_MAGIC_MAC_MAC, R.WAKE_CMD_CODE, R.WAKE_CMD_STATUS, R.WAKE_CAUSE_CAUSE, R.WAKE_CAUSE_PATTERN, R.WAKE_PATTERN, R.WAKE_MASK, R.WAKE_LENGTH_LEN]
/-- Fields of GLEN. -/
def fieldsGLEN : List Fld :=
  [R.GLEN_CMD_CODE, R.GLEN_CMD_ARG_SLOT, R.GLEN_CMD_ARG_PHYS, R.GLEN_CMD_ARG_CORE, R.GLEN_CMD_STATUS, R.GLEN_STALE_DROP, R.GLEN_LOST_TICKETS, R.GLEN_EVENTS, R.GLEN_DRAIN_LIMIT_NOTCHES, R.GLEN_SLOT_PHYS, R.GLEN_SLOT_EPOCH, R.GLEN_SLOT_STATE]
/-- Fields of GLENSPARE. -/
def fieldsGLENSPARE : List Fld :=
  [R.GLENSPARE_POLICY_AUTO]
/-- Fields of GSLOT. -/
def fieldsGSLOT : List Fld :=
  [R.GSLOT_PROG_ADDR_ADDR, R.GSLOT_PROG_INFO_LEN, R.GSLOT_PROG_INFO_STAGED, R.GSLOT_PROG_INFO_CFG_PENDING, R.GSLOT_PROG_CRC_CUR, R.GSLOT_PROG_CRC_STAGED, R.GSLOT_ENTRY_PACKET, R.GSLOT_ENTRY_SERVICE, R.GSLOT_CORE_POLICY_AUTO_RESTART, R.GSLOT_CORE_POLICY_RESTART_DELAY, R.GSLOT_CORE_CFG_MODE, R.GSLOT_CORE_CFG_ISSUE]
/-- Fields of GPHYS, part 0. -/
def fieldsGPHYS_0 : List Fld :=
  [R.GPHYS_STATUS_STATE, R.GPHYS_STATUS_SLOT, R.GPHYS_STATUS_EPOCH, R.GPHYS_STATUS_CORES_RUN, R.GPHYS_STATUS_HALTED, R.GPHYS_HB_LAST, R.GPHYS_HB_MISSES, R.GPHYS_LOST, R.GPHYS_STALE, R.GPHYS_FAULTS, R.GPHYS_DBG_SEL_CORE, R.GPHYS_DBG_SEL_THREAD, R.GPHYS_DBG_CMD_CODE, R.GPHYS_DBG_CMD_STATUS, R.GPHYS_DBG_STATE_STATE, R.GPHYS_DBG_STATE_HALTED, R.GPHYS_DBG_STATE_PC, R.GPHYS_DBG_STATE_LOCKS, R.GPHYS_DBG_STATE_STAGE_OPEN, R.GPHYS_DBG_STATE_STAGE_CHAN, R.GPHYS_DBG_STATE_STAGE_WORDS, R.GPHYS_DBG_STATE_WAIT_OBJ, R.GPHYS_BRK_EN, R.GPHYS_BRK_CORE, R.GPHYS_BRK_ADDR, R.GPHYS_EVENTS, R.GPHYS_CORE_FAULT_CODE, R.GPHYS_CORE_FAULT_THREAD, R.GPHYS_CORE_FAULT_PC, R.GPHYS_CORE_FAULT_NOTCH]
/-- Fields of GPHYS, part 1. -/
def fieldsGPHYS_1 : List Fld :=
  [R.GPHYS_CORE_FAULT_DETAIL]
/-- Fields of GPHYS. -/
def fieldsGPHYS : List Fld := fieldsGPHYS_0 ++ fieldsGPHYS_1
/-- Fields of CLASSIFY. -/
def fieldsCLASSIFY : List Fld :=
  [R.CLASSIFY_ROWS_USED, R.CLASSIFY_LOOKUPS, R.CLASSIFY_ECC_MISS, R.CLASSIFY_ZERO_PROFILE, R.CLASSIFY_RULESET_VALID, R.CLASSIFY_RULESET_KEY_WORDS, R.CLASSIFY_RULESET_ZPROF, R.CLASSIFY_RULESET_BASE, R.CLASSIFY_RULESET_ROWS]
/-- Fields of DEFILE. -/
def fieldsDEFILE : List Fld :=
  [R.DEFILE_SKIP_TIMEOUT, R.DEFILE_SKIP_LOST, R.DEFILE_LATE, R.DEFILE_EVENTS, R.DEFILE_ING_DEAL_SEQ, R.DEFILE_ING_HEAD, R.DEFILE_ING_HELD, R.DEFILE_ING_WAIT, R.DEFILE_ING_HOLE_AGE, R.DEFILE_ING_SKIPPED]
/-- Fields of TABLE, part 0. -/
def fieldsTABLE_0 : List Fld :=
  [R.TABLE_CMD_CODE, R.TABLE_CMD_ARG_TABLE, R.TABLE_CMD_STATUS, R.TABLE_CMD_ARG_ARG, R.TABLE_CMD_RESULT_ENTRY, R.TABLE_CMD_RESULT_MOVES, R.TABLE_STAGE_CTRL_STATIC, R.TABLE_STAGE_CTRL_FAMILY, R.TABLE_STAGE_CTRL_LEN, R.TABLE_STAGE_CTRL_VRF, R.TABLE_STAGE_KEY, R.TABLE_STAGE_DATA, R.TABLE_FC_HITS, R.TABLE_FC_MISSES, R.TABLE_HBM_LOOKUPS, R.TABLE_HBM_WAITS, R.TABLE_ECC_CORR, R.TABLE_ECC_MISS, R.TABLE_ECC_ADDR_KIND, R.TABLE_ECC_ADDR_OBJECT, R.TABLE_ECC_ADDR_BANK, R.TABLE_ECC_ADDR_INDEX, R.TABLE_EVENTS, R.TABLE_MOVELOG_OCC, R.TABLE_MOVELOG_MAX, R.TABLE_MAC_CFG_EN, R.TABLE_MAC_CFG_LEARN_EN, R.TABLE_MAC_CFG_AGE_EN, R.TABLE_MAC_CFG_AGE_LIMIT, R.TABLE_MAC_SEED]
/-- Fields of TABLE, part 1. -/
def fieldsTABLE_1 : List Fld :=
  [R.TABLE_MAC_LEARNED, R.TABLE_MAC_MOVES, R.TABLE_MAC_AGED, R.TABLE_RT_SEED, R.TABLE_RT_FILTER_SEED, R.TABLE_RT_FILTER_SAT, R.TABLE_RT_PROBES, R.TABLE_RT_FILTER_SKIPS, R.TABLE_FT_CFG_VALID, R.TABLE_FT_CFG_KEY_WORDS, R.TABLE_FT_CFG_AGE_EN, R.TABLE_FT_CFG_BUCKET_LOG2, R.TABLE_FT_CFG_BASE, R.TABLE_FT_AGE_LIMIT_UNITS, R.TABLE_FT_STATE_ACTIVE, R.TABLE_FT_STATE_STATE, R.TABLE_FT_STATE_REHASH_REQ, R.TABLE_FT_STATE_COUNT_ACTIVE, R.TABLE_FT_STATE_COUNT_SHADOW, R.TABLE_FT_CURSOR_BUCKET, R.TABLE_FT_CURSOR_SLOT, R.TABLE_FT_SEED0, R.TABLE_FT_SEED1, R.TABLE_FT_LOOKUPS, R.TABLE_FT_COUNTS_INSERT_FULL, R.TABLE_FT_COUNTS_AGED, R.TABLE_MAC_STATE_ACTIVE, R.TABLE_MAC_STATE_STATE, R.TABLE_MAC_STATE_REHASH_REQ, R.TABLE_MAC_STATE_COUNT_ACTIVE]
/-- Fields of TABLE, part 2. -/
def fieldsTABLE_2 : List Fld :=
  [R.TABLE_MAC_STATE_COUNT_SHADOW, R.TABLE_RT_STATE_ACTIVE, R.TABLE_RT_STATE_STATE, R.TABLE_RT_STATE_REHASH_REQ, R.TABLE_RT_STATE_COUNT_ACTIVE, R.TABLE_RT_STATE_COUNT_SHADOW]
/-- Fields of TABLE. -/
def fieldsTABLE : List Fld := fieldsTABLE_0 ++ fieldsTABLE_1 ++ fieldsTABLE_2
/-- Fields of BASIN, part 0. -/
def fieldsBASIN_0 : List Fld :=
  [R.BASIN_CFG_SHARED_LIMIT, R.BASIN_CELLS_TOTAL_TOTAL, R.BASIN_CELLS_TOTAL_BANKS_OUT, R.BASIN_CELL_FREE_FREE, R.BASIN_SHARED_USED_USED, R.BASIN_SHARED_USED_EFF_LIMIT, R.BASIN_USED_PEAK_CELLS, R.BASIN_GMIN_SUM_CELLS, R.BASIN_LOW_MARK_CELLS, R.BASIN_EVENTS, R.BASIN_RECIRC_DROP, R.BASIN_PROG_DROP, R.BASIN_UNRESOLVED_DROP, R.BASIN_BAD_DEST, R.BASIN_INST_DROP, R.BASIN_TAIL_DROP, R.BASIN_PUSHOUT, R.BASIN_AGED, R.BASIN_NOCELL_ADMIT, R.BASIN_CT_STARTS, R.BASIN_CT_FALLBACK, R.BASIN_Q_CFG_GMIN, R.BASIN_Q_CFG_QMAX, R.BASIN_Q_CFG_CT_EN, R.BASIN_Q_CFG_PUSHOUT_EN, R.BASIN_Q_CFG_YEL_FRAC, R.BASIN_Q_CFG_RED_FRAC, R.BASIN_Q_AGE_AGE_LIMIT, R.BASIN_Q_AGE_OCC, R.BASIN_ING_CFG_MAX]
/-- Fields of BASIN, part 1. -/
def fieldsBASIN_1 : List Fld :=
  [R.BASIN_ING_HELD_CELLS]
/-- Fields of BASIN. -/
def fieldsBASIN : List Fld := fieldsBASIN_0 ++ fieldsBASIN_1
/-- Fields of SCHED. -/
def fieldsSCHED : List Fld :=
  [R.SCHED_CMD_CODE, R.SCHED_CMD_ARG_LEAF, R.SCHED_CMD_ARG_NODE, R.SCHED_CMD_ARG_EGRESS, R.SCHED_CMD_ARG_CLASS, R.SCHED_CMD_STATUS, R.SCHED_CLASS_MISMATCH, R.SCHED_POLICE_DROP, R.SCHED_COL_HOLDS, R.SCHED_EVENTS, R.SCHED_EGR_OVERHEAD]
/-- Fields of HOST. -/
def fieldsHOST : List Fld :=
  [R.HOST_LINK_CFG_MAX_SPEED, R.HOST_LINK_CFG_MAX_WIDTH, R.HOST_LINK_CFG_CLK_MODE, R.HOST_LINK_CFG_VF_TOTAL, R.HOST_LINK_CFG_VF_TOTAL_NOW, R.HOST_LINK_STATUS_UP, R.HOST_LINK_STATUS_SPEED, R.HOST_LINK_STATUS_WIDTH, R.HOST_LINK_STATUS_FLIT, R.HOST_LINK_STATUS_RETRAINS, R.HOST_CMD_CODE, R.HOST_CMD_STATUS, R.HOST_EVENTS, R.HOST_CORR_ERR, R.HOST_DMA_ERR]
/-- Fields of INST, part 0. -/
def fieldsINST_0 : List Fld :=
  [R.INST_RING_RANGE_QP_BASE, R.INST_RING_RANGE_QP_COUNT, R.INST_VEC_RANGE_VEC_BASE, R.INST_VEC_RANGE_VEC_COUNT, R.INST_HOSTPORT_PORT, R.INST_HOSTPORT_VF, R.INST_EVT_VEC_VEC, R.INST_EVT_VEC_EN, R.INST_DB_CNT_DB_LAP, R.INST_DB_CNT_DB_BAD, R.INST_RING_EVENTS, R.INST_RING_SEL_RING, R.INST_STATE_STATE, R.INST_STATE_FORCED, R.INST_STATE_FLR, R.INST_CMD_CODE, R.INST_CMD_STATUS, R.INST_QUIESCE_LIMIT_NOTCHES, R.INST_MIG_ADDR_ADDR, R.INST_MIG_SIZE_BYTES, R.INST_MIG_LEN_BYTES, R.INST_DIRTY_CFG_EN, R.INST_DIRTY_BASE_ADDR, R.INST_DIRTY_PAGES_PAGES, R.INST_DIRTY_ADDR_ADDR, R.INST_DIRTY_STAT_OUT, R.INST_DIRTY_STAT_MARKED, R.INST_ADMIT_DROP, R.INST_LOST_TICKETS, R.INST_STATE_DROP]
/-- Fields of INST, part 1. -/
def fieldsINST_1 : List Fld :=
  [R.INST_TX_ABORTED, R.INST_FLR_CNT_FLR, R.INST_FLR_CNT_FORCED, R.INST_EVENTS, R.INST_USE_BYTES, R.INST_USE_FRAMES, R.INST_USE_CRYPTO, R.INST_USE_STORE, R.INST_USE_GLEN_TN]
/-- Fields of INST. -/
def fieldsINST : List Fld := fieldsINST_0 ++ fieldsINST_1
/-- Fields of RCTX. -/
def fieldsRCTX : List Fld :=
  [R.RCTX_BASE_ADDR, R.RCTX_CFG_EN, R.RCTX_CFG_SIZE_LOG2, R.RCTX_CFG_DIR, R.RCTX_CFG_DEF_CLASS, R.RCTX_CFG_RX_WAIT, R.RCTX_CFG_VEC, R.RCTX_CFG_INT_EN, R.RCTX_MOD_TIME, R.RCTX_MOD_CNT, R.RCTX_IDX_PROD, R.RCTX_IDX_PROD_WRAP, R.RCTX_IDX_CONS, R.RCTX_IDX_CONS_WRAP, R.RCTX_FRAMES, R.RCTX_OCTETS, R.RCTX_ERR_DESC, R.RCTX_RX_TRUNC, R.RCTX_RX_NOBUF, R.RCTX_HOLD_FRAMES, R.RCTX_HOLD_WAIT]
/-- Fields of INSTCTL. -/
def fieldsINSTCTL : List Fld :=
  [R.INSTCTL_LEDGER_CFG_EN, R.INSTCTL_LEDGER_CFG_PORT, R.INSTCTL_LEDGER_CFG_SIZE_LOG2, R.INSTCTL_LEDGER_CFG_CLASS_MAP, R.INSTCTL_LEDGER_BASE_ADDR, R.INSTCTL_LEDGER_PROD_INDEX, R.INSTCTL_LEDGER_PROD_WRAP, R.INSTCTL_LEDGER_CONS_INDEX, R.INSTCTL_LEDGER_CONS_WRAP, R.INSTCTL_LEDGER_BACKLOG_RECORDS, R.INSTCTL_LEDGER_LOST, R.INSTCTL_LEDGER_EVENTS, R.INSTCTL_DIRTY_USE_COUNT, R.INSTCTL_SUMMARY]
/-- Fields of CRYPTO. -/
def fieldsCRYPTO : List Fld :=
  [R.CRYPTO_CMD_CODE, R.CRYPTO_CMD_ARG_SA, R.CRYPTO_CMD_STATUS, R.CRYPTO_KEY_STAGE, R.CRYPTO_SA_EVT_VALID, R.CRYPTO_SA_EVT_KIND, R.CRYPTO_SA_EVT_SA, R.CRYPTO_SA_EVT_STAT_DEPTH, R.CRYPTO_SA_EVT_STAT_LOST, R.CRYPTO_EVENTS, R.CRYPTO_SA_CACHE_HITS, R.CRYPTO_SA_CACHE_MISSES, R.CRYPTO_FRAMES, R.CRYPTO_OCTETS, R.CRYPTO_LAST_DROP_CODE, R.CRYPTO_LAST_DROP_SA, R.CRYPTO_LAST_DROP_NOTCH, R.CRYPTO_DROPS, R.CRYPTO_TLS_PASS]
/-- Fields of MOVER. -/
def fieldsMOVER : List Fld :=
  [R.MOVER_CMD_CODE, R.MOVER_CMD_ARG_CH, R.MOVER_CMD_STATUS, R.MOVER_SWREQ, R.MOVER_EVENTS, R.MOVER_DONE_MAP, R.MOVER_ERR_MAP, R.MOVER_BEATS, R.MOVER_PREEMPTS, R.MOVER_REQ_LOST, R.MOVERCH_CFG_DISABLE, R.MOVERCH_CFG_PRIO, R.MOVERCH_CFG_TRIG, R.MOVERCH_CFG_TRIG_ARG, R.MOVERCH_CFG_BURST, R.MOVERCH_CFG_DESC_SPACE, R.MOVERCH_CFG_PERIOD, R.MOVERCH_DESC_ADDR, R.MOVERCH_STATUS_STATE, R.MOVERCH_STATUS_LATE, R.MOVERCH_STATUS_STAGED, R.MOVERCH_STATUS_PEND_REQ, R.MOVERCH_STATUS_ERR_CODE, R.MOVERCH_STATUS_BYTES, R.MOVERCH_TRIG_SEC, R.MOVERCH_TRIG_NS, R.MOVERCH_TRIG_NS_PHASE, R.MOVERCH_CRC]
/-- Fields of STORE. -/
def fieldsSTORE : List Fld :=
  [R.STORE_FRAMES_IN, R.STORE_FRAMES_OUT, R.STORE_PLACED_BYTES, R.STORE_DGST_FAIL, R.STORE_PASS, R.STORE_LAST_DROP_CODE, R.STORE_LAST_DROP_CONN, R.STORE_LAST_DROP_NOTCH, R.STORE_EVENTS, R.STORE_DROPS]
/-- Fields of EVT. -/
def fieldsEVT : List Fld :=
  [R.EVT_SWSET, R.EVT_HOST_EOI_SOURCE, R.EVT_HOST_EOI_STATUS, R.EVT_PRESENTED, R.EVT_SPURIOUS, R.EVT_ROTOR_CORE, R.EVT_SEV_PRIO, R.EVT_CORE_RUN_PRIO, R.EVT_CORE_IE, R.EVT_CORE_HALTED, R.EVT_CORE_STOPPED, R.EVT_CORE_OUTST_VALID, R.EVT_CORE_OUTST, R.EVT_CORE_DEPTH, R.EVT_PEND_MAP, R.EVT_ACTIVE_MAP]
/-- Fields of HEALTH, part 0. -/
def fieldsHEALTH_0 : List Fld :=
  [R.HEALTH_STATUS_SAFE_HOLD, R.HEALTH_STATUS_FATAL_OPEN, R.HEALTH_STATUS_SPARE_READY, R.HEALTH_STATUS_SLOTS_VACANT, R.HEALTH_STATUS_GLEN_CLK, R.HEALTH_STATUS_CTRL_STOPPED, R.HEALTH_STATUS_POWER_W, R.HEALTH_REPLACE_REASON, R.HEALTH_REPLACE_REASONS, R.HEALTH_REPLACE_NOTCH, R.HEALTH_SAFE_CAUSE, R.HEALTH_SAFE_CLASS, R.HEALTH_SAFE_PAGE, R.HEALTH_SAFE_NOTCH, R.HEALTH_LAST_SAFE, R.HEALTH_ERRS, R.HEALTH_HBM_REMAPPED, R.HEALTH_HBM_FAILED, R.HEALTH_HBM_VISIBLE, R.HEALTH_HBM_CFG_CORR_LIMIT, R.HEALTH_HBM_CFG_WINDOW, R.HEALTH_BASIN_HCFG_CORR_LIMIT, R.HEALTH_BASIN_HCFG_AUTO_MAX, R.HEALTH_CELLS_LEAKED, R.HEALTH_SSTORE_WEAR, R.HEALTH_SSTORE_PE_FAIL, R.HEALTH_SSTORE_WEAR_LIMIT, R.HEALTH_PHASES_FAILED_MAP, R.HEALTH_CMD_CODE, R.HEALTH_CMD_ARG_STACK]
/-- Fields of HEALTH, part 1. -/
def fieldsHEALTH_1 : List Fld :=
  [R.HEALTH_CMD_ARG_INDEX, R.HEALTH_CMD_ARG_REASONS, R.HEALTH_CMD_STATUS, R.HEALTH_EVENTS]
/-- Fields of HEALTH. -/
def fieldsHEALTH : List Fld := fieldsHEALTH_0 ++ fieldsHEALTH_1
/-- Fields of ROLE. -/
def fieldsROLE : List Fld :=
  [R.ROLE_SESS_CMD_CODE, R.ROLE_SESS_CMD_ARG_ROLE, R.ROLE_SESS_CMD_ARG_SLOT, R.ROLE_SESS_CMD_STATUS, R.ROLE_SESS_STATE_OPEN, R.ROLE_SESS_STATE_ROLE, R.ROLE_SESS_STATE_SLOT, R.ROLE_SESS_STATE_LOCKED, R.ROLE_SESS_STATE_IDLE_LEFT, R.ROLE_CHALLENGE, R.ROLE_COUNTER, R.ROLE_SIG_ADDR, R.ROLE_SESS_CFG_IDLE_S, R.ROLE_KEY_CMD_CODE, R.ROLE_KEY_CMD_ARG_CLASS, R.ROLE_KEY_CMD_ARG_SLOT, R.ROLE_KEY_CMD_STATUS, R.ROLE_KEY_ADDR, R.ROLE_JOURNAL_SEQ, R.ROLE_JOURNAL_HEAD, R.ROLE_JOURNAL_STAT_BUFFERED, R.ROLE_JOURNAL_STAT_REFUSED, R.ROLE_EVENTS, R.ROLE_ATTEST_LEAF_NEXT, R.ROLE_ATTEST_RES_END, R.ROLE_ATTEST_FP]
/-- Fields of SSTORE. -/
def fieldsSSTORE : List Fld :=
  [R.SSTORE_DEV_PRESENT, R.SSTORE_DEV_SFDP_OK, R.SSTORE_DEV_MIB, R.SSTORE_FW_ACTIVE, R.SSTORE_FW_VALID_A, R.SSTORE_FW_VALID_B, R.SSTORE_FW_GEN, R.SSTORE_FW_FLOOR, R.SSTORE_SET_ACTIVE, R.SSTORE_SET_VALID_A, R.SSTORE_SET_VALID_B, R.SSTORE_SET_GEN, R.SSTORE_SRC_ADDR, R.SSTORE_SRC_LEN, R.SSTORE_CMD_CODE, R.SSTORE_CMD_SRC, R.SSTORE_CMD_STATUS, R.SSTORE_EVENTS]
/-- Fields of BOOT. -/
def fieldsBOOT : List Fld :=
  [R.BOOT_STATUS_STAGE, R.BOOT_STATUS_CAUSE, R.BOOT_STATUS_FW_TRIAL, R.BOOT_STATUS_FW_FALLBACK, R.BOOT_STATUS_SET_FALLBACK, R.BOOT_STATUS_SET_NONE, R.BOOT_STATUS_COMMITTED_SLOT, R.BOOT_T_STAGE1_T_FW, R.BOOT_T_STAGE1_T_SET, R.BOOT_T_STAGE2_T_GLENS, R.BOOT_T_STAGE2_T_SERVICE, R.BOOT_CMD_CODE, R.BOOT_CMD_ARG_SLOT, R.BOOT_CMD_STATUS, R.BOOT_TRIAL_LIMIT_S, R.BOOT_TRIAL_LEFT_S, R.BOOT_WDOG_KICKS, R.BOOT_WDOG_LAST, R.BOOT_EVENTS]
/-- Fields of CTRLCORE. -/
def fieldsCTRLCORE : List Fld :=
  [R.CTRLCORE_STOPPED_MAP, R.CTRLCORE_EVENTS, R.CTRLCORE_CORE_STOPPED, R.CTRLCORE_CORE_CAUSE, R.CTRLCORE_CORE_EPC]
/-- Fields of HDR, part 0. -/
def fieldsHDR_0 : List Fld :=
  [R.HDR_PAGE_ID_INDEX, R.HDR_PAGE_ID_TYPE, R.HDR_PAGE_ID_UNIT, R.HDR_PAGE_VER_VER, R.HDR_PAGE_CAP_PRESENT, R.HDR_PAGE_CAP_WINDOW, R.HDR_PAGE_CAP_HOLD_OK, R.HDR_PAGE_CAP_WIN_OFF, R.HDR_PAGE_STATUS_ROLE_NOW, R.HDR_PAGE_STATUS_PATH, R.HDR_PAGE_STATUS_SAFE_HOLD, R.HDR_PAGE_ACCESS_WRITE_ROLE, R.HDR_PAGE_ACCESS_AUDIT, R.HDR_EVT_MASK_MASK, R.HDR_UPD_CTRL_HOLD, R.HDR_UPD_CTRL_DROP, R.HDR_UPD_CTRL_STAGED, R.HDR_UPD_CTRL_OVERFLOW, R.HDR_ERR_FIRST_VALID, R.HDR_ERR_FIRST_SEV, R.HDR_ERR_FIRST_CLASS, R.HDR_ERR_FIRST_CODE, R.HDR_ERR_FIRST_INSTANCE, R.HDR_ERR_FIRST_INST_VALID, R.HDR_ERR_FIRST_NOTCH, R.HDR_ERR_FIRST_DETAIL, R.HDR_ERR_MORE_COUNT, R.HDR_ERR_MORE_MAX_SEV, R.HDR_ERR_CLASSES_CLASSES, R.HDR_ERR_LAST_VALID]
/-- Fields of HDR, part 1. -/
def fieldsHDR_1 : List Fld :=
  [R.HDR_ERR_LAST_SEV, R.HDR_ERR_LAST_CLASS, R.HDR_ERR_LAST_NOTCH]
/-- Fields of HDR. -/
def fieldsHDR : List Fld := fieldsHDR_0 ++ fieldsHDR_1
/-- Fields of RULE. -/
def fieldsRULE : List Fld :=
  [R.RULE_CTRL_VALID, R.RULE_CTRL_PRIO, R.RULE_ACT0, R.RULE_ACT1, R.RULE_VALUE, R.RULE_MASK, R.RULE_PARITY_ERR]
/-- Fields of FLOW. -/
def fieldsFLOW : List Fld :=
  [R.FLOW_W0_VALID, R.FLOW_W0_TABLE, R.FLOW_W0_STATIC, R.FLOW_W0_BANK, R.FLOW_W0_SLOT, R.FLOW_W0_BUCKET, R.FLOW_W0_STAMP, R.FLOW_KEY, R.FLOW_DATA]
/-- Fields of FLOWBKT. -/
def fieldsFLOWBKT : List Fld :=
  [R.FLOWBKT_SLOT_SIG, R.FLOWBKT_SLOT_ENTRY, R.FLOWBKT_SLOT_ALT]
/-- Fields of ROUTEBKT. -/
def fieldsROUTEBKT : List Fld :=
  [R.ROUTEBKT_SLOT_SIG, R.ROUTEBKT_SLOT_ENTRY, R.ROUTEBKT_SLOT_ALT]
/-- Fields of MACBKT. -/
def fieldsMACBKT : List Fld :=
  [R.MACBKT_SLOT_SIG, R.MACBKT_SLOT_ENTRY, R.MACBKT_SLOT_ALT]
/-- Fields of ROUTE. -/
def fieldsROUTE : List Fld :=
  [R.ROUTE_W0_VALID, R.ROUTE_W0_FAMILY, R.ROUTE_W0_BANK, R.ROUTE_W0_SLOT, R.ROUTE_W0_BUCKET, R.ROUTE_W0_LEN, R.ROUTE_W0_VRF, R.ROUTE_ADDR_HI, R.ROUTE_ADDR_LO, R.ROUTE_NEXT_HOP]
/-- Fields of MACENT. -/
def fieldsMACENT : List Fld :=
  [R.MACENT_W0_VALID, R.MACENT_W0_STATIC, R.MACENT_W0_BANK, R.MACENT_W0_SLOT, R.MACENT_W0_BUCKET, R.MACENT_W0_STAMP, R.MACENT_KEY, R.MACENT_DATA, R.MACENT_LEARNER]
/-- Fields of MOVELOG. -/
def fieldsMOVELOG : List Fld :=
  [R.MOVELOG_W0_STATE, R.MOVELOG_W0_TABLE, R.MOVELOG_W0_CROSS, R.MOVELOG_W0_ENTRY, R.MOVELOG_W0_FROM_BANK, R.MOVELOG_W0_TO_BANK, R.MOVELOG_W1_FROM_BUCKET, R.MOVELOG_W1_FROM_SLOT, R.MOVELOG_W1_TO_BUCKET, R.MOVELOG_W1_TO_SLOT]
/-- Fields of VRF. -/
def fieldsVRF : List Fld :=
  [R.VRF_W0_EN, R.VRF_W0_FILTER_EN, R.VRF_MAP4, R.VRF_MAP6, R.VRF_MAP6TOP]
/-- Fields of FILTER. -/
def fieldsFILTER : List Fld :=
  [R.FILTER_COUNTERS]
/-- Fields of CELL. -/
def fieldsCELL : List Fld :=
  [R.CELL_W0_NEXT, R.CELL_W0_FIRST, R.CELL_W0_LAST, R.CELL_W0_BYTES, R.CELL_W0_STATE, R.CELL_W0_INGRESS]
/-- Fields of LEAFREC. -/
def fieldsLEAFREC : List Fld :=
  [R.LEAFREC_W0_MAX_CELLS]
/-- Fields of ECSTAT. -/
def fieldsECSTAT : List Fld :=
  [R.ECSTAT_ADMITTED, R.ECSTAT_TAIL_DROP, R.ECSTAT_PUSHED_OUT, R.ECSTAT_AGED]
/-- Fields of LEAF. -/
def fieldsLEAF : List Fld :=
  [R.LEAF_W0_NODE, R.LEAF_W0_SH_EN, R.LEAF_W0_WEIGHT, R.LEAF_W0_WEIGHT_USE, R.LEAF_W1_CIR, R.LEAF_W1_PIR, R.LEAF_W2_CBS, R.LEAF_W2_PBS, R.LEAF_F, R.LEAF_TC, R.LEAF_TP]
/-- Fields of NODE. -/
def fieldsNODE : List Fld :=
  [R.NODE_W0_EGRESS, R.NODE_W0_CLASS, R.NODE_W0_ATTACHED, R.NODE_W0_SH_EN, R.NODE_W0_LABEL, R.NODE_W0_WEIGHT, R.NODE_W0_WEIGHT_USE, R.NODE_W1_CIR, R.NODE_W1_PIR, R.NODE_W2_CBS, R.NODE_W2_PBS, R.NODE_F, R.NODE_V, R.NODE_TC, R.NODE_TP]
/-- Fields of ECLASS. -/
def fieldsECLASS : List Fld :=
  [R.ECLASS_V]
/-- Fields of POLICER. -/
def fieldsPOLICER : List Fld :=
  [R.POLICER_W0_MODE, R.POLICER_W0_AWARE, R.POLICER_W0_ACT_G, R.POLICER_W0_ACT_Y, R.POLICER_W0_ACT_R, R.POLICER_W1_CIR, R.POLICER_W1_PIR, R.POLICER_W2_CBS, R.POLICER_W2_XBS, R.POLICER_T1, R.POLICER_T2, R.POLICER_GREEN, R.POLICER_YELLOW, R.POLICER_RED, R.POLICER_DROP]
/-- Fields of GATE. -/
def fieldsGATE : List Fld :=
  [R.GATE_W0_EN, R.GATE_W0_ACTIVE, R.GATE_W0_INIT_OPEN, R.GATE_W0_COL_MODE, R.GATE_W0_COL_NOTCHES, R.GATE_W0_PENDING, R.GATE_W0_OPEN_NOW, R.GATE_W0_ENTRY_NOW, R.GATE_CHANGE_SEC, R.GATE_CHANGE_NS, R.GATE_BASE_SEC, R.GATE_BASE_NS, R.GATE_BASE_LEN, R.GATE_CYCLE, R.GATE_COL_HOLDS]
/-- Fields of GATEENT. -/
def fieldsGATEENT : List Fld :=
  [R.GATEENT_W0_OPEN, R.GATEENT_W0_DURATION]
/-- Fields of SA. -/
def fieldsSA : List Fld :=
  [R.SA_W0_VALID, R.SA_W0_DIR, R.SA_W0_PROTO, R.SA_W0_ALG, R.SA_W0_MODE, R.SA_W0_ESN, R.SA_W0_KEY_LOADED, R.SA_W0_EXHAUSTED, R.SA_W0_SOFT_HIT, R.SA_W0_RX_SYNC, R.SA_W0_WIN_SIZE, R.SA_W0_INSTANCE, R.SA_W1_SPI, R.SA_W1_AN, R.SA_SALT_LO, R.SA_SALT_HI, R.SA_SCI, R.SA_SEQ, R.SA_SEQ_SOFT, R.SA_RX_TCP_SEQ, R.SA_KEY_FP, R.SA_FRAMES, R.SA_OCTETS, R.SA_W12_REPLAY_DROPS, R.SA_W12_AUTH_FAILS, R.SA_WINDOW]
/-- Fields of CONN. -/
def fieldsCONN : List Fld :=
  [R.CONN_W0_VALID, R.CONN_W0_HDGST_EN, R.CONN_W0_DDGST_EN, R.CONN_W0_PLACE_EN, R.CONN_W0_RX_SYNC, R.CONN_W0_BUF_LOG2, R.CONN_W0_INSTANCE, R.CONN_W0_MSS, R.CONN_W0_LOCAL_PORT, R.CONN_W1_RCV_NXT, R.CONN_W1_PDU_REM, R.CONN_BUF_BASE, R.CONN_W3_HDR_BYTES, R.CONN_W3_CUR_CCCID, R.CONN_W3_DGST_ACC, R.CONN_CUR_DATAO, R.CONN_HDR_STAGE, R.CONN_PDUS_RX, R.CONN_PDUS_TX, R.CONN_PLACED, R.CONN_W12_HDGST_FAILS, R.CONN_W12_DDGST_FAILS, R.CONN_IOS]
/-- Fields of SRC. -/
def fieldsSRC : List Fld :=
  [R.SRC_W0_PRIO, R.SRC_W0_MASK, R.SRC_W0_TRIGGER, R.SRC_W0_ROUTE, R.SRC_W0_HOST_PF, R.SRC_W0_HOST_VEC, R.SRC_W0_TARGETS, R.SRC_W1_PEND, R.SRC_W1_SERVICE, R.SRC_W1_CORE, R.SRC_W1_EFF_PRIO, R.SRC_W1_COUNT]
/-- Fields of HBMREG. -/
def fieldsHBMREG : List Fld :=
  [R.HBMREG_W0_STATE, R.HBMREG_W0_PHYS, R.HBMREG_W0_CORR]
/-- Fields of BANK. -/
def fieldsBANK : List Fld :=
  [R.BANK_W0_STATE, R.BANK_W0_CORR, R.BANK_W0_UNCORR]

/-- Every field of a page or object. -/
def fieldsOf : Space → List Fld
  | .DEVICE => fieldsDEVICE
  | .DIAL => fieldsDIAL
  | .LANEGRP => fieldsLANEGRP
  | .PORT => fieldsPORT
  | .WAKE => fieldsWAKE
  | .GLEN => fieldsGLEN
  | .GLENSPARE => fieldsGLENSPARE
  | .GSLOT => fieldsGSLOT
  | .GPHYS => fieldsGPHYS
  | .CLASSIFY => fieldsCLASSIFY
  | .DEFILE => fieldsDEFILE
  | .TABLE => fieldsTABLE
  | .BASIN => fieldsBASIN
  | .SCHED => fieldsSCHED
  | .HOST => fieldsHOST
  | .INST => fieldsINST
  | .RCTX => fieldsRCTX
  | .INSTCTL => fieldsINSTCTL
  | .CRYPTO => fieldsCRYPTO
  | .MOVER => fieldsMOVER
  | .STORE => fieldsSTORE
  | .EVT => fieldsEVT
  | .HEALTH => fieldsHEALTH
  | .ROLE => fieldsROLE
  | .SSTORE => fieldsSSTORE
  | .BOOT => fieldsBOOT
  | .CTRLCORE => fieldsCTRLCORE
  | .HDR => fieldsHDR
  | .RULE => fieldsRULE
  | .FLOW => fieldsFLOW
  | .FLOWBKT => fieldsFLOWBKT
  | .ROUTEBKT => fieldsROUTEBKT
  | .MACBKT => fieldsMACBKT
  | .ROUTE => fieldsROUTE
  | .MACENT => fieldsMACENT
  | .MOVELOG => fieldsMOVELOG
  | .VRF => fieldsVRF
  | .FILTER => fieldsFILTER
  | .CELL => fieldsCELL
  | .LEAFREC => fieldsLEAFREC
  | .ECSTAT => fieldsECSTAT
  | .LEAF => fieldsLEAF
  | .NODE => fieldsNODE
  | .ECLASS => fieldsECLASS
  | .POLICER => fieldsPOLICER
  | .GATE => fieldsGATE
  | .GATEENT => fieldsGATEENT
  | .SA => fieldsSA
  | .CONN => fieldsCONN
  | .SRC => fieldsSRC
  | .HBMREG => fieldsHBMREG
  | .BANK => fieldsBANK

end Sys2Proof.Machine
end

