-- ==== Sys2Proof/Config.lean ====
section
/-! DEFINITION. What an implementation fixes and what the spec leaves open, as constants with no body: nothing in the
model can evaluate them, so a statement about them holds for every value. Each has its entry in notes/assumptions. -/

namespace Sys2Proof.Config

/-- A value the spec leaves open, fresh for each value of a counter of the state. -/
opaque freeValue : Nat → BitVec 64

/-- Velarmund's PCI vendor identifier, 2 bytes in the order of an MCTP message (16 R549). -/
opaque vendorId : Nat → Byte

/-- The key that the device derives from its fuse secret, under which its attestation seeds are wrapped (16 R529). -/
opaque wrapKey : List Byte → List Byte

/-- Where in HBM a word of a table or of a security association lies, in words from its start (14 R476). -/
opaque hbmHome : Key → Nat

end Sys2Proof.Config
end

