-- ==== Sys2Proof/Machine/State.lean ====
section
/-! DEFINITION. The state of the block as plain data, its reset, and the reasons a step can stop. -/

namespace Sys2Proof.Machine

/-- Register words by place, in one canonical form (Machine/Store.lean): places strictly rising, and no word equal to
what an unlisted place reads as. -/
abbrev Store := List (Key × Word)

/-- Bytes by address of the internal address space (14 R476) and of the memories the model places beyond it, in one
canonical form (Machine/Store.lean). -/
abbrev Memory := List Host.Cell

/-- A write to host memory: the function it is issued as, its address and bytes, and whether Relaxed Ordering is set, as on frame
data (10 R349, R386; 13 R445, R463). -/
structure HostWrite where
  fn : Nat
  addr : Nat
  bytes : List Byte
  relaxed : Bool := false
deriving DecidableEq, Repr

/-- What leaves the device in the running Notch, and what an access of the Notch answers. -/
inductive Out where
  /-- A register read served: the path, the page index, the page offset and the value (00 R17). -/
  | readData (path : Path) (page off : Nat) (value : Word)
  /-- An output pin or lane of the package takes a level (19 R616). -/
  | pin (name : String) (level : Bool)
  /-- PPS_OUT takes a level; a rising edge comes `advance` ns before the Notch boundary (01 R42). -/
  | ppsOut (level : Bool) (advance : Nat)
  /-- A write to host memory through a host port (10 R374). -/
  | hostWrite (port : HostPort) (write : HostWrite)
  /-- An MSI-X message of a function: PF number 0 to 3, or 4 + the instance of a VF (10 R384, 14 R488). -/
  | msix (fn vec : Nat)
  /-- A frame handed to an Ethernet port, with whether its FCS is good (02 R78, 03 R111). -/
  | frame (port : Nat) (bytes : List Byte) (good : Bool)
  /-- A PAUSE or PFC frame sent on a port: PFC or not, class-enable vector, and quanta (03 R108). -/
  | flowControl (port : Nat) (pfc : Bool) (classes quanta : Nat)
  /-- A management message sent: an MCTP response (16 R550). -/
  | message (path : Path) (bytes : List Byte)
  /-- A PLDM PlatformEventMessage sent to an endpoint of a bus, with its event class and data (15 R517). -/
  | event (bus : MctpBus) (eid : Nat) (cls : Byte) (bytes : List Byte)
  /-- An in-band interrupt on I3C: an MCTP packet awaits collection (19 R618). -/
  | inBand
  /-- A register access answered as an Unsupported Request (17 R563). -/
  | unsupported (path : Path)
  /-- A configuration request answered (17 R563): the function, whether with Request Retry Status, and what a read returns. -/
  | config (fn : Nat) (retry : Bool) (value : Option Nat := none)
deriving DecidableEq, Repr

/-- An error detected in the running Notch, kept for an acknowledgement of the same Notch (15 R498). -/
structure ErrRec where
  page : Nat
  cls : Nat
  code : Nat
  inst : Option Nat
  detail : Nat
deriving DecidableEq, Repr

/-- A dial step issued in the running Notch (01 R45). -/
inductive DialStep where
  | rel (sec ns : Int)
  | abs (sec ns : Nat)
deriving DecidableEq, Repr

/-- An accepted time-of-day message that awaits its edge (01 R40). -/
structure Tod where
  sec : Nat
  untraceable : Bool
deriving DecidableEq, Repr

/-- The dial unit and the PPS pins (01). -/
structure Dial where
  /-- Notch count (R21). -/
  notch : Nat := 0
  /-- Dial seconds and nanoseconds (R22). -/
  sec : Nat := 0
  ns : Nat := 0
  /-- The step that acts at the end of the running Notch (R45). -/
  stepPending : Option DialStep := none
  /-- In the first Notch after a step: the dial time this Notch would have had without it (R47, R49). -/
  stepped : Option (Nat × Nat) := none
  /-- Consecutive samples within LOCK_THRESH_NS, and beyond 4 times it (R35). -/
  goodRun : Nat := 0
  badRun : Nat := 0
  /-- Notch of the latest valid sample, or of the selection of the source (R35). -/
  lastValid : Nat := 0
  /-- Dial time at which HOLDOVER was entered (R35). -/
  holdFrom : Nat × Nat := (0, 0)
  /-- A valid sample has been applied since reset (R37). -/
  sampled : Bool := false
  /-- The accepted time-of-day message (R40). -/
  tod : Option Tod := none
  /-- The offset of the latest PPS_IN edge against the message applied to it, and that message's untraceable flag, not
  yet evaluated (R35, R41). -/
  edgeSample : Option (Int × Bool) := none
  /-- Dial time of the latest PPS_IN edge (R40). -/
  lastEdge : Option (Nat × Nat) := none
  /-- Dial time from which the window of the expected edge is counted (R41). -/
  watch : Option (Nat × Nat) := none
  /-- PPS_OUT level, and the Notch at which the pulse ends (R42). -/
  ppsOut : Bool := false
  ppsEnd : Nat := 0
deriving DecidableEq, Repr

/-- A register write held under UPD_CTRL.HOLD (18 R592). -/
structure HeldWrite where
  off : Nat
  mask : Word
  data : Word
deriving DecidableEq, Repr

/-- UPD_CTRL of one page for one path's bank (18 R585, R592). -/
structure HoldBank where
  hold : Bool := false
  drop : Bool := false
  overflow : Bool := false
  writes : List HeldWrite := []
deriving DecidableEq, Repr

/-- The access window of one page for one path's bank (18 R594, R595). -/
structure WinBank where
  object : Nat := 0
  index : Nat := 0
  code : Nat := 0
  status : Nat := 0
  lastObject : Nat := 0
  lastIndex : Nat := 0
  dirty : Nat := 0
  len : Nat := 0
  err : Bool := false
  notch : Nat := 0
  data : List Word := []
  staged : List Word := []
  /-- Object and index of the last READ that completed since the bank's reset. -/
  read : Option (Nat × Nat) := none
  /-- The readback of the command performed in the running Notch: code, status, object and index (00 R20). -/
  ran : Option ((Nat × Nat) × (Nat × Nat)) := none
deriving DecidableEq, Repr

/-- A store of control firmware to a register page, served at the end of its Notch (14 R476; 01 R51): address and bytes. -/
structure PageStore where
  addr : Nat
  bytes : List Byte
deriving DecidableEq, Repr

/-- An open session (16 R530 to R533). -/
structure Session where
  /-- Bank of the path on which it is open: 2, 3 or 4; and the path of its OPEN. -/
  bank : Nat
  path : Path
  role : Nat
  slot : Nat
  counter : Nat
  /-- Notch of the latest access through it. -/
  last : Nat
deriving DecidableEq, Repr

/-- A window WRITE that takes effect at the end of its Notch (18 R598, R599): its path with the session it was served under,
page, object, index, and the words to write, each with the mask of its writable bits. -/
structure WinWrite where
  path : Path
  session : Option Session := none
  page : Nat
  object : Nat
  index : Nat
  words : List (Nat × (Word × Word))
deriving DecidableEq, Repr

/-- What the register paths hold besides the registers (00 R14, R18, R19; 18 R592, R594). -/
structure Access where
  /-- Low halves written and awaiting their high halves: bank of the path, page, offset, data (00 R14). -/
  low : List ((Nat × Nat × Nat) × Word) := []
  /-- Hold banks by bank of the path and page. -/
  holds : List ((Nat × Nat) × HoldBank) := []
  /-- Window banks by bank of the path and page. -/
  wins : List ((Nat × Nat) × WinBank) := []
  /-- Bits of W1C fields set in the running Notch (00 R19). -/
  setNow : List (Key × Word) := []
  /-- RC bits already cleared by a read of the running Notch (00 R18). -/
  cleared : List (Key × Word) := []
  /-- Stores of control firmware to register pages, and words of window WRITEs, that act at the end of the running Notch. -/
  stores : List PageStore := []
  windowed : List WinWrite := []
  /-- Commands that were accepted and completed in the running Notch, by the place of their CMD field: the readback that stands
  from the next Notch on (00 R20). -/
  ran : List (Key × Word) := []
  /-- The word as written of a CMD register that a plain write is performing (18 R591). -/
  cmdWord : Option Word := none
deriving DecidableEq, Repr

/-- One record of the audit journal (16 R535); CHAIN as its 32 bytes. -/
structure JRec where
  seq : Nat
  notch : Nat
  sec : Nat
  ns : Nat
  role : Nat
  path : Nat
  kind : Nat
  page : Nat
  off : Nat
  old : Word
  new : Word
  object : Nat
  session : Nat
  chain : List Byte
deriving DecidableEq, Repr

/-- The error recorder's own state (15 R496 to R502). -/
structure Errs where
  /-- Errors detected in the running Notch, oldest first (R497, R498). -/
  now : List ErrRec := []
  /-- Pages acknowledged in the running Notch (R498). -/
  acked : List Nat := []
  /-- A Safe Hold entry that is due: cause, class, page and Notch (R502). -/
  safeDue : Option (Nat × Nat × Nat × Nat) := none
deriving DecidableEq, Repr

/-- A challenge that awaits its OPEN (16 R530). -/
structure Challenge where
  bank : Nat
  role : Nat
  slot : Nat
  counter : Nat
  nonce : List Byte
  notch : Nat
deriving DecidableEq, Repr

/-- Roles, keys and the audit journal (16 R526 to R538). -/
structure Roles where
  sessions : List Session := []
  challenges : List Challenge := []
  /-- Consecutive refusals for reasons 4 and 5 of R531, by bank. -/
  refusals : List (Nat × Nat) := []
  /-- Notch at which the lock of a path ends, by bank (R532). -/
  lockouts : List (Nat × Nat) := []
  /-- Journal records not yet in the serial store, oldest first (R537). -/
  buffer : List JRec := []
  /-- Records that a full buffer has no place for yet, of changes that nothing may refuse (notes/assumptions/138). -/
  owed : List JRec := []
  /-- CHAIN of the latest record written to the serial store; before the first, the start value of R536. -/
  storedChain : Option (List Byte) := none
  /-- CHAIN of the latest record; before the first, the start value of R536. -/
  lastChain : Option (List Byte) := none
  /-- The MCTP staging area (R551). -/
  staging : Memory := []
  /-- MCTP requests held during a firmware swap, oldest first: bus, TAG and request (17 R574). -/
  held : List (MctpBus × (Nat × MctpReq)) := []
deriving DecidableEq, Repr

/-- A key slot (16 R527): 0 EMPTY, 1 ACTIVE, 2 REVOKED; SEQ of its latest enrolment; its 68 bytes. -/
structure KeySlot where
  state : Nat := 0
  seq : Nat := 0
  key : List Byte := []
deriving DecidableEq, Repr

/-- A sector of the journal region (16 R541): SEQ of its first record and the CHAIN before it, which its header holds, and its
records. -/
structure JSector where
  seq : Nat
  chain : List Byte
  recs : List JRec
deriving DecidableEq, Repr

/-- What one of the two serial-store devices holds (16 R539): the regions that the device writes, and the erases of each sector,
by its offset. -/
structure StoreCopy where
  /-- Identity: the wrapped seeds (nonce, ciphertext, tag) and the endorsement object; and the factory calibration, as the same
  object gives it (R529, R543). -/
  seeds : List Byte := []
  identity : List Byte := []
  calibration : List Byte := []
  /-- By 8 × class + slot. -/
  keys : List (Nat × KeySlot) := []
  fwA : List Byte := []
  fwB : List Byte := []
  setA : List Byte := []
  setB : List Byte := []
  /-- Reservation records of 64 bytes, oldest first, and how many have been written (R547, R548). -/
  signing : List (List Byte) := []
  reserved : Nat := 0
  /-- Sectors of the journal, the lowest SEQ first, and how many have been begun (R541). -/
  journal : List JSector := []
  begun : Nat := 0
  erases : List (Nat × Nat) := []
  /-- Erases that a sector is rated for. -/
  rated : Nat := 100000
deriving DecidableEq, Repr

/-- The serial store and the fuses, which a reset of the device keeps (16 R539, 17 R560): the two devices, and the content of
their regions as the device uses it. -/
structure SerialStore where
  copy0 : StoreCopy := { }
  copy1 : StoreCopy := { }
  /-- The 256-bit fuse secret, and the wrapped seeds in use (16 R529). -/
  fuseSecret : List Byte := []
  seeds : List Byte := []
  /-- The module's serial number, its first byte lowest (16 R530, R539). -/
  serial : BitVec 128 := 0
  /-- Fuses of the maker slots: the hash of each slot's key, and the slots whose revocation fuse is blown (16 R527, R528). -/
  makerHash : List (List Byte) := []
  blown : Nat := 0
  /-- By 8 × class + slot. -/
  keys : List (Nat × KeySlot) := []
  /-- Objects in the firmware slots, in the settings slots, and of identity and calibration. -/
  fwA : List Byte := []
  fwB : List Byte := []
  setA : List Byte := []
  setB : List Byte := []
  identity : List Byte := []
  /-- The committed firmware slot, the active settings slot, and whether the latter has ever been marked. -/
  committed : Nat := 0
  activeSet : Nat := 0
  /-- Health record: replacement reasons kept, and HEALTH.LAST_SAFE's words (15 R505, R514). -/
  reasons : Nat := 0
  lastSafe : List Word := []
  /-- Converter phases that have failed (15 R512; 19 R626). -/
  phases : Nat := 0
  /-- Challenges issued over the module's life (16 R530). -/
  counter : Nat := 0
  /-- Rollback floor (16 R558). -/
  floor : Nat := 0
deriving DecidableEq, Repr

/-- A packet ticket: eight 64-bit quadwords in the layout of 02 R69. -/
structure Ticket where
  q : List Word := [0, 0, 0, 0, 0, 0, 0, 0]
deriving DecidableEq, Repr

/-- A ticket on its way between units, with the edited header window that goes with it (02 R75, 06 R210). -/
structure Pkt where
  tk : Ticket
  win : List Byte
deriving DecidableEq, Repr

/-- How far a frame of the Basin has come. -/
inductive FrameStage where
  /-- Being written, or waiting for its ticket to be created. -/
  | arriving
  /-- Its ticket is at a dealer, in a Glen, at the Defile or on its way to admission. -/
  | ticketed
  /-- Admitted: on its leaf and egress class. -/
  | queued
  /-- Being read out by its egress. -/
  | egress
deriving DecidableEq, Repr

/-- A frame of the Basin: its chain of cells with the bytes each holds, its bytes, and its frame record (08 R285, R286). -/
structure Frame where
  /-- Head cell, which names the frame. -/
  head : Nat
  cells : List (Nat × Nat)
  bytes : List Byte
  ingress : Nat
  /-- Initial class, under which flow control counts the frame (03 R101). -/
  cls0 : Nat
  stage : FrameStage := .arriving
  complete : Bool := false
  errored : Bool := false
  /-- Notch in which the first byte was written (ARRIVAL). -/
  arrival : Nat := 0
  /-- Notch in which the header window was complete (02 R65). -/
  winNotch : Option Nat := none
  /-- Receive timestamp: dial seconds and nanoseconds (03 R112). -/
  ts : Option (Nat × Nat) := none
  /-- The ticket as admitted. -/
  tk : Ticket := { }
  started : Bool := false
  /-- The forwarding choice made at admission: cut-through (08 R301). -/
  ct : Bool := false
  /-- Notch of admission (08 R303). -/
  admitted : Nat := 0
  /-- Its place among the frames that admission gave the crypto and storage units (06 R234). -/
  order : Nat := 0
  egress : Nat := 0
  cls : Nat := 0
  leaf : Nat := 0
  /-- Bytes already charged to stamps, shapers and policers (09 R318). -/
  charged : Nat := 0
  /-- Bytes charged to the stamps as the remainder before the frame started (09 R318). -/
  remainder : Nat := 0
  /-- Transmit timestamp taken at the start (03 R113). -/
  txTs : Option (Nat × Nat) := none
  /-- Whether the leaf's and the node's shaper were debited at the start (09 R318). -/
  debited : Bool × Bool := (false, false)
  /-- Policer that coloured the ticket while PARTIAL, with which counts it debited (09 R335). -/
  policed : Option (Nat × Bool × Bool) := none
  /-- The ticket a return from crypto or storage carries to a new pass (02 R76). -/
  back : Option Ticket := none
  /-- On host ingress: the transmit ring and the number of the chain whose completion awaits the frame (10 R372). -/
  tx : Option (Nat × Nat) := none
  /-- The instance on whose transmit ring it entered the device (11 R394, R415). -/
  origin : Option Nat := none
  /-- Bytes free in its last cell. -/
  room : Nat := 256
deriving DecidableEq, Repr

/-- The Basin beyond its registers (08). -/
structure Basin where
  /-- Frames, admitted ones in admission order after all others have been moved to the end at admission. -/
  frames : List Frame := []
  /-- Frames whose cells are freed at the end of the Notch (R287). -/
  freeing : List Frame := []
  /-- Cells granted to an ingress and holding no byte yet, oldest first (R292). -/
  granted : List (Nat × Nat) := []
  /-- Bank that gave each ingress its previous first cell (R284). -/
  lastFirst : List (Nat × Nat) := []
  /-- Cells that no frame holds and that are never granted again before a reset (15 R510). -/
  leaked : List Nat := []
  /-- Next leaf of the ageing sweep (R307). -/
  sweep : Nat := 0
  /-- Leaves the scheduler examined in the running Notch (R306). -/
  examined : List Nat := []
  /-- Departures and drops of frames a transmit completion awaits: ring and chain, the egress, and the transmit timestamp if
  it was sent (10 R372). -/
  txEvents : List ((Nat × Nat) × (Nat × Option (Nat × Nat))) := []
  /-- Tickets served by admission in the running Notch (R294). -/
  served : Nat := 0
deriving DecidableEq, Repr

/-- What a port's MAC is doing with the frame that arrives on it (03 R98, R99). -/
inductive RxStage where
  /-- The first 64 bytes are in the receive staging; the receive timestamp, taken with its first bytes. -/
  | staging (ts : Option (Nat × Nat))
  /-- Accepted, held in the Basin under this head cell; its bytes so far as received, and whether it was truncated. -/
  | basin (head n : Nat) (cut : Bool)
  /-- A MAC control frame, held in the staging. -/
  | control
  /-- Disposed of; the rest is thrown away. -/
  | discard
  /-- Dropped in the Basin after this many bytes, truncated or not; the rest is only counted. -/
  | gone (n : Nat) (cut : Bool)
deriving DecidableEq, Repr

/-- A valid MAC control frame that awaits its event Notch (03 R102). -/
structure FlowFrame where
  port : Nat
  pfc : Bool
  /-- Quanta of each class, where the class is named. -/
  quanta : List (Option Nat)
  notch : Nat
deriving DecidableEq, Repr

/-- A flow-control frame to be sent (03 R108, R109). -/
structure FlowSend where
  port : Nat
  pfc : Bool
  cls : Nat
  quanta : Nat
  /-- Notch in which the condition arose. -/
  notch : Nat
deriving DecidableEq, Repr

/-- The Ethernet ports beyond their registers (03). -/
structure Ports where
  /-- The frame that arrives on each port: its stage, and its bytes so far. -/
  rx : List (Nat × (RxStage × List Byte)) := []
  /-- Valid flow-control frames received and not yet acted on. -/
  control : List FlowFrame := []
  /-- Running pauses: port and class, and the Notch at which the class is eligible again (R105). -/
  pauses : List ((Nat × Nat) × Nat) := []
  /-- Flow-control frames to send, oldest first (R109). -/
  sends : List FlowSend := []
  /-- Port and class (8: all) in the XOFF state, with the Notch of the latest XOFF frame (R108). -/
  xoff : List ((Nat × Nat) × Nat) := []
  /-- Ports whose arriving frame was ended in the running Notch: its further bytes are thrown away (R93, 08 R293). -/
  ended : List Nat := []
  /-- By port, what a frame cut short on its ring while it arrived is charged with at its end: instance, direction, class, and
  WIN_DELTA (11 R415). -/
  owed : List (Nat × (Nat × Nat × Nat × Int)) := []
  /-- Ports whose ADMIN is 0 and whose frame in transmission has not completed (R95). -/
  closing : List Nat := []
  /-- Notch at which each running recalibration ends at the latest, by port (R97). -/
  recal : List (Nat × Nat) := []
  /-- Start Notch of each port's FEC window (R96). -/
  fecFrom : List (Nat × Nat) := []
deriving DecidableEq, Repr

/-- The wake detector and the WAKE# pin (03 R114 to R117). -/
structure Wake where
  /-- In Standby: only the detector is powered. -/
  standby : Bool := false
  /-- An accepted ENTER_STANDBY that has not removed the power: its Notch, and what its writes to the serial store meet. -/
  leaving : Option (Nat × StoreWrite) := none
  /-- WAKE.CTRL, WAKE.MAGIC_MAC, and the patterns, masks and lengths as saved at entry. -/
  savedCtrl : Nat := 0
  savedMac : Nat := 0
  savedPatterns : List (List Byte × Nat × Nat) := []
  /-- WAKE# is driven low. -/
  pinLow : Bool := false
  /-- Notch at which STAGE first read SERVICE in this start, while WAKE# is low (R117). -/
  serviceAt : Option Nat := none
deriving DecidableEq, Repr

/-- Rates and bursts of a shaper, or all settings of a policer, as they are in force (09 R332, R336). -/
structure Rates where
  mode : Nat := 0
  aware : Bool := false
  drop : Nat := 0
  cir : Nat := 0
  pir : Nat := 0
  cbs : Nat := 0
  xbs : Nat := 0
deriving DecidableEq, Repr

/-- A frame offered to an egress, by its head cell, with F of its node and of its leaf as they stood at the selection (09 R322,
R326). -/
structure Offer where
  head : Nat
  nodeF : Nat
  leafF : Nat
deriving DecidableEq, Repr

/-- The scheduler beyond its records (09). -/
structure Sched where
  /-- Settings in force of leaves, nodes and policers, by record number; an unlisted one has rates and bursts 0. -/
  leafRates : List (Nat × Rates) := []
  nodeRates : List (Nat × Rates) := []
  policerRates : List (Nat × Rates) := []
  /-- Nodes found eligible by the previous selection of each egress class (R325). -/
  eligible : List (Nat × List Nat) := []
  /-- The frame each egress has been offered in the running Notch and has not started (R322). -/
  offers : List (Nat × Offer) := []
  /-- The leaves attached to node 32,767, whose records read 0x7FFF as those of unattached leaves do (R315, R348). -/
  lastNode : List Nat := []
  /-- Port-classes counted as held by the Col in the running Notch (R344). -/
  colHeld : List Nat := []
deriving DecidableEq, Repr

/-- Health beyond the HEALTH page (15). -/
structure Health where
  /-- Receiver of PLDM events, where one is set: the bus it was set over, and its endpoint ID (R517). -/
  receiver : Option (MctpBus × Nat) := none
  /-- Events held for PollForPlatformEventMessage, oldest first, at most 16. -/
  events : List (List Byte) := []
  /-- HBM remap copies that run: stack, region, and the reserve region they go to (R507). -/
  remaps : List (Nat × Nat × Nat) := []
  /-- Notch in which each of them started, by the region's index. -/
  remapFrom : List (Nat × Nat) := []
  /-- Regions of each stack's reserve taken so far (R507). -/
  reserve : List (Nat × Nat) := []
  /-- Words of HBM, by address, that are marked uncorrectable until they are written again (R507). -/
  marked : List Nat := []
  /-- Measured or sampled case temperatures, in tenths of a degree, newest first (19 R623). -/
  temps : List Int := []
  /-- A second sample has been taken in the running Notch: it acts in the next one (19 R623). -/
  sampled : Bool := false
  /-- THERM_ALERT# is driven low (19 R623). -/
  alert : Bool := false
  /-- Counts of corrected errors, of HBM regions and Basin banks, and the Notch in which the present window of each began
  (R507, R509). -/
  corrFrom : List (Key × Nat) := []
  /-- The last converter phase that failed since the start, and its Notch (19 R626). -/
  phaseAt : Option (Nat × Nat) := none
deriving DecidableEq, Repr

/-- What a thread does (04 R137), in the order of GPHYS.DBG_STATE.STATE (R172). -/
inductive ThState where
  | off | idle | ready | blkChrd | blkChwr | blkChfull | blkLock | blkEvwait | blkReply | stopped
deriving DecidableEq, Repr

/-- A hardware thread (04 R129, R137 to R144; 05 R175, R176). The one thread of a control core uses the same record. -/
structure Thread where
  st : ThState := .off
  halted : Bool := false
  /-- One instruction is to issue, and the thread halts again when it and its wait are over (R155). -/
  stepping : Bool := false
  /-- That one instruction has issued. -/
  stepped : Bool := false
  /-- Let go at a breakpoint: the next instruction issues. -/
  passed : Bool := false
  /-- Byte offset of the next instruction. -/
  pc : Nat := 0
  regs : List Word := List.replicate 32 0
  pkt : Option Pkt := none
  events : Nat := 0
  lockBroken : Bool := false
  /-- The open stage: its channel and its words. -/
  stage : Option (Nat × List Word) := none
  /-- The lock or channel awaited. -/
  waitObj : Nat := 0
  /-- While blocked in CHRD: the destination register and k. While blocked in a first CHWR: the word to append. -/
  waitRd : Nat := 0
  waitK : Nat := 0
  waitWord : Word := 0
  /-- While blocked in BLK_REPLY: a scratch reply or not, the registers the reply writes, and the flow hash it writes. -/
  scratchReply : Bool := false
  reply : List (Nat × Word) := []
  replyHash : Option Nat := none
deriving DecidableEq, Repr

/-- A lock (04 R142, R143). -/
structure Lock where
  holder : Option ThreadId := none
  broken : Bool := false
  /-- In the order in which they blocked. -/
  waiters : List ThreadId := []
deriving DecidableEq, Repr

/-- A channel of a Glen (04 R138 to R141). -/
structure Channel where
  /-- Whole messages, oldest first. -/
  msgs : List (List Word) := []
  /-- Holder of the writer lock. -/
  writer : Option ThreadId := none
  writers : List ThreadId := []
  readers : List ThreadId := []
deriving DecidableEq, Repr

/-- For what a Glen fills (04 R162, R168, R169). -/
inductive FillKind where
  | auto | intake | handover
deriving DecidableEq, Repr

/-- A running or completed fill. -/
structure Fill where
  slot : Nat
  kind : FillKind
  start : Nat
  /-- The fill is complete and the old holder drains (R168 step 2). -/
  done : Bool := false
deriving DecidableEq, Repr

/-- A ticket dealt to a Glen and not yet received from it (04 R161). -/
structure Dealt where
  ingress : Nat
  seq : Nat
  head : Nat
  inst : Nat
deriving DecidableEq, Repr

/-- A physical Glen (04). -/
structure Glen where
  /-- The code in its program store. -/
  code : List Byte := []
  /-- Thread modes in force, one word a core (R130), and the entries in force. -/
  modes : List Nat := []
  entryPacket : Nat := 0
  entryService : Nat := 0
  dealt : List Dealt := []
  /-- Tickets on the fabric path toward the Defile, oldest first. -/
  flying : List Pkt := []
  /-- Heartbeats on the fabric path. -/
  beats : Nat := 0
  /-- A heartbeat has arrived since the previous check (R159). -/
  arrived : Bool := false
  fill : Option Fill := none
  /-- The first stale ticket or heartbeat came in this Notch (R166). -/
  isolateDue : Bool := false
  /-- Consecutive Notches in which the Glen, or a core of it, was all-blocked (R152). -/
  stall : Nat := 0
  coreStall : List (Nat × Nat) := []
deriving DecidableEq, Repr

/-- A logical slot: its input queue with the Notch of dealing, its images, and a handover that drains (04). -/
structure Slot where
  queue : List (Nat × Pkt) := []
  current : List Byte := []
  staged : Option (List Byte) := none
  /-- Notch of step 2 of R168. -/
  drainFrom : Option Nat := none
deriving DecidableEq, Repr

/-- A core that stopped (04 R145 to R147). -/
structure CoreStop where
  glen : Nat
  core : Nat
  thread : Nat
  code : Nat
  pc : Nat
  detail : Nat
  notch : Nat
deriving DecidableEq, Repr

/-- Glens, slots, threads and what they share (04). Numbers that no list names are in their state after reset. -/
structure Glens where
  glens : List (Nat × Glen) := []
  slots : List (Nat × Slot) := []
  threads : List (ThreadId × Thread) := []
  /-- By Glen and channel. -/
  channels : List ((Nat × Nat) × Channel) := []
  /-- By Glen and lock number; device-wide locks under Glen 32. -/
  locks : List ((Nat × Nat) × Lock) := []
  /-- Stops that await R147. -/
  stops : List CoreStop := []
  /-- Automatic restarts due, by Glen and core. -/
  restarts : List ((Nat × Nat) × Nat) := []
  /-- Cores that took a dispatch in the running Notch, by Glen and core (R131). -/
  dispatched : List (Nat × Nat) := []
  /-- Threads charged for the running Notch (R133). -/
  paid : List ThreadId := []
  /-- The cycle of the running Notch in which a core issues next, by Glen and core (R134). -/
  cycles : List ((Nat × Nat) × Nat) := []
  /-- From when the result of a thread's last instruction is available, as 128 × the Notch plus the cycle of it (R135). -/
  pace : List (ThreadId × Nat) := []
  /-- The slot of the issue tables at which their pointers stand in the first cycle of the running Notch (R134). -/
  pointer : Nat := 0
deriving DecidableEq, Repr

/-- The dealers and the Defile (06 R231 to R240). -/
structure Defile where
  /-- Tickets created or returned and not yet dealt, in creation order. -/
  waiting : List Pkt := []
  /-- Round-robin pointer of each ingress. -/
  turn : List (Nat × Nat) := []
  /-- Tickets each ingress dealt in the running Notch (R232). -/
  dealtNow : List (Nat × Nat) := []
  /-- Tickets held, with the Notch in which each arrived. -/
  held : List (Nat × Pkt) := []
  /-- SEQs at or after the head that are skipped: ingress and SEQ. -/
  skipped : List (Nat × Nat) := []
  /-- SEQs counted lost in a Notch, to be marked in the next: Notch, ingress and SEQ (R237). -/
  lost : List (Nat × (Nat × Nat)) := []
  /-- Tickets released to admission, with the Notch of release. -/
  released : List (Nat × Pkt) := []
deriving DecidableEq, Repr

/-- What the Minute Ledger counts for one instance (11 R415), as exact numbers. -/
structure Usage where
  bytes : List Nat := [0, 0, 0, 0, 0, 0, 0, 0]
  frames : List Nat := [0, 0, 0, 0, 0, 0, 0, 0]
  crypto : Nat := 0
  ios : Nat := 0
  tn : Nat := 0
deriving DecidableEq, Repr

/-- The Minute Ledger (11 R415 to R422). -/
structure Ledger where
  /-- Counts of the open interval, by instance. -/
  counts : List (Nat × Usage) := []
  /-- Dial seconds at its start, and its first Notch. -/
  startSec : Nat := 0
  firstNotch : Nat := 0
  /-- Instances not FREE at some time in it; started, restored, removed or reset by an FLR in it; FROZEN in it. -/
  seen : List Nat := [0]
  partials : List Nat := []
  frozen : List Nat := []
  extended : Bool := false
  /-- SEQ of each instance's next record; instances whose next record carries GAP. -/
  seqs : List (Nat × Nat) := []
  gaps : List Nat := []
  /-- CLASS_MAP in force (R416). -/
  classMap : Nat := 0xFA50
  /-- Records that wait, oldest first, each with the Notch of its close. -/
  backlog : List (Nat × List Byte) := []
  /-- Closes found late (R422). -/
  late : List Nat := []
deriving DecidableEq, Repr

/-- An entry of a control core's interrupt stack (14 R474, R484). -/
structure CtrlEntry where
  pc : Nat
  prio : Nat
  vec : Nat
  exc : Bool := false
  /-- An exception entry made by TRAP. -/
  trap : Bool := false
deriving DecidableEq, Repr

/-- A control core beyond its thread (14 R471 to R475). -/
structure CtrlCore where
  ie : Bool := false
  exc : Bool := false
  runPrio : Nat := 0
  vecBase : Nat := 0x60000
  excEntry : Nat := 0
  cause : Nat := 0
  timer : Nat := 0
  /-- The source SWINT last named, and whether its request has not yet set PEND. -/
  swint : Nat := 0
  swintOpen : Bool := false
  /-- Requests made on Block Mover lines 0 to 7 and not yet taken, and those of them made in the running Notch (R475; 01 R24). -/
  mreq : Nat := 0
  mreqNow : Nat := 0
  /-- The interrupt stack, top entry first. -/
  stack : List CtrlEntry := []
  /-- The outstanding presentation: its source, and the effective priority it was presented at. -/
  outst : Option (Nat × Nat) := none
  stopped : Bool := false
  halted : Bool := false
  /-- Waits in WFI. -/
  wfi : Bool := false
deriving DecidableEq, Repr

/-- The control cores and the Event Concentrator beyond their registers (14). -/
structure Control where
  cores : List (Nat × CtrlCore) := []
  /-- Completions sampled: source and Notch (R486). -/
  done : List (Nat × Nat) := []
  /-- Sources withdrawn or completed by a core's stop in the running Notch: not presented before the next (R474). -/
  withdrawn : List Nat := []
  /-- Level sources 192 to 196 that received data makes high, and the page source that an instance reset asks for (R477;
  11 R414). -/
  levels : List Nat := []
  /-- Pages with an event bit that rose in the Notch that ended, under a mask that a write of that Notch raised (18 R605). -/
  rose : List Nat := []
  /-- Cores that received a presentation in the running Notch (R481). -/
  presented : List Nat := []
  /-- Sources named by SWINT in the running Notch (R475). -/
  soft : List Nat := []
deriving DecidableEq, Repr

/-- A table command, or an MLEARN that needs relocations, in progress (07 R256 to R263, R279). -/
structure TableJob where
  /-- Table number, and the code of the command; 0 for an MLEARN. -/
  table : Nat
  code : Nat
  /-- The operands as they stood when the command was written. -/
  key : List Word := []
  data : List Word := []
  static : Bool := false
  learner : Nat := 0
  arg : Nat := 0
  /-- Relocations still to make, in the order in which they are made: bucket and slot left, bucket and slot taken. -/
  moves : List ((Nat × Nat) × (Nat × Nat)) := []
  /-- Relocations made. -/
  made : Nat := 0
  /-- The bank inserted into, the entry index taken, and the place that the relocations leave free: bucket, slot, and the
  other candidate bucket (R256). Of MIGRATE the entry is the one that moves. -/
  bank : Nat := 0
  entry : Option Nat := none
  dest : Option (Nat × (Nat × Nat)) := none
  /-- The Notch from which the next one may begin. -/
  next : Nat := 0
  /-- Of MIGRATE: its final status, once it is known. -/
  result : Option Nat := none
  /-- Of MLEARN: the thread that waits, its destination register, and its place among the MLEARNs of its Notch (R270). -/
  who : Option (ThreadId × Nat) := none
  order : Nat := 0
deriving DecidableEq, Repr

/-- An FLOOK that waits in the engine's queue for its turn at HBM (02 R83): the thread that waits, its destination register,
the table and the key. -/
structure FlowAsk where
  who : Option ThreadId
  rd : Nat
  table : Nat
  key : List Word
deriving DecidableEq, Repr

/-- The table engine beyond its registers, buckets, entries and move log (07). -/
structure Tables where
  cmd : Option TableJob := none
  /-- Insertions of MLEARNs that relocate, and MLEARNs that wait for one of the same key. -/
  learns : List TableJob := []
  /-- MLEARNs of the running Notch, not yet served, in the order of R270. -/
  asked : List TableJob := []
  /-- FLOOKs that wait for HBM, and the lookups in HBM of the running Notch (02 R83). -/
  waiting : List FlowAsk := []
  hbmUsed : Nat := 0
  /-- Notch of the COPY of each live move-log entry (R258). -/
  logAt : List (Nat × Nat) := []
  /-- The flow cache: by set, its ways as table and entry, the most recently hit first (R255). -/
  cache : List (Nat × List (Nat × Nat)) := []
  /-- Migration cursors, by table: bucket and slot (R262). -/
  cursors : List (Nat × (Nat × Nat)) := []
  /-- Routes by VRF, family and length (R264). -/
  routes : List ((Nat × (Nat × Nat)) × Nat) := []
  /-- Words of buckets, entries, filter counters and length maps in error (R276). -/
  bad : List Key := []
  /-- Next entries of the ageing sweep (R272). -/
  flowSweep : Nat := 0
  macSweep : Nat := 0
deriving DecidableEq, Repr

/-- A posted entry of a ring, from CONS onward (10 R364). -/
structure RingEntry where
  /-- Its descriptor as read; none where the read failed on the link. -/
  desc : Option (List Byte)
  /-- On a transmit ring: the chain it was served in. -/
  chain : Option Nat := none
  /-- The status its completion will carry, once that is known. -/
  done : Option Nat := none
  /-- Port and transmit timestamp for its completion. -/
  ts : Option (Nat × (Nat × Nat)) := none
deriving DecidableEq, Repr

/-- A ring beyond its context registers (10 R359 to R384). -/
structure Ring where
  entries : List RingEntry := []
  nextChain : Nat := 0
  /-- PEND and FIRST_NOTCH (R384). -/
  pend : Nat := 0
  first : Int := 0
  /-- Head cells of the frames in the hold, and the Notch from which its head has stood there (R377, R378). -/
  hold : List Nat := []
  headFrom : Nat := 0
  /-- Its context met an uncorrectable error (15 R511). -/
  bad : Bool := false
deriving DecidableEq, Repr

/-- An entry of an MSI-X table with its pending bit (10 R356, R385). -/
structure MsixEntry where
  addr : Nat := 0
  data : Nat := 0
  masked : Bool := true
  pending : Bool := false
deriving DecidableEq, Repr

/-- A host port beyond its registers (10 R349 to R353; 17 R562). -/
structure HostLink where
  /-- PERST# is asserted. -/
  perst : Bool := true
  /-- Trains, and trains on a RETRAIN command. -/
  training : Bool := false
  retrain : Bool := false
  /-- The transmit ring served last (R371). -/
  turn : Nat := 0
  /-- Writes to host memory that wait while the port retrains, oldest first (R389). -/
  waiting : List HostWrite := []
deriving DecidableEq, Repr

/-- Host links, rings and vectors. Functions are numbered 0 to 3 for the PFs and 4 + i for the VF of instance i. -/
structure HostSide where
  rings : List (Nat × Ring) := []
  /-- By table and vector: those of the PFs and of a VF without vectors by function, those of the VF pool under `vfPool` (R357). -/
  msix : List ((Nat × Nat) × MsixEntry) := []
  /-- MSI-X Enable and Function Mask, by function. -/
  msixCtl : List (Nat × (Bool × Bool)) := []
  /-- Fields of the functions' configuration space that differ from their values after reset (R349). -/
  config : List ((Nat × ConfigField) × Nat) := []
  links : List (Nat × HostLink) := []
deriving DecidableEq, Repr

/-- What FREEZE holds of an instance besides its rings and vectors (11 R403 to R405). -/
structure Frozen where
  sec : Nat
  ns : Nat
  notch : Nat
  /-- Words 0x400 to 0x4F8 of its page. -/
  page : List Word
deriving DecidableEq, Repr

/-- An instance as it was before a command's state change acted in the running Notch, for an FLR of that Notch, which comes
before it (11 R396, R401, R402). -/
structure Undo where
  notch : Nat
  words : List (Key × Word)
  frozen : Option Frozen
  /-- Whether the open interval listed it: as not FREE, as FROZEN, and as PARTIAL. -/
  seen : Bool
  ice : Bool
  part : Bool
deriving DecidableEq, Repr

/-- An instance beyond its page (11). -/
structure Inst where
  /-- A command whose state change acts in the next Notch: its code. -/
  due : Option Nat := none
  /-- Start and bound of the drain. -/
  drainFrom : Nat := 0
  bound : Nat := 0
  /-- A host FLR is handled: the state it found. -/
  flr : Option Nat := none
  /-- A function-wide reset is being completed. -/
  resetting : Bool := false
  /-- The Notch by which its FLR, or its reset by command, is complete (10 R352; 11 R400, R401). -/
  resetBy : Option Nat := none
  undo : Option Undo := none
  frozen : Option Frozen := none
  saving : Bool := false
  /-- Pages marked in the dirty bitmap, and the bitmap a HARVEST took. -/
  dirty : List Nat := []
  taken : Option (List Nat) := none
deriving DecidableEq, Repr

/-- A security association or a connection as a frame started under it: the words of its record, its key slot, and whether
the record had met an uncorrectable error (12 R438; 13 R466). -/
structure UnitRecord where
  words : List Word
  key : Option (Nat × List Byte) := none
  bad : Bool := false
deriving DecidableEq, Repr

/-- A frame in the crypto or storage unit: its ticket, its bytes, and what follows it through the device. -/
structure UnitFrame where
  tk : Ticket
  bytes : List Byte
  errored : Bool := false
  origin : Option Nat := none
  tx : Option (Nat × Nat) := none
  /-- Its place among the frames that admission gave the units (06 R234). -/
  order : Nat := 0
  /-- The record it started under, once that has been written again (12 R438; 13 R466). -/
  old : Option UnitRecord := none
deriving DecidableEq, Repr

/-- The crypto and storage units beyond their records and pages (12, 13). -/
structure Units where
  /-- By egress, the frames and the bytes that the unit has taken in the running Notch, and the bytes by which the last of them went
  past its rate; and the records of SAs fetched in the running Notch (12 R440; 13 R466). -/
  taken : List (Nat × (Nat × Nat)) := []
  fetched : Nat := 0
  /-- Frames that admission has given the units: the order of the next. -/
  admits : Nat := 0
  /-- Frames read and not yet judged, and results not yet returned, oldest first. -/
  cryptoIn : List UnitFrame := []
  cryptoOut : List UnitFrame := []
  storeIn : List UnitFrame := []
  storeOut : List UnitFrame := []
  /-- Key slots: by SA, the ALG under which the key was loaded and its bytes (12 R429). -/
  keys : List (Nat × (Nat × List Byte)) := []
  /-- The SA event queue: kind and SA, oldest first (12 R439). -/
  events : List (Nat × Nat) := []
  /-- SAs in the on-die cache, the latest used first (12, The SA record). -/
  cached : List Nat := []
  /-- SAs and connections whose records met an uncorrectable error (15 R511). -/
  badSa : List Nat := []
  badConn : List Nat := []
deriving DecidableEq, Repr

/-- A restart of the control firmware in progress (17 R571 to R573). -/
structure FwSwap where
  /-- The slot left and the slot started. -/
  old : Nat
  new : Nat
  /-- It was asked for by SWAP_FW, whose command awaits its end. -/
  command : Bool := false
  /-- A trial opens when the new firmware runs: a swap, not a revert. -/
  trial : Bool := false
  /-- Notch of step 1, and of step 2 once the cores have been stopped. -/
  since : Nat
  stopped : Option Nat := none
  /-- Notch by which the running firmware has written its handover state, if that is in time. -/
  handover : Nat := 0
  /-- STAGE before it. -/
  stage : Nat
deriving DecidableEq, Repr

/-- Start-up and firmware beyond their registers (17). -/
structure Boot where
  /-- There is no supply: nothing runs until POWER_ON. -/
  off : Bool := false
  /-- The rails were removed at 105 °C: VIN must fall before the next POWER_ON (19 R623). -/
  tripped : Bool := false
  /-- PCLASS1 and PCLASS0 as the POWER stage sampled them (19 R610). -/
  strap : Nat := 3
  /-- SS_RESET# of both serial-store devices is driven low, and the transfer mode used with each: 0 for 1S-1S-1S, 1 for
  1S-8D-8D, 2 for 8D-8D-8D (19 R617). -/
  storeReset : Bool := true
  storeMode : Nat × Nat := (0, 0)
  /-- The identity region failed on both devices: links train on nominal calibration (R564). -/
  nominal : Bool := false
  /-- Notch at which a commanded reset starts (R559). -/
  resetAt : Option Nat := none
  swap : Option FwSwap := none
  /-- The Notch of the latest install, and the type of its object (R571, R578). -/
  installing : Option (Nat × Nat) := none
  /-- Dial time at which the open trial ends (R572). -/
  trialEnd : Option (Nat × Nat) := none
  /-- Notch from which the watchdog counts (R573). -/
  wdogFrom : Nat := 0
  /-- The stage GLENS has completed: the units of the data path run (R561, R568). -/
  serving : Bool := false
deriving DecidableEq, Repr

/-- A Block Mover channel beyond its registers (13 R446 to R455). -/
structure MoverCh where
  /-- The descriptor in progress, and its address. -/
  desc : List Byte := []
  addr : Nat := 0
  /-- Beats written of it, source beats read of it, and bytes written. -/
  pos : Nat := 0
  rd : Nat := 0
  bytes : Nat := 0
  /-- Source bytes processed. -/
  done : Nat := 0
  /-- Beats staged, oldest first; none where the read failed. -/
  staged : List (Option (List Byte)) := []
  /-- Of SPLIT_RS: the data bytes of the row of units in progress. -/
  row : List Byte := []
  /-- The CRC register, and the mode of the previous descriptor of the chain. -/
  crc : Nat := 0
  prevMode : Option Nat := none
  /-- Beats left in the burst; none for the whole chain. -/
  burst : Option Nat := none
  /-- Its dial trigger has fired since the START. -/
  fired : Bool := false
  /-- The Notch of its first beat at the earliest. -/
  from_ : Nat := 0
  /-- The code with which the descriptor fails, once that is known. -/
  fault : Option Nat := none
  /-- The CFG with which it was armed, where a write of the same Notch changed the register (R453). -/
  cfg : Option Word := none
  /-- A START whose first descriptor waits until its port no longer retrains: what the read on the link will return (10 R389). -/
  asked : Option (Option (List Byte)) := none
deriving DecidableEq, Repr

/-- The Block Mover beyond its registers (13). -/
structure Mover where
  chans : List (Nat × MoverCh) := []
  /-- Beats moved in the running Notch. -/
  used : Nat := 0
  /-- The channel served last; by PRIO, the channel of it served last. -/
  last : Option Nat := none
  turns : List (Nat × Nat) := []
  /-- Channels whose chain source has reached DONE. -/
  chainDue : List Nat := []
  /-- Lines whose request was taken in the running Notch (R448; 01 R24). -/
  taken : List Nat := []
deriving DecidableEq, Repr

/-- What the reads of a Notch see besides the registers: parts of the device as they stood when the Notch started
(00 R17, 18 R597). -/
structure Snap where
  acc : Access := { }
  roles : Roles := { }
  store : SerialStore := { }
  basin : Basin := { }
  glens : Glens := { }
  host : HostSide := { }
  sched : Sched := { }
deriving DecidableEq, Repr

/-- The test port and the I3C target, which no command of the table moves (19 R618, R621; notes/assumptions/140). -/
structure TestPort where
  /-- TRST# is low: the test access port is in Test-Logic-Reset. -/
  inReset : Bool := true
  /-- The boundary register, a bit for each low-speed land in the order of R613. -/
  boundary : List Bool := List.replicate 52 false
  /-- The dynamic address on I3C, where one is assigned. -/
  i3cAddress : Option Nat := none
deriving DecidableEq, Repr

/-- Everything of the block but the queue. -/
structure Dev where
  /-- Which of the three variants the module is (00 R1). -/
  variant : Variant := .kxd3200
  /-- Every register and every window object, by place. -/
  regs : Store := []
  /-- The registers as they stood at the start of the running Notch (00 R17, 01 R52). -/
  start : Store := []
  /-- The byte memories: HBM and the memories of R476, and those the model places beyond them. -/
  mem : Memory := []
  /-- The rest of what reads see, as it stood at the start of the running Notch (00 R17). -/
  snap : Snap := { }
  /-- What left the device in the running Notch. -/
  out : List Out := []
  /-- Counts the free values taken so far (model's own; see notes/assumptions). -/
  fresh : Nat := 0
  dial : Dial := { }
  acc : Access := { }
  errs : Errs := { }
  roles : Roles := { }
  store : SerialStore := { }
  basin : Basin := { }
  ports : Ports := { }
  wake : Wake := { }
  sched : Sched := { }
  health : Health := { }
  /-- Commands in progress, by the place of their CMD field: the readback that their end completes (00 R20). -/
  cmds : List (Key × Word) := []
  glens : Glens := { }
  defile : Defile := { }
  ledger : Ledger := { }
  control : Control := { }
  tables : Tables := { }
  host : HostSide := { }
  insts : List (Nat × Inst) := []
  units : Units := { }
  boot : Boot := { }
  mover : Mover := { }
  test : TestPort := { }
deriving DecidableEq, Repr

/-- The block: the commands that wait, first in first out, and the device. -/
structure State where
  pending : List Instr
  dev : Dev
deriving DecidableEq, Repr

/-- The block right after a device-wide reset. -/
def State.reset : State := { pending := [], dev := { } }

/-- Why a step stops with a fault: no command of this block does. -/
inductive Fault where
  /-- Raised by nobody: every command the spec gives an effect has that effect. -/
  | none
deriving DecidableEq, Repr

/-- Why a step has no meaning. -/
inductive Refusal where
  /-- Raised by `exec` for a command whose meaning is not written yet; safe, since it claims nothing. -/
  | notModelled (mnemonic : String)
deriving DecidableEq, Repr

end Sys2Proof.Machine
end

