-- ==== Sys2Proof/Machine/Store.lean ====
section
/-! DEFINITION. The register words and the bytes of memory: what an unlisted place reads as, reading and writing one
place, and the canonical form. -/

namespace Sys2Proof.Machine

/-- Value after reset of instance `i` of a field in unit `u`, for the fields whose value the spec gives by a rule. -/
def resetField (f : Fld) (u i : Nat) : Nat :=
  match f.sp with
  | .INST => if f = R.INST_STATE_STATE ∧ u = 0 then 1 else f.rst
  | .EVT => if f = R.EVT_SEV_PRIO then nth [0, 16, 40, 62] i 0 else f.rst
  | .SCHED => if f = R.SCHED_EGR_OVERHEAD ∧ i < 16 then 20 else f.rst
  | .CLASSIFY =>
    if f = R.CLASSIFY_ZERO_PROFILE then
      (if i = 1 then 0xF00 else if i = 2 then 0xF00000000 else 0)
    else f.rst
  | .TABLE =>
    if f = R.TABLE_MAC_SEED ∨ f = R.TABLE_RT_SEED then
      (if i = 0 then 0x5A5A5A5AFFFFFFFF else 0)
    else f.rst
  | .HBMREG => if f = R.HBMREG_W0_PHYS then u % 16384 else f.rst
  | .SRC =>
    if f = R.SRC_W0_TRIGGER then
      (if u < 82 ∨ (128 ≤ u ∧ u < 192) then 1 else 0)
    else f.rst
  | .RCTX => if f = R.RCTX_CFG_DIR then u % 2 else f.rst
  | .GLEN => if f = R.GLEN_SLOT_PHYS then 0x1F else f.rst
  | .GPHYS => if f = R.GPHYS_STATUS_STATE then 6 else f.rst
  | .HOST => if f = R.HOST_LINK_CFG_VF_TOTAL ∨ f = R.HOST_LINK_CFG_VF_TOTAL_NOW then 2048 else f.rst
  | .HEALTH => if f = R.HEALTH_HBM_VISIBLE then 11904 else if f = R.HEALTH_STATUS_POWER_W then 300 else f.rst
  | _ => f.rst

/-- Which instance of a field lies in word `w`, if one does. -/
def fldInstance (f : Fld) (w : Nat) : Option Nat :=
  if w < f.word then none
  else if f.stride = 0 then (if w = f.word then some 0 else none)
  else if (w - f.word) % f.stride = 0 ∧ (w - f.word) / f.stride < f.count then some ((w - f.word) / f.stride)
  else none

/-- The word a place reads as when nothing is listed for it: its fields at their values after reset. -/
def resetWord (k : Key) : Word :=
  (fieldsOf k.sp).foldl
    (fun x f =>
      match fldInstance f k.word with
      | some i => x.withField f.lo f.w (resetField f k.idx i)
      | none => x) 0

/-- The word at a place. -/
def Store.word (s : Store) (k : Key) : Word := (assoc s k).getD (resetWord k)

/-- The list with an entry put in at its place in the order. -/
def Store.insert (k : Key) (v : Word) : Store → Store
  | [] => [(k, v)]
  | e :: t =>
    if k.sp.ctorIdx < e.1.sp.ctorIdx ∨
        (k.sp.ctorIdx = e.1.sp.ctorIdx ∧ (k.idx < e.1.idx ∨ (k.idx = e.1.idx ∧ k.word < e.1.word)))
    then (k, v) :: e :: t
    else e :: Store.insert k v t

/-- The store with one word set. -/
def Store.setWord (s : Store) (k : Key) (v : Word) : Store :=
  if v = resetWord k then assocDel s k else Store.insert k v (assocDel s k)

/-- Places rise strictly, and no listed word is what its place reads as unlisted. -/
abbrev Store.wf (s : Store) : Prop :=
  s.Pairwise (fun a b =>
    a.1.sp.ctorIdx < b.1.sp.ctorIdx ∨
      (a.1.sp.ctorIdx = b.1.sp.ctorIdx ∧ (a.1.idx < b.1.idx ∨ (a.1.idx = b.1.idx ∧ a.1.word < b.1.word)))) ∧
  ∀ e ∈ s, e.2 ≠ resetWord e.1

/-- What a byte of memory that nothing has written reads as: 0. -/
def emptyByte : Byte := 0

/-- The byte at an address. -/
def Memory.byte (m : Memory) (a : Nat) : Byte := (assoc m a).getD emptyByte

/-- The list with a cell put in at its place. -/
def Memory.insert (a : Nat) (b : Byte) : Memory → Memory
  | [] => [(a, b)]
  | e :: t => if a < e.1 then (a, b) :: e :: t else e :: Memory.insert a b t

/-- The memory with one byte set. -/
def Memory.setByte (m : Memory) (a : Nat) (b : Byte) : Memory :=
  if b = emptyByte then assocDel m a else Memory.insert a b (assocDel m a)

/-- Addresses rise strictly, and no listed byte is what an unlisted address reads as. -/
abbrev Memory.wf (m : Memory) : Prop :=
  m.Pairwise (fun x y => x.1 < y.1) ∧ ∀ e ∈ m, e.2 ≠ emptyByte

/-- `n` bytes from an address upwards. -/
def Memory.bytes (m : Memory) (a : Nat) : Nat → List Byte
  | 0 => []
  | n + 1 => m.byte a :: Memory.bytes m (a + 1) n

/-- The memory with bytes written from an address upwards. -/
def Memory.setBytes (m : Memory) (a : Nat) : List Byte → Memory
  | [] => m
  | b :: bs => Memory.setBytes (m.setByte a b) (a + 1) bs

end Sys2Proof.Machine
end

