-- ==== Sys2Proof/Machine/Ops.lean ====
section
/-! DEFINITION. The named operations every family shares: fields of registers, counters and event bits, the page map,
the role of a path, the error recorder, the audit journal, event requests and outputs. -/

namespace Sys2Proof

/-- Ethernet lanes fitted (00 R1, R4, R5). -/
def Variant.lanes : Variant → Nat
  | .kxd3200 => 16
  | .kxd1600 => 8
  | .kxd0800n => 8
/-- Logical Glen slots (00 R1, R4, R5). -/
def Variant.glensActive : Variant → Nat
  | .kxd3200 => 16
  | .kxd1600 => 8
  | .kxd0800n => 4
/-- HBM stacks fitted (00 R1, R4, R5). -/
def Variant.stacks : Variant → Nat
  | .kxd3200 => 2
  | .kxd1600 => 1
  | .kxd0800n => 1
/-- Maximum power in watts (00 R1, R4, R5). -/
def Variant.powerMax : Variant → Nat
  | .kxd3200 => 300
  | .kxd1600 => 180
  | .kxd0800n => 110
/-- Whether host port B, lane group 1 and ports 8 to 15 are fitted (00 R1, R4, R5). -/
def Variant.hasHostB : Variant → Bool
  | .kxd3200 => true
  | _ => false
/-- Whether the crypto and storage units are present (00 R1, R4, R5). -/
def Variant.hasCrypto : Variant → Bool
  | .kxd0800n => false
  | _ => true
/-- DEVICE.IDENT.PART (00 R1, R4, R5). -/
def Variant.part : Variant → Nat
  | .kxd3200 => 0x3200
  | .kxd1600 => 0x1600
  | .kxd0800n => 0x0800
/-- DEVICE.CAP.LANE_RATE (00 R1, R4, R5). -/
def Variant.laneRate : Variant → Nat
  | .kxd0800n => 0
  | _ => 1
/-- DEVICE.CAP.FLOW_LOG2 (00 R1, R4, R5). -/
def Variant.flowLog2 : Variant → Nat
  | .kxd3200 => 25
  | _ => 24

/-- Physical Glens fitted: the active ones and two spares (00 R1). -/
def Variant.glensAll (v : Variant) : Nat := v.glensActive + 2

end Sys2Proof

namespace Sys2Proof.Machine

/-! ### Registers -/

/-- The place of instance `i` of a field in unit `u`. -/
def fldKey (f : Fld) (u i : Nat) : Key := { sp := f.sp, idx := u, word := f.word + f.stride * i }

/-- Instance `i` of a field in unit `u`. -/
def Dev.get (d : Dev) (f : Fld) (u : Nat := 0) (i : Nat := 0) : Nat :=
  (d.regs.word (fldKey f u i)).field f.lo f.w

/-- The field as it stood at the start of the Notch (00 R17). -/
def Dev.getStart (d : Dev) (f : Fld) (u : Nat := 0) (i : Nat := 0) : Nat :=
  (d.start.word (fldKey f u i)).field f.lo f.w

/-- The device as the reads of the running Notch see it (00 R17; 01 R52). -/
def Dev.atStart (d : Dev) : Dev :=
  { d with regs := d.start, acc := d.snap.acc, roles := d.snap.roles, store := d.snap.store, basin := d.snap.basin
           glens := d.snap.glens, host := d.snap.host, sched := d.snap.sched }

/-- The field as a signed number. -/
def Dev.getInt (d : Dev) (f : Fld) (u : Nat := 0) (i : Nat := 0) : Int := signed f.w (d.get f u i)

/-- A field that is one bit, as a truth value. -/
def Dev.flag (d : Dev) (f : Fld) (u : Nat := 0) (i : Nat := 0) : Bool := d.get f u i != 0

/-- The device with one field set to the low bits of `v`. -/
def Dev.put (d : Dev) (f : Fld) (v : Nat) (u : Nat := 0) (i : Nat := 0) : Dev :=
  { d with regs := d.regs.setWord (fldKey f u i) ((d.regs.word (fldKey f u i)).withField f.lo f.w v) }

/-- A whole word of the register space, and the device with it set. -/
def Dev.word (d : Dev) (k : Key) : Word := d.regs.word k
def Dev.putWord (d : Dev) (k : Key) (v : Word) : Dev := { d with regs := d.regs.setWord k v }

/-- A counter raised by `n`; every counter of the device saturates at its width. -/
def Dev.count (d : Dev) (f : Fld) (n : Nat) (u : Nat := 0) (i : Nat := 0) : Dev :=
  d.put f (saturate f.w (d.get f u i + n)) u i

/-- A field lowered by `n`, not below 0. -/
def Dev.less (d : Dev) (f : Fld) (n : Nat) (u : Nat := 0) (i : Nat := 0) : Dev :=
  d.put f (d.get f u i - n) u i

/-- Bit `b` of a W1C field set by the device, and remembered as set in this Notch (00 R19). -/
def Dev.raiseBit (d : Dev) (f : Fld) (b : Nat) (u : Nat := 0) (i : Nat := 0) : Dev :=
  let k := fldKey f u i
  let m : Word := (1 : Word) <<< (f.lo + b)
  { d with
      regs := d.regs.setWord k (d.regs.word k ||| m)
      acc := { d.acc with setNow := assocSet d.acc.setNow k ((assoc d.acc.setNow k).getD 0 ||| m) } }

/-- A one-bit W1C field set by the device. -/
def Dev.raise (d : Dev) (f : Fld) (u : Nat := 0) (i : Nat := 0) : Dev := d.raiseBit f 0 u i

/-- Numbers of the records of a kind that differ from their values after reset, in order. -/
def Dev.touched (d : Dev) (sp : Space) : List Nat :=
  ((d.regs.filter (fun e => decide (e.1.sp = sp))).map (fun e => e.1.idx)).eraseDups

/-- A list of changes, applied in order. -/
def Dev.each {α : Type} (d : Dev) (l : List α) (f : Dev → α → Dev) : Dev := l.foldl f d

/-- What leaves the device in this Notch. -/
def Dev.emit (d : Dev) (o : Out) : Dev := { d with out := d.out ++ [o] }

/-- An MCTP message or event sent over a bus: on I3C an in-band interrupt tells that it awaits collection (19 R618). -/
def Dev.mctpEmit (d : Dev) (bus : MctpBus) (o : Out) : Dev := (if bus = .i3c then d.emit .inBand else d).emit o

/-- The device has its supply and is not in Standby (03 R115; 17 R559; 19 R608). -/
def Dev.awake (d : Dev) : Bool := !d.boot.off && !d.wake.standby

/-- The meaning of a command: the device changed, the queue as it is. -/
def State.always (s : State) (f : Dev → Dev) : Host.Outcome State Fault Refusal :=
  .next { s with dev := f s.dev }

/-- The meaning of a command of a device that runs: without supply, and in Standby, nothing happens. -/
def State.act (s : State) (f : Dev → Dev) : Host.Outcome State Fault Refusal :=
  s.always (fun d => if d.awake then f d else d)

/-! ### Stages of a start (17 R561, R568, R574, R579) -/

/-- Stages, as BOOT.STATUS.STAGE reads them. -/
def bsRom : Nat := 0
def bsFirmware : Nat := 1
def bsSettings : Nat := 2
def bsGlens : Nat := 3
def bsService : Nat := 4
def bsRecovery : Nat := 5
def bsSwapping : Nat := 6

/-- The stage of the start. -/
def Dev.stage (d : Dev) : Nat := d.get R.BOOT_STATUS_STAGE

/-- The stage of the start, leaving a firmware swap aside. -/
def Dev.startStage (d : Dev) : Nat := match d.boot.swap with | some x => x.stage | none => d.stage

/-- The control firmware has been started, on all 16 control cores; before, and in RECOVERY, core 0 runs the ROM alone (17
R561, R565). -/
def Dev.coresStarted (d : Dev) : Bool := decide (bsSettings ≤ d.startStage) && d.startStage != bsRecovery

/-- The data-path units run: from the end of the stage GLENS on (17 R561, R565, R568). -/
def Dev.runs (d : Dev) : Bool := d.boot.serving

/-- Register accesses of a path are served: those through a host link from the end of SETTINGS and in RECOVERY, those over
MCTP once control firmware runs, or the ROM serves in RECOVERY, and those of firmware after the ROM stage (17 R561, R563,
R565). -/
def Dev.barOpen (d : Dev) (p : Path) : Bool :=
  match p with
  | .mctp _ => decide (bsSettings ≤ d.startStage)
  | .firmware => d.stage != bsRom
  | _ => decide (bsGlens ≤ d.startStage)

/-! ### The page map (18 R580, R581, R604) -/

/-- DEVICE.IDENT (00 R4). -/
def identWord (v : Variant) : Word := BitVec.ofNat 64 (v.part + 0xB0 * 2 ^ 16)

/-- DEVICE.CAP (00 R5). -/
def capWord (v : Variant) : Word :=
  BitVec.ofNat 64 (v.lanes + v.laneRate * 2 ^ 5 + 2 ^ 8 + (if v.hasHostB then 2 ^ 9 else 0)
    + v.glensActive * 2 ^ 10 + 2 * 2 ^ 15 + v.stacks * 2 ^ 18
    + (if v.hasCrypto then 2 ^ 20 + 2 ^ 21 else 0) + v.flowLog2 * 2 ^ 22 + v.powerMax * 2 ^ 27)

/-- One row of the page map. -/
structure PageInfo where
  space : Option Space
  unit : Nat
  type : Nat
  role : Nat
  audit : Bool
  window : Nat
  present : Bool
deriving DecidableEq, Repr

/-- The page of an index (18 R581, R604); none where no page is assigned. A factory page has no registers of its own
that the spec names. -/
def pageInfo (v : Variant) (p : Nat) : Option PageInfo :=
  if p = 0 then some ⟨some .DEVICE, 0, 0x01, 3, false, 0, true⟩
  else if p = 1 then some ⟨some .DIAL, 0, 0x02, 2, true, 0, true⟩
  else if p = 2 then some ⟨some .HEALTH, 0, 0x03, 2, true, 0x200, true⟩
  else if p = 3 then some ⟨some .BOOT, 0, 0x04, 2, true, 0, true⟩
  else if p = 4 then some ⟨some .ROLE, 0, 0x05, 2, true, 0x200, true⟩
  else if p = 5 then some ⟨some .SSTORE, 0, 0x06, 2, true, 0, true⟩
  else if p = 6 then some ⟨some .EVT, 0, 0x07, 1, false, 0x400, true⟩
  else if p = 7 then some ⟨some .CTRLCORE, 0, 0x08, 2, true, 0, true⟩
  else if p = 8 then some ⟨some .HOST, 0, 0x09, 2, true, 0, true⟩
  else if p = 9 then some ⟨some .HOST, 1, 0x09, 2, true, 0, v.hasHostB⟩
  else if p = 10 then some ⟨some .INSTCTL, 0, 0x0A, 1, true, 0x400, true⟩
  else if p = 11 then some ⟨some .LANEGRP, 0, 0x0B, 2, true, 0, true⟩
  else if p = 12 then some ⟨some .LANEGRP, 1, 0x0B, 2, true, 0, v.hasHostB⟩
  else if p ≤ 28 then some ⟨some .PORT, p - 13, 0x0C, 1, false, 0, decide (p - 13 < 8) || v.hasHostB⟩
  else if p = 29 then some ⟨some .WAKE, 0, 0x0D, 1, true, 0, true⟩
  else if p = 30 then some ⟨some .GLEN, 0, 0x0E, 1, true, 0, true⟩
  else if p = 31 then some ⟨some .GLENSPARE, 0, 0x0F, 2, true, 0, true⟩
  else if p ≤ 47 then some ⟨some .GSLOT, p - 32, 0x10, 1, true, 0, decide (p - 32 < v.glensActive)⟩
  else if p ≤ 65 then some ⟨some .GPHYS, p - 48, 0x11, 1, false, 0x400, decide (p - 48 < v.glensAll)⟩
  else if p = 66 then some ⟨some .DEFILE, 0, 0x12, 1, false, 0, true⟩
  else if p = 67 then some ⟨some .CLASSIFY, 0, 0x13, 1, true, 0x400, true⟩
  else if p = 68 then some ⟨some .TABLE, 0, 0x14, 1, false, 0x800, true⟩
  else if p = 69 then some ⟨some .BASIN, 0, 0x15, 1, false, 0x200, true⟩
  else if p = 70 then some ⟨some .SCHED, 0, 0x16, 1, false, 0x200, true⟩
  else if p = 71 then some ⟨some .CRYPTO, 0, 0x17, 1, true, 0x200, v.hasCrypto⟩
  else if p = 72 then some ⟨some .MOVER, 0, 0x18, 1, false, 0, true⟩
  else if p = 73 then some ⟨some .STORE, 0, 0x19, 1, false, 0x200, v.hasCrypto⟩
  else if p ≤ 211 then some ⟨none, p - 74, 0x20, 3, false, 0, true⟩
  else if p < 4096 then none
  else if p < 8192 then some ⟨some .INST, p - 4096, 0x30, 1, false, 0, true⟩
  else none

/-- A factory page (18 R604). -/
def PageInfo.isFactory (i : PageInfo) : Bool := i.type == 0x20

/-- Page indexes of the pages the operations below name. -/
def pgDIAL : Nat := 1
def pgHEALTH : Nat := 2
def pgBOOT : Nat := 3
def pgROLE : Nat := 4
def pgSSTORE : Nat := 5
def pgEVT : Nat := 6
def pgCTRLCORE : Nat := 7
def pgHOST (p : Nat) : Nat := 8 + p
def pgINSTCTL : Nat := 10
def pgLANEGRP (g : Nat) : Nat := 11 + g
def pgPORT (p : Nat) : Nat := 13 + p
def pgWAKE : Nat := 29
def pgGLEN : Nat := 30
def pgGLENSPARE : Nat := 31
def pgGSLOT (k : Nat) : Nat := 32 + k
def pgGPHYS (g : Nat) : Nat := 48 + g
def pgDEFILE : Nat := 66
def pgCLASSIFY : Nat := 67
def pgTABLE : Nat := 68
def pgBASIN : Nat := 69
def pgSCHED : Nat := 70
def pgCRYPTO : Nat := 71
def pgMOVER : Nat := 72
def pgSTORE : Nat := 73
def pgINST (i : Nat) : Nat := 4096 + i

/-! ### Roles (16 R521, R522; 18 R588) -/

/-- The session open on a bank, if any. -/
def Dev.session (d : Dev) (bank : Nat) : Option Session :=
  d.roles.sessions.find? (fun s => s.bank == bank)

/-- The role a path carries: 0 none, 1 operator, 2 installer, 3 maker, 4 device (16 R521, R535). -/
def Dev.role (d : Dev) (p : Path) : Nat :=
  match p with
  | .operator _ => 1
  | .installer _ => (d.session p.bank).elim 0 Session.role
  | .mctp _ => (d.session p.bank).elim 0 Session.role
  | .firmware => 4
  | .vf _ => 0

/-- Whether a role passes a check for a least role; the device role passes all but maker-only ones (16 R522). -/
def rolePasses (role need : Nat) : Bool :=
  if role = 4 then decide (need < 3) else decide (need ≤ role)

/-- Whether the path's role is at least the WRITE_ROLE of a page. -/
def Dev.mayCommand (d : Dev) (p : Path) (page : Nat) : Bool :=
  match pageInfo d.variant page with
  | some i => i.present && rolePasses (d.role p) i.role
  | none => false

/-! ### The error recorder (15 R493 to R501) -/

/-- Severity of an error class (R494). -/
def classSev (c : Nat) : Nat :=
  if c = 12 ∨ c = 16 then 3
  else if c = 1 ∨ c = 3 ∨ c = 4 then 0
  else if c = 2 ∨ c = 5 ∨ c = 6 ∨ c = 7 ∨ c = 11 then 1
  else 2

/-- The order in which errors of one page and one Notch are recorded (R497). -/
def errBefore (a b : ErrRec) : Bool :=
  let sa := classSev a.cls
  let sb := classSev b.cls
  decide (sb < sa) || (sa == sb && (decide (a.cls < b.cls) || (a.cls == b.cls && decide (a.detail < b.detail))))

/-- An error put in at its place among those of its Notch. -/
def errInsert (e : ErrRec) : List ErrRec → List ErrRec
  | [] => [e]
  | x :: t => if errBefore e x then e :: x :: t else x :: errInsert e t

/-- One error written to the error fields of its page (R496). -/
def Dev.noteErr (d : Dev) (e : ErrRec) : Dev :=
  let p := e.page
  let sev := classSev e.cls
  let n := d.dial.notch
  let d1 :=
    if d.flag R.HDR_ERR_FIRST_VALID p then
      d.count R.HDR_ERR_MORE_COUNT 1 p
    else
      ((((((((d.put R.HDR_ERR_FIRST_VALID 1 p).put R.HDR_ERR_FIRST_SEV sev p).put R.HDR_ERR_FIRST_CLASS e.cls p).put
        R.HDR_ERR_FIRST_CODE e.code p).put R.HDR_ERR_FIRST_INSTANCE (e.inst.getD 0) p).put
        R.HDR_ERR_FIRST_INST_VALID (if e.inst.isSome then 1 else 0) p).put R.HDR_ERR_FIRST_NOTCH n p).put
        R.HDR_ERR_FIRST_DETAIL e.detail p)
  let d2 := d1.put R.HDR_ERR_CLASSES_CLASSES (d1.get R.HDR_ERR_CLASSES_CLASSES p ||| 2 ^ e.cls) p
  let d3 := d2.put R.HDR_ERR_MORE_MAX_SEV (max (d2.get R.HDR_ERR_MORE_MAX_SEV p) sev) p
  (((d3.put R.HDR_ERR_LAST_VALID 1 p).put R.HDR_ERR_LAST_SEV sev p).put R.HDR_ERR_LAST_CLASS e.cls p).put
    R.HDR_ERR_LAST_NOTCH n p

/-- The error fields that an acknowledgement clears, cleared (R498). -/
def Dev.clearErr (d : Dev) (p : Nat) : Dev :=
  ((d.putWord ⟨.HDR, p, 3⟩ 0).putWord ⟨.HDR, p, 4⟩ 0).putWord ⟨.HDR, p, 5⟩ 0

/-- The error fields of a page made afresh: as they stood at the start of the Notch, or cleared when the page was
acknowledged in it, then the errors of the Notch in the order of R497 (R497, R498). -/
def Dev.remakeErr (d : Dev) (p : Nat) : Dev :=
  let base : Dev :=
    (if d.errs.acked.contains p then d.clearErr p
     else ((d.putWord ⟨.HDR, p, 3⟩ (d.start.word ⟨.HDR, p, 3⟩)).putWord ⟨.HDR, p, 4⟩
        (d.start.word ⟨.HDR, p, 4⟩)).putWord ⟨.HDR, p, 5⟩ (d.start.word ⟨.HDR, p, 5⟩))
  base.each (d.errs.now.filter (fun e => e.page == p)) Dev.noteErr

/-- Block pages with an unacknowledged FATAL error in a store (R501). -/
def fatalPages (s : Store) : Nat :=
  (s.filter (fun e => decide (e.1.sp = .HDR) && decide (e.1.idx < 256) && decide (e.1.word = 5) &&
    ((e.2).field 16 2 == 3) && ((s.word ⟨.HDR, e.1.idx, 3⟩).field 0 1 == 1))).length

/-- HEALTH.STATUS.FATAL_OPEN brought up to date (R501). -/
def Dev.countFatal (d : Dev) : Dev :=
  d.put R.HEALTH_STATUS_FATAL_OPEN (saturate 8 (fatalPages d.regs))

/-- An error detected: recorded on its page, counted in HEALTH.ERRS, and, when FATAL and not the first, a Safe Hold entry
due in the next Notch (R496, R502). An error of an instance page concerns that instance. -/
def Dev.error (d : Dev) (page cls code detail : Nat) (inst : Option Nat := none) : Dev :=
  let e : ErrRec := ⟨page, cls, code, if 4096 ≤ page then some (page - 4096) else inst, detail⟩
  let double : Bool := classSev cls == 3 &&
    (decide (0 < fatalPages d.start) || d.errs.now.any (fun x => classSev x.cls == 3))
  let d1 : Dev := { d with errs := { d.errs with
      now := errInsert e d.errs.now
      safeDue := if double && d.errs.safeDue.isNone then some (1, cls, page, d.dial.notch) else d.errs.safeDue } }
  ((d1.remakeErr page).count R.HEALTH_ERRS 1 0 (classSev cls)).countFatal

/-- A write refused or discarded as a configuration error (00 R629). -/
def Dev.configError (d : Dev) (page off : Nat) : Dev := d.error page 1 0 (off % 4096)

/-- A write or command by a role that lacks the right (15 R494): the writer's role is the CODE. -/
def Dev.roleError (d : Dev) (p : Path) (page off : Nat) : Dev := d.error page 2 (d.role p) (off % 4096)

/-! ### Event requests (14 R477, R479) -/

/-- A request of an edge source: its latch is set. -/
def Dev.request (d : Dev) (src : Nat) : Dev := d.put R.SRC_W1_PEND 1 src

/-! ### The audit journal (16 R534 to R537) -/

/-- Bytes 0x00 to 0x3F of a journal record (R535). -/
def JRec.body (r : JRec) : List Byte :=
  leBytes 8 r.seq ++ leBytes 8 r.notch ++
  leBytes 8 (r.sec + r.role * 2 ^ 48 + r.path * 2 ^ 51 + r.kind * 2 ^ 56) ++
  leBytes 8 (r.ns + r.page * 2 ^ 32 + r.off * 2 ^ 45) ++
  leBytes 8 r.old.toNat ++ leBytes 8 r.new.toNat ++
  leBytes 8 (r.object + r.session * 2 ^ 32) ++ leBytes 8 0

/-- The ASCII bytes "KXD-AUDIT". -/
def auditTag : List Byte := [0x4B, 0x58, 0x44, 0x2D, 0x41, 0x55, 0x44, 0x49, 0x54]

/-- The module's serial number (16 R530). -/
def Dev.serialBytes (d : Dev) : List Byte := leBytes 16 d.store.serial.toNat

/-- CHAIN of the record before the next one (R536). -/
def Dev.chainBefore (d : Dev) : List Byte :=
  d.roles.lastChain.getD (shake256 (auditTag ++ d.serialBytes) 32)

/-- Whether the journal buffer is full (R537). -/
def Dev.journalFull (d : Dev) : Bool := decide (1024 ≤ d.roles.buffer.length)

/-- Whether the records of a command, of which `e` is the device after it, find no room in the buffer (R537). -/
def Dev.overfilled (d e : Dev) : Bool := decide (max 1024 d.roles.buffer.length < e.roles.buffer.length)

/-- The low 32 bits of the COUNTER of a path's session, 0 without one (R535). -/
def Dev.sessionNo (d : Dev) (p : Path) : Nat := ((d.session p.bank).elim 0 Session.counter) % 2 ^ 32

/-- CHAIN of a record after one (R536). -/
def JRec.link (r : JRec) (before : List Byte) : List Byte := shake256 (auditTag ++ before ++ r.body) 32

/-- A record placed in the buffer, with the next SEQ and its CHAIN (R534 to R537). -/
def Dev.record (d : Dev) (x : JRec) : Dev :=
  let r : JRec := { x with seq := d.get R.ROLE_JOURNAL_SEQ }
  let r' : JRec := { r with chain := r.link d.chainBefore }
  let d1 := ({ d with roles := { d.roles with buffer := d.roles.buffer ++ [r'], lastChain := some r'.chain } }).put
    R.ROLE_JOURNAL_SEQ (r.seq + 1)
  if d1.roles.buffer.length = 1024 then d1.raiseBit R.ROLE_EVENTS 3 else d1

/-- What a record says of the running Notch, but for SEQ and CHAIN (R535). -/
def Dev.recordOf (d : Dev) (role session : Nat) (p : Path) (kind page off : Nat) (old new : Word) (object : Nat := 0) : JRec :=
  { seq := 0, notch := d.dial.notch, sec := d.dial.sec, ns := d.dial.ns, role := role, path := p.num, kind := kind, page := page,
    off := off, old := old, new := new, object := object, session := session, chain := [] }

/-- One journal record placed in the buffer for a write that carried a role and a session (R534 to R537). -/
def Dev.journalAs (d : Dev) (role session : Nat) (p : Path) (kind page off : Nat) (old new : Word) (object : Nat := 0) :
    Dev :=
  d.record (d.recordOf role session p kind page off old new object)

/-- One journal record placed in the buffer for a write of a path. -/
def Dev.journal (d : Dev) (p : Path) (kind page off : Nat) (old new : Word) (object : Nat := 0) : Dev :=
  d.journalAs (d.role p) (d.sessionNo p) p kind page off old new object

/-- The record of a change that nothing may refuse: while the buffer is full it waits for its place (DESIGN CHOICE,
notes/assumptions/138). -/
def Dev.journalOwn (d : Dev) (r : JRec) : Dev :=
  if d.journalFull then { d with roles := { d.roles with owed := d.roles.owed ++ [r] } } else d.record r

/-- The records that waited, as far as the buffer has places. -/
def Dev.settleOwed (d : Dev) : Dev :=
  let n := 1024 - d.roles.buffer.length
  ({ d with roles := { d.roles with owed := d.roles.owed.drop n } } : Dev).each (d.roles.owed.take n) Dev.record

/-- A write that would be journaled while the buffer is full: refused and counted (R537). -/
def Dev.journalRefuse (d : Dev) : Dev := d.count R.ROLE_JOURNAL_STAT_REFUSED 1

/-! ### Free values -/

/-- A value the spec leaves open, and the device with the next one to come (AN UNDEFINED VALUE; see notes/assumptions). -/
def Dev.free (d : Dev) : Word × Dev := (Config.freeValue d.fresh, { d with fresh := d.fresh + 1 })

/-! ### Commands in progress (00 R20; 18 R591) -/

/-- A command of the field at a place is still in progress. -/
def Dev.cmdBusy (d : Dev) (k : Key) : Bool := (assoc d.cmds k).isSome

/-- The command that the readback at a place shows goes on past its Notch. -/
def Dev.cmdStart (d : Dev) (k : Key) : Dev := { d with cmds := assocSet d.cmds k (d.word k) }

/-- A command in progress ends: the field reads it back with its arguments and its final status. -/
def Dev.cmdFinish (d : Dev) (f : Fld) (st : Nat) (u : Nat := 0) : Dev :=
  let k := fldKey f u 0
  match assoc d.cmds k with
  | none => d
  | some w => { (d.putWord k (w.withField f.lo f.w st)) with cmds := assocDel d.cmds k }

/-! ### Safe Hold -/

/-- Whether the device is in Safe Hold (15 R502). -/
def Dev.held (d : Dev) : Bool := d.flag R.HEALTH_STATUS_SAFE_HOLD

/-- Safe Hold holds, or is entered in the running Notch, at its level 1 (15 R502; 01 R50). -/
def Dev.holding (d : Dev) : Bool := d.held || d.errs.safeDue.any (fun x => decide (x.2.2.2 < d.dial.notch))

end Sys2Proof.Machine
end

