-- ==== Sys2Proof/Machine/Msix.lean ====
section
/-! DEFINITION. Instances by state, the host ports that serve them, and the MSI-X tables of the functions
(spec/10_host_rings.md R355 to R358, R385; 11 R391, R393). -/

namespace Sys2Proof.Machine

/-! ### Instances -/

/-- States of an instance (11 R391, R423). -/
def stFree : Nat := 0
def stRunning : Nat := 1
def stQuiescing : Nat := 2
def stQuiesced : Nat := 3
def stFrozen : Nat := 4
def stRestoring : Nat := 5

/-- State of an instance. -/
def Dev.instState (d : Dev) (i : Nat) : Nat := d.get R.INST_STATE_STATE i

/-- An instance is FROZEN or RESTORING: nothing of it is written or sent (11 R393). -/
def Dev.instHeld (d : Dev) (i : Nat) : Bool := d.instState i == stFrozen || d.instState i == stRestoring

/-- An instance beyond its page, and the device with it changed. -/
def Dev.inst (d : Dev) (i : Nat) : Inst := (assoc d.insts i).getD { }
def Dev.modInst (d : Dev) (i : Nat) (g : Inst → Inst) : Dev :=
  { d with insts := assocSet d.insts i (g (d.inst i)) }

/-- TotalVFs in force on each host port (10 R355). -/
def Dev.vfTotal (d : Dev) (p : Nat) : Nat :=
  if p = 1 && !d.variant.hasHostB then 0 else d.get R.HOST_LINK_CFG_VF_TOTAL_NOW p

/-- The host port and VF number of an instance; none where it has no VF (10 R355). -/
def Dev.instVf (d : Dev) (i : Nat) : Option (Nat × Nat) :=
  let a := d.vfTotal 0
  if i < a then some (0, i + 1) else if i < a + d.vfTotal 1 then some (1, i - a + 1) else none

/-- Host port of an instance. -/
def Dev.instPort (d : Dev) (i : Nat) : Option Nat := (d.instVf i).map Prod.fst

/-- Numbers of the functions: 0 and 1 are PF0 and PF1 of port A, 2 and 3 of port B, and 4 + i the VF of instance i. -/
def vfFn (i : Nat) : Nat := 4 + i

/-- Host port of a function. -/
def Dev.fnPort (d : Dev) (fn : Nat) : Option Nat :=
  if fn < 2 then some 0 else if fn < 4 then (if d.variant.hasHostB then some 1 else none) else d.instPort (fn - 4)

/-- Whether messages can leave on a host port. -/
def Dev.linkUp (d : Dev) (p : Nat) : Bool := d.flag R.HOST_LINK_STATUS_UP p

/-- A host port's link, and the device with it changed. -/
def Dev.link (d : Dev) (p : Nat) : HostLink := (assoc d.host.links p).getD { }
def Dev.modLink (d : Dev) (p : Nat) (g : HostLink → HostLink) : Dev :=
  { d with host := { d.host with links := assocSet d.host.links p (g (d.link p)) } }

/-- DMA may be issued on a host port: its link is up and does not retrain (R389). -/
def Dev.dmaOk (d : Dev) (p : Nat) : Bool := d.linkUp p && !(d.link p).training

/-- A read on the link of a host port completed with UR, CA or poisoned data (R388). -/
def Dev.readFailed (d : Dev) (p : Nat) : Dev := d.count R.HOST_DMA_ERR 1 p

/-- A read of host memory at an address that belongs to no ring entry and no descriptor failed on the link: it is counted,
and an error of the HOST page (R388; 15 R494; DEDUCED, notes/assumptions/130). -/
def Dev.readLost (d : Dev) (p addr : Nat) : Dev := (d.readFailed p).error (pgHOST p) 5 0x20 addr

/-- A read of host memory for a command of a path, noted where it failed on the link (R388; 15 R494). -/
def Dev.noteRead (d : Dev) (path : Path) (failed : Bool) (addr : Nat) : Dev :=
  match path with
  | .operator p => if failed && d.dmaOk p.num then d.readLost p.num addr else d
  | .installer p => if failed && d.dmaOk p.num then d.readLost p.num addr else d
  | _ => d

/-- A host port retrains: nothing is sent on it, and what is to be written waits (R389). -/
def Dev.retraining (d : Dev) (p : Nat) : Bool := d.linkUp p && (d.link p).training

/-- A host port as an operand's type names it. -/
def hostPort (p : Nat) : HostPort := if p = 0 then .a else .b

/-- The operator PF of a host port. -/
def pfFn (p : Nat) : Nat := 2 * p

/-- A write to host memory through a host port; while it retrains the write waits (R389). -/
def Dev.hostPut (d : Dev) (p : Nat) (w : HostWrite) : Dev :=
  if d.retraining p then d.modLink p (fun l => { l with waiting := l.waiting ++ [w] })
  else d.emit (.hostWrite (hostPort p) w)

/-- The writes that waited for a port to retrain leave (R389). -/
def Dev.releaseWrites (d : Dev) (p : Nat) : Dev :=
  (d.each (d.link p).waiting (fun d w => d.emit (.hostWrite (hostPort p) w))).modLink p
    (fun l => { l with waiting := [] })

/-! ### MSI-X (R357, R358, R385) -/

/-- Entries of a function's MSI-X table. -/
def Dev.msixSize (d : Dev) (fn : Nat) : Nat :=
  if fn < 4 then 64 else max 1 (d.get R.INST_VEC_RANGE_VEC_COUNT (fn - 4))

/-- The table of the VF pool, after the numbers of all functions. -/
def vfPool : Nat := 4 + 4096

/-- Where vector `v` of a function lies: local vector v of a VF is pool vector VEC_BASE + v (R357). -/
def Dev.msixPlace (d : Dev) (fn v : Nat) : Nat × Nat :=
  if 4 ≤ fn ∧ d.get R.INST_VEC_RANGE_VEC_COUNT (fn - 4) ≠ 0 then (vfPool, d.get R.INST_VEC_RANGE_VEC_BASE (fn - 4) + v) else (fn, v)

/-- The function and the vector that a place belongs to; none of a pool vector that no instance has. -/
def Dev.msixOwner (d : Dev) (x : Nat × Nat) : Option (Nat × Nat) :=
  if x.1 ≠ vfPool then some x
  else
    ((d.touched .INST).find? (fun i => decide (d.get R.INST_VEC_RANGE_VEC_BASE i ≤ x.2) &&
      decide (x.2 < d.get R.INST_VEC_RANGE_VEC_BASE i + d.get R.INST_VEC_RANGE_VEC_COUNT i))).map
      (fun i => (vfFn i, x.2 - d.get R.INST_VEC_RANGE_VEC_BASE i))

/-- An entry, and the device with it set. -/
def Dev.msixEntry (d : Dev) (fn v : Nat) : MsixEntry := (assoc d.host.msix (d.msixPlace fn v)).getD { }
def Dev.setMsix (d : Dev) (fn v : Nat) (e : MsixEntry) : Dev :=
  { d with host := { d.host with msix := assocSet d.host.msix (d.msixPlace fn v) e } }

/-- MSI-X Enable and Function Mask of a function. -/
def Dev.msixCtl (d : Dev) (fn : Nat) : Bool × Bool := (assoc d.host.msixCtl fn).getD (false, false)

/-- Whether a raised vector is sent at once: its entry and its function are unmasked, the link of its port is up and does not
retrain (R389), its instance is neither FROZEN nor RESTORING and has the vector (R358), and no ring vector is sent in Safe Hold (15 R503). -/
def Dev.msixOpen (d : Dev) (fn v : Nat) : Bool :=
  let c := d.msixCtl fn
  c.1 && !c.2 && !(d.msixEntry fn v).masked && (d.fnPort fn).any d.dmaOk &&
    !(decide (4 ≤ fn) && (d.holding || d.instHeld (fn - 4) || decide (d.get R.INST_VEC_RANGE_VEC_COUNT (fn - 4) ≤ v)))

/-- A message of a vector: all that one Notch raises of it make one message, sent after every write that it covers (R384,
R386). -/
def Dev.sendMsix (d : Dev) (fn v : Nat) : Dev :=
  ({ d with out := d.out.filter (fun x => x != .msix fn v) } : Dev).emit (.msix fn v)

/-- A vector raised: sent, or left pending while it is masked (R385). -/
def Dev.raiseVec (d : Dev) (fn v : Nat) : Dev :=
  if d.msixOpen fn v then d.sendMsix fn v else d.setMsix fn v { d.msixEntry fn v with pending := true }

/-- Pending vectors whose masks are clear are sent (R385). -/
def Dev.flushVecs (d : Dev) : Dev :=
  d.each (d.host.msix.filterMap (fun x => if x.2.pending then d.msixOwner x.1 else none))
    (fun d x => if d.msixOpen x.1 x.2 then
      (d.setMsix x.1 x.2 { d.msixEntry x.1 x.2 with pending := false }).sendMsix x.1 x.2 else d)

/-- A function's MSI-X table and pending bits at their values after reset. -/
def Dev.resetMsix (d : Dev) (fn : Nat) : Dev :=
  { d with host := { d.host with msix := d.host.msix.filter (fun x =>
      !(x.1.1 == (d.msixPlace fn 0).1 && decide ((d.msixPlace fn 0).2 ≤ x.1.2) &&
        decide (x.1.2 < (d.msixPlace fn 0).2 + d.msixSize fn))) } }

/-- A function's configuration space at its values after reset. -/
def Dev.resetConfig (d : Dev) (fn : Nat) : Dev :=
  { d with host := { d.host with
      msixCtl := assocDel d.host.msixCtl fn, config := d.host.config.filter (fun x => x.1.1 != fn) } }

/-- The 16 bytes of an entry as two words. -/
def MsixEntry.words (e : MsixEntry) : Word × Word :=
  (BitVec.ofNat 64 e.addr, BitVec.ofNat 64 (e.data + (if e.masked then 2 ^ 32 else 0)))

/-- A word of the VF's BAR0 beyond the instance page: MSI-X table and pending bits (R356). -/
def Dev.vfWord (d : Dev) (i off : Nat) : Word :=
  let fn := vfFn i
  if 0x1000 ≤ off ∧ off < 0x9000 then
    let v := (off - 0x1000) / 16
    if v < d.msixSize fn then
      (if off / 8 % 2 = 0 then (d.msixEntry fn v).words.1 else (d.msixEntry fn v).words.2)
    else 0
  else if 0x9000 ≤ off ∧ off < 0x9100 then
    let w := (off - 0x9000) / 8
    BitVec.ofNat 64 (((List.range 64).map (fun b =>
      if 64 * w + b < d.msixSize fn ∧ (d.msixEntry fn (64 * w + b)).pending then 2 ^ b else 0)).sum)
  else 0

/-- The masked bits of a word of the VF's MSI-X table written; and of its pending bits where VEC_COUNT is 0, whose one entry has
a pending bit that can be written (R358). -/
def Dev.vfWrite (d : Dev) (i off : Nat) (mask data : Word) : Dev :=
  let fn := vfFn i
  if 0x1000 ≤ off ∧ off < 0x9000 then
    let v := (off - 0x1000) / 16
    if v < d.msixSize fn then
      let e := d.msixEntry fn v
      let w := if off / 8 % 2 = 0 then e.words.1 else e.words.2
      let n := (w &&& ~~~mask) ||| (data &&& mask)
      d.setMsix fn v (if off / 8 % 2 = 0 then { e with addr := n.toNat }
        else { e with data := n.field 0 32, masked := n.getLsbD 32 })
    else d
  else if off / 8 = 0x9000 / 8 ∧ d.get R.INST_VEC_RANGE_VEC_COUNT i = 0 ∧ mask.getLsbD 0 then
    d.setMsix fn 0 { d.msixEntry fn 0 with pending := data.getLsbD 0 }
  else d

end Sys2Proof.Machine
end

