-- ==== Sys2Proof/Machine/Checks.lean ====
section
/-! DEFINITION. Which values a register field refuses: the ranges and conditions of the field tables and of the rules
they name (00 R629). A field with no entry accepts every value. -/

namespace Sys2Proof

/-- The value of a field in a candidate word. -/
def Fld.inWord (f : Fld) (w : Word) : Nat := w.field f.lo f.w

end Sys2Proof

namespace Sys2Proof.Machine

/-- Whether `lo ≤ n ≤ hi`. -/
def within (lo hi n : Nat) : Bool := decide (lo ≤ n) && decide (n ≤ hi)

/-- Whether two ranges given by start and length share no number. -/
def disjoint (a n b m : Nat) : Bool := decide (a + n ≤ b) || decide (b + m ≤ a)

/-- Whether CLASSIFY.RULESET[i] accepts a word (06 R223). -/
def rulesetOk (d : Dev) (i : Nat) (w : Word) : Bool :=
  let base := R.CLASSIFY_RULESET_BASE.inWord w
  let rows := R.CLASSIFY_RULESET_ROWS.inWord w
  R.CLASSIFY_RULESET_VALID.inWord w == 0 ||
    (decide (base + rows ≤ 131072) &&
      (List.range 256).all (fun k => k == i || d.get R.CLASSIFY_RULESET_VALID 0 k == 0 ||
        disjoint base rows (d.get R.CLASSIFY_RULESET_BASE 0 k) (d.get R.CLASSIFY_RULESET_ROWS 0 k)) &&
      (decide (R.CLASSIFY_RULESET_KEY_WORDS.inWord w < 4) || (base % 2 == 0 && rows % 2 == 0)))

/-- Whether TABLE.FT[t].CFG accepts a word (07 R282). -/
def flowCfgOk (d : Dev) (t : Nat) (w : Word) : Bool :=
  let l := R.TABLE_FT_CFG_BUCKET_LOG2.inWord w
  let base := R.TABLE_FT_CFG_BASE.inWord w
  let len := 8 * 2 ^ l
  let same := [R.TABLE_FT_CFG_VALID, R.TABLE_FT_CFG_KEY_WORDS, R.TABLE_FT_CFG_BUCKET_LOG2, R.TABLE_FT_CFG_BASE].all
    (fun f => f.inWord w == d.get f 0 t)
  within 7 (d.variant.flowLog2 - 3) l && base % len == 0 &&
    (R.TABLE_FT_CFG_VALID.inWord w == 0 ||
      (decide (base + len ≤ 2 ^ d.variant.flowLog2) &&
        (List.range 16).all (fun k => k == t || d.get R.TABLE_FT_CFG_VALID 0 k == 0 ||
          disjoint base len (d.get R.TABLE_FT_CFG_BASE 0 k) (8 * 2 ^ d.get R.TABLE_FT_CFG_BUCKET_LOG2 0 k)))) &&
    (same || d.get R.TABLE_FT_STATE_COUNT_ACTIVE 0 t + d.get R.TABLE_FT_STATE_COUNT_SHADOW 0 t == 0)

/-- Whether the seed of bank `k` may be written (07 R260): of the active bank while the table holds no entries, of the
shadow bank while the table is IDLE. -/
def seedOk (k active state entries : Nat) : Bool := if k = active then entries == 0 else state == 0

/-- Whether GSLOT.CORE_CFG accepts a word: no thread of mode 3, and a slot of the table for every thread not OFF
(04 R136). -/
def coreCfgOk (w : Word) : Bool :=
  (List.range 8).all (fun t =>
    let mode := R.GSLOT_CORE_CFG_MODE.inWord w / 4 ^ t % 4
    mode != 3 && (mode == 0 || (List.range 16).any (fun k => R.GSLOT_CORE_CFG_ISSUE.inWord w / 8 ^ k % 8 == t)))

/-- Whether a page of host memory is named. -/
def pageAligned (a : Nat) : Bool := a % 4096 == 0

/-- The global ring that an instance page shows, with the selection of store `s`; none beyond its rings (10 R359, R390). -/
def shownRing (s : Store) (inst : Nat) : Option Nat :=
  let get := fun (f : Fld) => (s.word (fldKey f inst 0)).field f.lo f.w
  if get R.INST_RING_SEL_RING < 2 * get R.INST_RING_RANGE_QP_COUNT then
    some (2 * get R.INST_RING_RANGE_QP_BASE + get R.INST_RING_SEL_RING)
  else none

/-- Whether a ring of an instance is enabled. -/
def Dev.anyRingOn (d : Dev) (inst : Nat) : Bool :=
  let base := d.get R.INST_RING_RANGE_QP_BASE inst
  let n := d.get R.INST_RING_RANGE_QP_COUNT inst
  (d.touched .RCTX).any (fun r => decide (base ≤ r / 2) && decide (r / 2 < base + n) && d.flag R.RCTX_CFG_EN r)

/-- Whether an instance accepts a RING_RANGE or VEC_RANGE of base `b` and count `n` (10 R360). -/
def Dev.rangeOk (d : Dev) (inst b n total most : Nat) (base count : Fld) : Bool :=
  !d.anyRingOn inst && decide (n ≤ most) && decide (b + n ≤ total) &&
    (d.touched .INST).all (fun k => k == inst || n == 0 || d.get count k == 0 || disjoint b n (d.get base k) (d.get count k))

/-- Whether a ring's context accepts a word that enables it (10 R361). -/
def Dev.enableOk (d : Dev) (inst r : Nat) (w : Word) : Bool :=
  pageAligned (d.get R.RCTX_BASE_ADDR r) && within 6 16 (R.RCTX_CFG_SIZE_LOG2.inWord w) &&
    decide (R.RCTX_CFG_VEC.inWord w < d.get R.INST_VEC_RANGE_VEC_COUNT inst) && (d.instVf inst).isSome

/-- Instances whose dirty-page log is on (11 R410). -/
def Dev.dirtyUse (d : Dev) : Nat := ((d.touched .INST).filter (fun i => d.flag R.INST_DIRTY_CFG_EN i)).length

/-- Whether the Ledger's consumer may take a position (11 R424). -/
def Dev.ledgerConsOk (d : Dev) (w : Word) : Bool :=
  let n := 2 ^ d.get R.INSTCTL_LEDGER_CFG_SIZE_LOG2
  let prod := d.get R.INSTCTL_LEDGER_PROD_INDEX + n * d.get R.INSTCTL_LEDGER_PROD_WRAP
  let cons := R.INSTCTL_LEDGER_CONS_INDEX.inWord w + n * R.INSTCTL_LEDGER_CONS_WRAP.inWord w
  decide (R.INSTCTL_LEDGER_CONS_INDEX.inWord w < n) && decide ((prod + 2 * n - cons) % (2 * n) ≤ n)

/-- Whether R426 allows an algorithm for a protocol (ESP and TLS: 0 to 2, MACsec: 3). -/
def algAllowed (proto alg : Nat) : Bool := if proto = 1 then alg == 3 else decide (proto < 3) && decide (alg < 3)

/-- Whether an SA accepts word 0 of its record (12 R427, R428). -/
def Dev.saOk (d : Dev) (u : Nat) (w : Word) : Bool :=
  let alg := R.SA_W0_ALG.inWord w
  R.SA_W0_PROTO.inWord w != 3 && decide (R.SA_W0_WIN_SIZE.inWord w ≤ 1024) &&
    (R.SA_W0_VALID.inWord w == 0 ||
      (algAllowed (R.SA_W0_PROTO.inWord w) alg && (assoc d.units.keys u).all (fun k => k.1 == alg)))

/-- Whether field `f`, instance `i`, of unit `u` accepts the candidate word `w` of its register; `w` carries the new
values of all the register's fields. -/
def fieldOk (d : Dev) (u : Nat) (f : Fld) (i : Nat) (w : Word) : Bool :=
  let v := w.field f.lo f.w
  match f.sp with
  | .DIAL =>
    if f = R.DIAL_PPS_OUT_CFG_WIDTH then within 1 15624999 v else true
  | .LANEGRP => if f = R.LANEGRP_LINK_CFG_MEDIUM then v != 3 else true
  | .PORT =>
    if f = R.PORT_CTRL_RX_MAX_LEN then within 64 16383 v
    else if f = R.PORT_FC_CFG_TX_MODE then v != 3
    else if f = R.PORT_PFC_THRESH_XOFF_CELLS ∨ f = R.PORT_PFC_THRESH_XON_CELLS then
      decide (R.PORT_PFC_THRESH_XON_CELLS.inWord w < R.PORT_PFC_THRESH_XOFF_CELLS.inWord w)
    else true
  | .WAKE => if f = R.WAKE_LENGTH_LEN then within 1 128 v else true
  | .BASIN =>
    let cap := d.get R.BASIN_CELLS_TOTAL_TOTAL - 32768
    if f = R.BASIN_CFG_SHARED_LIMIT then decide (d.get R.BASIN_GMIN_SUM_CELLS + v ≤ cap)
    else if f = R.BASIN_Q_CFG_GMIN then
      decide (d.get R.BASIN_GMIN_SUM_CELLS - d.get R.BASIN_Q_CFG_GMIN u i + v + d.get R.BASIN_CFG_SHARED_LIMIT ≤ cap) &&
        decide (v ≤ R.BASIN_Q_CFG_QMAX.inWord w)
    else if f = R.BASIN_Q_CFG_QMAX then decide (R.BASIN_Q_CFG_GMIN.inWord w ≤ v)
    else if f = R.BASIN_Q_AGE_AGE_LIMIT then v == 0 || decide (64 ≤ v)
    else true
  | .CLASSIFY =>
    if f = R.CLASSIFY_RULESET_VALID ∨ f = R.CLASSIFY_RULESET_KEY_WORDS ∨ f = R.CLASSIFY_RULESET_ZPROF ∨
        f = R.CLASSIFY_RULESET_BASE ∨ f = R.CLASSIFY_RULESET_ROWS then rulesetOk d i w
    else true
  | .TABLE =>
    let macAll := d.get R.TABLE_MAC_STATE_COUNT_ACTIVE + d.get R.TABLE_MAC_STATE_COUNT_SHADOW
    let rtAll := d.get R.TABLE_RT_STATE_COUNT_ACTIVE + d.get R.TABLE_RT_STATE_COUNT_SHADOW
    let ftAll := d.get R.TABLE_FT_STATE_COUNT_ACTIVE 0 i + d.get R.TABLE_FT_STATE_COUNT_SHADOW 0 i
    if f = R.TABLE_MAC_CFG_AGE_LIMIT ∨ f = R.TABLE_FT_AGE_LIMIT_UNITS then decide (2 ≤ v)
    else if f = R.TABLE_FT_CFG_VALID ∨ f = R.TABLE_FT_CFG_KEY_WORDS ∨ f = R.TABLE_FT_CFG_AGE_EN ∨
        f = R.TABLE_FT_CFG_BUCKET_LOG2 ∨ f = R.TABLE_FT_CFG_BASE then flowCfgOk d i w
    else if f = R.TABLE_MAC_SEED then
      seedOk i (d.get R.TABLE_MAC_STATE_ACTIVE) (d.get R.TABLE_MAC_STATE_STATE) macAll
    else if f = R.TABLE_RT_SEED then seedOk i (d.get R.TABLE_RT_STATE_ACTIVE) (d.get R.TABLE_RT_STATE_STATE) rtAll
    else if f = R.TABLE_FT_SEED0 then
      seedOk 0 (d.get R.TABLE_FT_STATE_ACTIVE 0 i) (d.get R.TABLE_FT_STATE_STATE 0 i) ftAll
    else if f = R.TABLE_FT_SEED1 then
      seedOk 1 (d.get R.TABLE_FT_STATE_ACTIVE 0 i) (d.get R.TABLE_FT_STATE_STATE 0 i) ftAll
    else if f = R.TABLE_RT_FILTER_SEED then rtAll == 0
    else true
  | .GSLOT => if f = R.GSLOT_CORE_CFG_MODE ∨ f = R.GSLOT_CORE_CFG_ISSUE then coreCfgOk w else true
  | .HOST =>
    if f = R.HOST_LINK_CFG_MAX_SPEED ∨ f = R.HOST_LINK_CFG_MAX_WIDTH then v != 3
    else if f = R.HOST_LINK_CFG_VF_TOTAL then
      decide (v + (if d.variant.hasHostB then d.get R.HOST_LINK_CFG_VF_TOTAL (1 - u) else 0) ≤ 4096)
    else true
  | .INST =>
    if f = R.INST_RING_RANGE_QP_BASE ∨ f = R.INST_RING_RANGE_QP_COUNT then
      d.rangeOk u (R.INST_RING_RANGE_QP_BASE.inWord w) (R.INST_RING_RANGE_QP_COUNT.inWord w) 524288 8192
        R.INST_RING_RANGE_QP_BASE R.INST_RING_RANGE_QP_COUNT
    else if f = R.INST_VEC_RANGE_VEC_BASE ∨ f = R.INST_VEC_RANGE_VEC_COUNT then
      d.rangeOk u (R.INST_VEC_RANGE_VEC_BASE.inWord w) (R.INST_VEC_RANGE_VEC_COUNT.inWord w) 65280 2048
        R.INST_VEC_RANGE_VEC_BASE R.INST_VEC_RANGE_VEC_COUNT
    else if f = R.INST_QUIESCE_LIMIT_NOTCHES then decide (64 ≤ v)
    else if f = R.INST_DIRTY_CFG_EN then
      v == 0 || d.flag R.INST_DIRTY_CFG_EN u ||
        (decide (d.dirtyUse < 64) && within 1 268435456 (d.get R.INST_DIRTY_PAGES_PAGES u) &&
          pageAligned (d.get R.INST_DIRTY_BASE_ADDR u))
    else if f = R.INST_DIRTY_BASE_ADDR ∨ f = R.INST_DIRTY_PAGES_PAGES then !d.flag R.INST_DIRTY_CFG_EN u
    else true
  | .RCTX =>
    match shownRing d.regs u with
    | none => false
    | some r =>
      let on := d.flag R.RCTX_CFG_EN r
      if f = R.RCTX_CFG_EN then (if on then v == 1 else v == 0 || d.enableOk u r w)
      else if f = R.RCTX_BASE_ADDR then !on
      else if f = R.RCTX_CFG_SIZE_LOG2 then !on || v == d.get R.RCTX_CFG_SIZE_LOG2 r
      else if f = R.RCTX_MOD_CNT then decide (1 ≤ v)
      else true
  | .INSTCTL =>
    let on := d.flag R.INSTCTL_LEDGER_CFG_EN
    if f = R.INSTCTL_LEDGER_CFG_PORT then
      (v == 0 || d.variant.hasHostB) && (!on || v == d.get R.INSTCTL_LEDGER_CFG_PORT)
    else if f = R.INSTCTL_LEDGER_CFG_SIZE_LOG2 then
      within 10 20 v && (!on || v == d.get R.INSTCTL_LEDGER_CFG_SIZE_LOG2)
    else if f = R.INSTCTL_LEDGER_BASE_ADDR then !on
    else if f = R.INSTCTL_LEDGER_CONS_INDEX ∨ f = R.INSTCTL_LEDGER_CONS_WRAP then d.ledgerConsOk w
    else true
  | .MOVER =>
    let st := d.get R.MOVERCH_STATUS_STATE 0 i
    if f = R.MOVERCH_CFG_DISABLE then true
    else if (f.stride == 6) && within 1 4 st then false
    else if f = R.MOVERCH_CFG_TRIG then decide (v ≤ 4)
    else if f = R.MOVERCH_CFG_DESC_SPACE then decide (v ≤ 2)
    else if f = R.MOVERCH_CFG_PERIOD then decide (1 ≤ v)
    else if f = R.MOVERCH_TRIG_NS then v % 64 == 0
    else true
  | .CONN =>
    if f = R.CONN_W0_MSS then within 64 16000 v
    else if f = R.CONN_W0_BUF_LOG2 then decide (v ≤ 12)
    else if f = R.CONN_BUF_BASE then pageAligned v
    else true
  | .SA => f.word != 0 || d.saOk u w
  | .HEALTH =>
    if f = R.HEALTH_HBM_CFG_CORR_LIMIT ∨ f = R.HEALTH_BASIN_HCFG_CORR_LIMIT then decide (1 ≤ v)
    else if f = R.HEALTH_HBM_CFG_WINDOW then decide (15625 ≤ v)
    else if f = R.HEALTH_SSTORE_WEAR_LIMIT then within 1 100 v
    else true
  | .ROLE => if f = R.ROLE_SESS_CFG_IDLE_S then decide (60 ≤ v) else true
  | .SSTORE => if f = R.SSTORE_FW_FLOOR then decide (d.get R.SSTORE_FW_FLOOR ≤ v) else true
  | .BOOT => if f = R.BOOT_TRIAL_LIMIT_S then decide (60 ≤ v) else true
  | .GLEN => if f = R.GLEN_DRAIN_LIMIT_NOTCHES then within 64 65535 v else true
  | _ => true

end Sys2Proof.Machine
end

