-- ==== Sys2Proof/Machine/Xmss.lean ====
section
/-! DEFINITION. XMSS-SHAKE256_20_256, the signature scheme of every key that the device verifies: RFC 8391 with the
functions of SP 800-208 (16 R526, R530, R542; notes/assumptions/129). A string of 32 bytes is the number whose lowest byte is
the first of the string, so that the kernel can evaluate a verification. -/

namespace Sys2Proof.Machine

/-! ### The hash functions (RFC 8391 section 5.1; SP 800-208 section 5) -/

/-- The first 32 bytes of SHAKE256 of a message of `n` bytes that fits one block. -/
def shakeShort (n m : Nat) : Nat :=
  keccak (m ||| (0x1F <<< (8 * n)) ||| (0x80 <<< (8 * (shakeRate - 1)))) % 2 ^ 256

/-- F, H and PRF: SHAKE256 of a prefix that names the function, a key and the input. -/
def xmssF (key x : Nat) : Nat := shakeShort 96 ((key <<< 256) ||| (x <<< 512))
def xmssH (key l r : Nat) : Nat := shakeShort 128 ((1 <<< 248) ||| (key <<< 256) ||| (l <<< 512) ||| (r <<< 768))
def xmssPrf (seed adrs : Nat) : Nat := shakeShort 96 ((3 <<< 248) ||| (seed <<< 256) ||| (adrs <<< 512))

/-- H_msg: the digest of a message under a signature's r, the root and the leaf's index. -/
def xmssDigest (r root : List Byte) (idx : Nat) (msg : List Byte) : Nat :=
  leNat (shake256 (beBytes 32 2 ++ r ++ root ++ beBytes 32 idx ++ msg) 32)

/-! ### Addresses and nodes (RFC 8391 sections 2.5 and 4.1) -/

/-- An address: its type, then three words. Layer and tree are 0 in a single tree. -/
structure XmssAdrs where
  type : Nat
  a : Nat
  b : Nat
  c : Nat

/-- A word of an address as it is stored, with its highest byte first. -/
def adrsWord (w : Nat) : Nat :=
  Nat.lor (Nat.shiftLeft (Nat.land w 0xFF) 24) (Nat.lor (Nat.shiftLeft (Nat.land w 0xFF00) 8)
    (Nat.lor (Nat.land (Nat.shiftRight w 8) 0xFF00) (Nat.shiftRight w 24)))

/-- The 32 bytes of an address, whose last word is `mask`. -/
def XmssAdrs.num (x : XmssAdrs) (mask : Nat) : Nat :=
  Nat.lor (Nat.shiftLeft (adrsWord x.type) 96) (Nat.lor (Nat.shiftLeft (adrsWord x.a) 128) (Nat.lor
    (Nat.shiftLeft (adrsWord x.b) 160) (Nat.lor (Nat.shiftLeft (adrsWord x.c) 192) (Nat.shiftLeft (adrsWord mask) 224))))

/-- One step of a WOTS+ chain, and `n` of them. -/
def wotsStep (seed : Nat) (x : XmssAdrs) (v : Nat) : Nat :=
  forced (xmssPrf seed (x.num 0)) fun key => forced (xmssPrf seed (x.num 1)) fun bm => xmssF key (v ^^^ bm)
def wotsChain (seed idx i : Nat) : Nat → Nat → Nat → Nat
  | 0, _, v => v
  | n + 1, j, v => forced (wotsStep seed ⟨0, idx, i, j⟩ v) fun w => forced (j + 1) fun k => wotsChain seed idx i n k w

/-- RAND_HASH: the node over two. -/
def xmssNode (seed : Nat) (x : XmssAdrs) (l r : Nat) : Nat :=
  forced (xmssPrf seed (x.num 0)) fun key => forced (xmssPrf seed (x.num 1)) fun bm0 =>
    forced (xmssPrf seed (x.num 2)) fun bm1 => xmssH key (l ^^^ bm0) (r ^^^ bm1)

/-- One level of an L-tree, from its node `i` on: nodes joined by twos, and one left over as it is. -/
def ltreeLevel (seed idx h : Nat) : Nat → List Nat → List Nat
  | i, l :: r :: t => xmssNode seed ⟨1, idx, h, i⟩ l r :: ltreeLevel seed idx h (i + 1) t
  | _, t => t

/-- The root of an L-tree, level by level. -/
def ltree (seed idx : Nat) (pk : List Nat) : Nat :=
  nth ((List.range 7).foldl (fun l h => ltreeLevel seed idx h 0 l) pk) 0 0

/-! ### Verification (RFC 8391 algorithms 6, 8, 13 and 14) -/

/-- The 67 digits that a digest gives the chains: its own 64, then the 3 of their checksum. -/
def wotsDigits (digest : Nat) : List Nat :=
  let l := (leBytes 32 digest).flatMap (fun b => [b.toNat / 16, b.toNat % 16])
  let c := (l.map (fun d => 15 - d)).sum
  l ++ [c / 256, c / 16 % 16, c % 16]

/-- String `k` of those that follow index and r in a signature. -/
def sigPart (sig k : Nat) : Nat := (sig >>> (8 * 36 + 256 * k)) % 2 ^ 256

/-- The leaf that a signature and a digest give. -/
def xmssLeaf (seed idx digest sig : Nat) : Nat :=
  ltree seed idx ((wotsDigits digest).zipIdx.map (fun x => forced x.1 fun d => forced x.2 fun i =>
    forced (15 - d) fun n => wotsChain seed idx i n d (sigPart sig i)))

/-- The node of level `k` + 1 on the way to the root. -/
def xmssUp (seed idx sig k v : Nat) : Nat :=
  let x : XmssAdrs := ⟨2, 0, k, idx / 2 ^ (k + 1)⟩
  let w := sigPart sig (67 + k)
  if idx / 2 ^ k % 2 = 0 then xmssNode seed x v w else xmssNode seed x w v

/-- `n` levels of the way to the root, from a node of level `k` on. -/
def xmssClimb (seed idx sig : Nat) : Nat → Nat → Nat → Nat
  | 0, _, v => v
  | n + 1, k, v => forced (xmssUp seed idx sig k v) (xmssClimb seed idx sig n (k + 1))

/-- The root that a signature and a digest give. -/
def xmssRoot (seed idx digest sig : Nat) : Nat :=
  forced (xmssLeaf seed idx digest sig) (xmssClimb seed idx sig 20 0)

/-- The OIDs that SP 800-208 gives XMSS-SHAKE256_20_256 and XMSSMT-SHAKE256_40/2_256. -/
def xmssOid : List Byte := [0, 0, 0, 0x12]
def xmssmtOid : List Byte := [0, 0, 0, 0x2B]

/-- The length of a signature. -/
def xmssSigLen : Nat := 2820

/-- Whether a signature of a message verifies under a public key: OID, root and SEED. -/
def xmssVerify (key msg sig : List Byte) : Bool :=
  let root := (key.drop 4).take 32
  sig.length == xmssSigLen &&
    forced (leNat ((key.drop 36).take 32)) (fun seed => forced (leNat sig) fun x => forced (beNat (sig.take 4)) fun i =>
      forced (xmssDigest ((sig.drop 4).take 32) root i msg) fun d => xmssRoot seed i d x) == leNat root

end Sys2Proof.Machine
end

