-- ==== Sys2Proof/Machine/XmssMt.lean ====
section
/-! DEFINITION. XMSSMT-SHAKE256_40/2_256, the scheme of the attestation key: the public key that seeds give, and the signature
of a message by one leaf, by RFC 8391 with the key generation of SP 800-208 (16 R526, R529, R553). -/

namespace Sys2Proof.Machine

/-- SK_SEED, SK_PRF and SEED of a private key, each the number whose lowest byte is its first. -/
structure XmssSeeds where
  sk : Nat
  prf : Nat
  pub : Nat
deriving DecidableEq, Repr

/-- The three seeds, one after the other, of 32 bytes each. -/
def XmssSeeds.ofBytes (b : List Byte) : XmssSeeds :=
  ⟨leNat (b.take 32), leNat ((b.drop 32).take 32), leNat ((b.drop 64).take 32)⟩

/-- The levels of one of the two layers, and the name of a tree of a layer: SEED with the layer and the number of the tree
above it, where every address of the tree has them (RFC 8391 section 2.5). -/
def layerLevels : Nat := 20
def treeSeed (seed layer tree : Nat) : Nat :=
  seed ||| ((adrsWord layer ||| (adrsWord (tree / 2 ^ 32) <<< 32) ||| (adrsWord (tree % 2 ^ 32) <<< 64)) <<< 256)

/-- The secret string of a chain: PRF_keygen of SEED and the chain's address (SP 800-208 section 6.2). -/
def wotsSecret (sk tree leaf i : Nat) : Nat :=
  shakeShort 128 ((4 <<< 248) ||| (sk <<< 256) ||| (tree <<< 512) ||| ((XmssAdrs.num ⟨0, leaf, i, 0⟩ 0) <<< 768))

/-- A node of a tree: at level 0 the L-tree over the ends of a leaf's chains (RFC 8391 algorithms 4 and 9). -/
def mtNode (sk tree : Nat) : Nat → Nat → Nat
  | 0, leaf => ltree tree leaf ((List.range 67).map (fun i => wotsChain tree leaf i 15 0 (wotsSecret sk tree leaf i)))
  | h + 1, i => xmssNode tree ⟨2, 0, h, i⟩ (mtNode sk tree h (2 * i)) (mtNode sk tree h (2 * i + 1))

/-- The root of the upper layer's tree, which is the key's. -/
def XmssSeeds.root (s : XmssSeeds) : Nat := mtNode s.sk (treeSeed s.pub 1 0) layerLevels 0

/-- The public key: OID, root and SEED. -/
def XmssSeeds.publicKey (s : XmssSeeds) : List Byte := xmssmtOid ++ leBytes 32 s.root ++ leBytes 32 s.pub

/-- What a leaf of a tree gives for a digest: its 67 chain strings, then the nodes beside its way up (algorithms 5 and 11). -/
def treeSign (sk tree leaf digest : Nat) : List Byte :=
  (wotsDigits digest).zipIdx.flatMap (fun x => leBytes 32 (wotsChain tree leaf x.2 x.1 0 (wotsSecret sk tree leaf x.2))) ++
    (List.range layerLevels).flatMap (fun k => leBytes 32 (mtNode sk tree k ((leaf / 2 ^ k) ^^^ 1)))

/-- The signature of a message by leaf `n` of the key: index, r, and the two layers (algorithm 16). -/
def XmssSeeds.sign (s : XmssSeeds) (n : Nat) (msg : List Byte) : List Byte :=
  let r := xmssPrf s.prf (leNat (beBytes 32 n))
  let low := treeSeed s.pub 0 (n / 2 ^ layerLevels)
  beBytes 5 n ++ leBytes 32 r ++
    treeSign s.sk low (n % 2 ^ layerLevels) (xmssDigest (leBytes 32 r) (leBytes 32 s.root) n msg) ++
    treeSign s.sk (treeSeed s.pub 1 0) (n / 2 ^ layerLevels) (mtNode s.sk low layerLevels 0)

end Sys2Proof.Machine
end

