-- ==== Sys2Proof/Machine/Registers.lean ====
section
/-! DEFINITION. The generic register accesses: where a page offset lies, what it reads as for a path, and what a write
to it does (00 R14 to R19, 18 R580 to R593). -/

namespace Sys2Proof.Machine

/-- The place of a word of a page beyond its header, the ring selection taken from store `s`. The session registers of
the ROLE page are banked by path; an operator PF has none (16, Register pages). -/
def pagePlace (s : Store) (p : Path) (i : PageInfo) (word : Nat) : Option Key :=
  match i.space with
  | none => none
  | some .INST =>
    if within (0x440 / 8) (0x488 / 8) word then (shownRing s i.unit).map (fun r => ⟨.RCTX, r, word⟩)
    else some ⟨.INST, i.unit, word⟩
  | some .ROLE =>
    if within 8 15 word then
      (match p with
       | .operator _ => none
       | _ => some ⟨.ROLE, p.bank, word⟩)
    else some ⟨.ROLE, 0, word⟩
  | some sp => some ⟨sp, i.unit, word⟩

/-- Whether the path is the VF of the instance whose page this is (18 R589, R590). -/
def ownPage (p : Path) (page : Nat) : Bool := match p with | .vf j => page == pgINST j | _ => false

/-- Whether the path reaches the page: its accesses are served, and a tenant's VF reaches its own instance page only
(10 R356; 17 R563; 18 R580). -/
def Dev.reaches (d : Dev) (p : Path) (page : Nat) : Bool := d.barOpen p && (!p.isVf || ownPage p page)

/-- UPD_CTRL.HOLD may be set (18 R593). -/
def holdOk (i : PageInfo) (p : Path) : Bool :=
  !i.audit && (match p with | .vf _ => false | _ => true)

/-- The hold bank of a path on a page. -/
def Dev.holdBank (d : Dev) (p : Path) (page : Nat) : HoldBank := (assoc d.acc.holds (p.bank, page)).getD { }

/-- The device with a hold bank set. -/
def Dev.setHold (d : Dev) (p : Path) (page : Nat) (b : HoldBank) : Dev :=
  { d with acc := { d.acc with holds := assocSet d.acc.holds (p.bank, page) b } }

/-- The window bank of a path on a page. -/
def Dev.winBank (d : Dev) (p : Path) (page : Nat) : WinBank := (assoc d.acc.wins (p.bank, page)).getD { }

/-- The device with a window bank set. -/
def Dev.setWin (d : Dev) (p : Path) (page : Nat) (b : WinBank) : Dev :=
  { d with acc := { d.acc with wins := assocSet d.acc.wins (p.bank, page) b } }

/-- The bits of the upper and of the lower half of a word. -/
def highHalf : Word := 0xFFFFFFFF00000000
def lowHalf : Word := 0x00000000FFFFFFFF

/-- A window bank as a Notch ends: WIN_CMD reads back the command performed in it, if there was one, in place of those refused
after it (00 R20). -/
def WinBank.settled (b : WinBank) : WinBank :=
  match b.ran with
  | some r => { b with code := r.1.1, status := r.1.2, lastObject := r.2.1, lastIndex := r.2.2, ran := none }
  | none => b

/-- One bit as a number. -/
def bit (b : Bool) : Nat := if b then 1 else 0

/-- UPD_CTRL as it reads in a hold bank (18 R585). -/
def HoldBank.word (b : HoldBank) : Nat := bit b.hold + bit b.drop * 2 + b.writes.length * 2 ^ 8 + bit b.overflow * 2 ^ 15

/-- A word of the common header, as a path reads it in the state `d` (18 R583 to R585; 15 R495). -/
def Dev.headerWord (d : Dev) (p : Path) (page : Nat) (i : PageInfo) (word : Nat) : Word :=
  match word with
  | 0 => BitVec.ofNat 64 (page + i.type * 2 ^ 16 + (if 4096 ≤ page then 0 else i.unit) * 2 ^ 24)
  | 1 => BitVec.ofNat 64 (1 + (1 + bit (i.window != 0) * 2 + bit (holdOk i p) * 4 + i.window / 16 * 16) * 2 ^ 32)
  | 2 => BitVec.ofNat 64 (d.role p + p.num * 8 + d.getStart R.HEALTH_STATUS_SAFE_HOLD * 2 ^ 8 +
      (i.role + bit i.audit * 4) * 2 ^ 32)
  | 7 => BitVec.ofNat 64 (d.getStart R.HDR_EVT_MASK_MASK page + (d.holdBank p page).word * 2 ^ 32)
  | w => d.start.word ⟨.HDR, page, w⟩

/-- A word of the window block of a path's bank, `word` counted from the block's start (18 R594). -/
def WinBank.word (b : WinBank) (word : Nat) : Word :=
  match word with
  | 0 => BitVec.ofNat 64 (b.object + b.index * 2 ^ 8)
  | 1 => BitVec.ofNat 64 (b.code + b.status * 2 ^ 8 + b.lastObject * 2 ^ 16 + b.lastIndex * 2 ^ 24)
  | 2 => BitVec.ofNat 64 b.dirty
  | 3 => BitVec.ofNat 64 (b.len + bit b.err * 2 ^ 9 + b.notch % 2 ^ 32 * 2 ^ 32)
  | n + 4 => nth b.data n 0

/-- The fingerprint of a key (12 R430; 00 R16): its first 16 bytes. -/
def keyPrint (alg : Nat) (key : List Byte) : List Byte :=
  shake256 ([0x4B, 0x58, 0x44, 0x2D, 0x4B, 0x45, 0x59] ++ [BitVec.ofNat 8 alg] ++ key) 16

/-- The seeds of the attestation key, unwrapped with AES-256-GCM under the key that the fuse secret gives: a nonce of 12 bytes,
the ciphertext, and a tag of 16; nothing where the tag fails (16 R529). -/
def Dev.secretSeeds (d : Dev) : List Byte :=
  let b := d.store.seeds
  let key := Config.wrapKey d.store.fuseSecret
  let ct := (b.drop 12).take (b.length - 28)
  if aeadTag16 1 key (b.take 12) [] ct = b.drop (b.length - 16) then aeadXor 1 key (b.take 12) ct else []

/-- Eight bytes of the fingerprint of the secret seeds (16 R529; 00 R16). -/
def Dev.seedPrint (d : Dev) (half : Nat) : Word := BitVec.ofNat 64 (leNat (((shake256 d.secretSeeds 16).drop (8 * half)).take 8))

/-- The 32 staged key bytes of a store (12 R429). -/
def Store.stage (s : Store) : List Byte := (List.range 4).flatMap (fun k => leBytes 8 (s.word ⟨.CRYPTO, 0, 9 + k⟩).toNat)

/-- Eight bytes of the fingerprint of the staged bytes, as KEY_STAGE reads back (12 R430). -/
def Store.stagePrint (s : Store) (half : Nat) : Word :=
  BitVec.ofNat 64 (leNat (((keyPrint 0xFF s.stage).drop (8 * half)).take 8))

/-- The value of a word as the journal records it: bytes 0 to 7 of the fingerprint for KEY_STAGE (12 R430; 16 R535). -/
def Store.journalWord (s : Store) (k : Key) : Word :=
  if k.sp = .CRYPTO ∧ 9 ≤ k.word ∧ k.word ≤ 12 then s.stagePrint 0 else s.word k

/-- Ingress `i` is in service: its port in the mode in force, its host port or its unit fitted (02 R64; 08 R312). -/
def Dev.ingressServed (d : Dev) (i : Nat) : Bool :=
  if i < 16 then decide (i < d.variant.lanes) && d.getStart R.PORT_STATUS_LINK i != 3
  else if i = 17 then d.variant.hasHostB
  else if i = 16 then true
  else d.variant.hasCrypto

/-- Words of pages that the device computes instead of keeping (00 R4, R5; 01 R57; 06 R244; 08 R312; 10 R390; 11 R405, R423; 18 R603). -/
def Dev.computedWord (d : Dev) (k : Key) : Option Word :=
  match k.sp, k.word with
  | .DEVICE, 8 => some (identWord d.variant)
  | .DEVICE, 9 => some (capWord d.variant)
  | .DEVICE, 10 => some (BitVec.ofNat 64 (leNat (d.serialBytes.take 8)))
  | .DEVICE, 11 => some (BitVec.ofNat 64 (leNat (d.serialBytes.drop 8)))
  | .INST, 13 =>
    let q := d.getStart R.INST_RING_RANGE_QP_COUNT k.idx
    let v := d.getStart R.INST_VEC_RANGE_VEC_COUNT k.idx
    some (BitVec.ofNat 64 (376 + 192 * q + 16 * v + 8 * ((v + 63) / 64)))
  | .INST, 130 =>
    match d.instVf k.idx with
    | some (p, n) => some (BitVec.ofNat 64 (p + n * 2 ^ 16))
    | none => some 2
  | .BASIN, w =>
    if 448 ≤ w ∧ w < 488 ∧ !d.ingressServed ((w - 448) / 2) then some 0 else none
  | .DEFILE, w => if 32 ≤ w ∧ w < 112 ∧ !d.ingressServed ((w - 32) / 4) then some 0 else none
  | .CRYPTO, 9 => some (d.start.stagePrint 0)
  | .CRYPTO, 10 => some (d.start.stagePrint 1)
  | .CRYPTO, 11 => some 0
  | .CRYPTO, 12 => some 0
  | .ROLE, 29 => some (d.seedPrint 0)
  | .ROLE, 30 => some (d.seedPrint 1)
  | .DIAL, 10 => some (BitVec.ofNat 64 d.dial.sec)
  | .DIAL, 11 => some (BitVec.ofNat 64 d.dial.ns)
  | .DIAL, 12 => some (BitVec.ofNat 64 d.dial.notch)
  | .DIAL, 13 => some (d.regs.word k)
  | .DIAL, 14 => some (d.regs.word k)
  | _, _ => none

/-- What a path reads at a word of a page: the state at the start of the Notch (00 R17; 18 R587, R604). The registers of a
factory page, which only a maker session is served, are described nowhere: free values (notes/assumptions/126). -/
def Dev.readWord (d : Dev) (p : Path) (page word : Nat) : Word :=
  match pageInfo d.variant page with
  | none => 0
  | some i =>
    if !i.present then 0
    else if word < 8 then d.atStart.headerWord p page i word
    else if i.window != 0 && within (i.window / 8) (i.window / 8 + 35) word then
      (d.atStart.winBank p page).word (word - i.window / 8)
    else
      match pagePlace d.start p i word with
      | none => if i.isFactory && d.role p == 3 then Config.freeValue (d.fresh + word) else 0
      | some k => (d.computedWord k).getD (d.start.word k)

/-- Whether a read through the path clears RC fields (18 R590). -/
def Dev.mayClear (d : Dev) (p : Path) (page : Nat) : Bool :=
  (d.role p != 0) || ownPage p page

/-- One RC field of a word cleared of what stood at the start of the Notch, once a Notch (00 R18). A second whole read in
the Notch answers the same value and clears nothing more; what a counter that stood at its limit could not count in the
Notch is not counted after the clear (DESIGN CHOICE, notes/assumptions/111). -/
def Dev.clearRC (d : Dev) (k : Key) (f : Fld) : Dev :=
  let m : Word := (0 : Word).withField f.lo f.w (2 ^ f.w - 1)
  let done : Word := (assoc d.acc.cleared k).getD 0
  if done &&& m != 0 then d
  else
    let cur := (d.regs.word k).field f.lo f.w
    let old := (d.start.word k).field f.lo f.w
    { d with
      regs := d.regs.setWord k ((d.regs.word k).withField f.lo f.w (cur - old))
      acc := { d.acc with cleared := assocSet d.acc.cleared k (done ||| m) } }

/-- The RC fields of a word cleared. -/
def Dev.clearWord (d : Dev) (k : Key) : Dev :=
  d.each ((fieldsOf k.sp).filter (fun f => f.acc == .rc && (fldInstance f k.word).isSome))
    (fun d f => d.clearRC k f)

/-- A read of TABLE.MOVELOG or BASIN.USED_PEAK starts the highest value afresh, from the value there is (07 R281; 08 R310). -/
def Dev.readPeak (d : Dev) (k : Key) : Dev :=
  if k = fldKey R.TABLE_MOVELOG_MAX 0 0 then d.put R.TABLE_MOVELOG_MAX (d.get R.TABLE_MOVELOG_OCC)
  else if k = fldKey R.BASIN_USED_PEAK_CELLS 0 0 then
    d.put R.BASIN_USED_PEAK_CELLS (((List.range 20).map (fun i => d.get R.BASIN_ING_HELD_CELLS 0 i)).sum)
  else d

/-- An access through a path keeps its session open (16 R533). -/
def Dev.touch (d : Dev) (p : Path) : Dev :=
  { d with roles := { d.roles with
      sessions := d.roles.sessions.map (fun s => if s.bank == p.bank then { s with last := d.dial.notch } else s) } }

/-- The level source of received MCTP packets (14 R477). -/
def mctpSource : MctpBus → Nat
  | .i3c => 192
  | .vdmA => 193
  | .vdmB => 194

/-- Received data makes a level source high until the next Notch has sampled it (14 R477, R479; DESIGN CHOICE,
notes/assumptions/47). -/
def Dev.arrives (d : Dev) (src : Nat) : Dev :=
  { d with control := { d.control with levels := d.control.levels.filter (fun x => x != src) ++ [src] } }

/-- The levels after a Notch's start has sampled them: received data has been taken, but for MCTP requests still held. -/
def Dev.levelsTaken (d : Dev) : List Nat :=
  d.control.levels.filter (fun x => !within 192 195 x || d.roles.held.any (fun h => mctpSource h.1 == x))

/-- Whether a write of the path is journaled on a page with this AUDIT bit, whether or not it changes a value (00 R11;
16 R525). A write that is discarded whole is not one (DESIGN CHOICE, notes/assumptions/112). -/
def Dev.journals (d : Dev) (p : Path) (audit : Bool) : Bool :=
  let r := d.role p
  r == 2 || r == 3 || (r == 1 && audit)

/-- Which outcome a field of a write has: written, refused for the role, refused for its value, or not concerned. -/
inductive FieldFate where
  | skip | write | role | config
deriving DecidableEq, Repr

/-- Whether a write of the field is a row of the command table of its own, which performs it: the dial source and the slew. -/
def hasOwnRow (f : Fld) : Bool := f = R.DIAL_CTRL_SRC || f = R.DIAL_CTRL_PTP_PORT || f = R.DIAL_SLEW_PPB

/-- Whether the path is an installer PF, whose session registers need no role (18 R589). -/
def pathIsInstaller : Path → Bool
  | .installer _ => true
  | _ => false

/-- FREEZE holds a word of an instance's page unchanged: the ring contexts and INST.EVT_VEC, DB_CNT, RING_EVENTS and RING_SEL (11
R403). -/
def Dev.frozenWord (d : Dev) (i : PageInfo) (k : Key) : Bool :=
  i.space == some .INST && (k.sp == .RCTX || (k.sp == .INST && within 131 134 k.word)) && d.instState i.unit == stFrozen

/-- The fate of one field in a write of the masked bits (00 R15; 18 R588, R589; 16 R524). No field of the block of a device
channel is written but by control firmware (13 R444). -/
def Dev.fate (d : Dev) (p : Path) (page : Nat) (i : PageInfo) (f : Fld) (n : Nat) (mask w : Word) : FieldFate :=
  let frozen : Bool := d.frozenWord i ⟨f.sp, i.unit, f.word + n * f.stride⟩
  let touched : Bool := mask.field f.lo f.w != 0
  let role := d.role p
  let fixed : Bool := (f = R.BASIN_Q_CFG_CT_EN && decide (144 ≤ n)) || (f = R.CLASSIFY_ZERO_PROFILE && n == 0)
  let denied : Bool := f.sp == .MOVER && f.stride == 6 && decide (48 ≤ n) && p != .firmware
  if !touched || fixed || hasOwnRow f then .skip
  else if denied then .role
  else
    match f.acc with
    | .rw =>
      if role == 0 && !ownPage p page && !(f = R.ROLE_SIG_ADDR && pathIsInstaller p) then .role
      else if !frozen && fieldOk d i.unit f n w then .write else .config
    | .rwl =>
      let need := if f = R.SSTORE_FW_FLOOR then 3 else i.role
      if !rolePasses role need then .role else if fieldOk d i.unit f n w then .write else .config
    | _ => .skip

/-- The masked bits of a word of registers written by a path: each RW and RWL field by its fate, each W1C bit that stood
at the start of the Notch and was not set again in it cleared (00 R15, R19), then the errors of what was refused. -/
def Dev.writeFields (d : Dev) (p : Path) (page : Nat) (i : PageInfo) (k : Key) (mask data : Word) : Dev :=
  let old := d.regs.word k
  let w := (old &&& ~~~mask) ||| (data &&& mask)
  let fs := (fieldsOf k.sp).filterMap (fun f => (fldInstance f k.word).map (fun n => (f, n)))
  let fates := fs.map (fun x => (x.1, d.fate p page i x.1 x.2 mask w))
  let stored := fates.foldl
    (fun v x => if x.2 = .write then v.withField x.1.lo x.1.w (w.field x.1.lo x.1.w) else v) old
  let w1c := fs.foldl
    (fun (m : Word) x => if x.1.acc = .w1c then m.withField x.1.lo x.1.w (2 ^ x.1.w - 1) else m) 0
  let operatorOnly : Bool := k.sp == .INST && k.word == R.INST_EVENTS.word
  let mayW1C := if operatorOnly then (match p with | .operator _ => true | _ => false)
    else d.role p != 0
  let clears : Word :=
    if mayW1C && !d.frozenWord i k then data &&& mask &&& w1c &&& d.start.word k &&& ~~~((assoc d.acc.setNow k).getD 0) else 0
  let d1 := d.putWord k (stored &&& ~~~clears)
  let d2 := if fates.any (fun x => x.2 == .role) || (!mayW1C && data &&& mask &&& w1c != 0)
    then d1.roleError p page (8 * k.word) else d1
  if fates.any (fun x => x.2 == .config) || (mayW1C && d.frozenWord i k && data &&& mask &&& w1c != 0) then
    d2.configError page (8 * k.word) else d2

/-- Whether a write of the masked bits writes a field of the word: an RW or RWL field that is not refused, or a W1C field.
-/
def Dev.writesField (d : Dev) (p : Path) (page : Nat) (i : PageInfo) (k : Key) (mask data : Word) : Bool :=
  let w := (d.regs.word k &&& ~~~mask) ||| (data &&& mask)
  (fieldsOf k.sp).any (fun f => match fldInstance f k.word with
    | some n => d.fate p page i f n mask w == .write || (f.acc == .w1c && !d.frozenWord i k && mask.field f.lo f.w != 0)
    | none => false)

/-- EFF_LIMIT brought up to date (08 R291). -/
def Dev.setEffLimit (d : Dev) : Dev :=
  d.put R.BASIN_SHARED_USED_EFF_LIMIT
    (min (d.get R.BASIN_CFG_SHARED_LIMIT) (d.get R.BASIN_CELLS_TOTAL_TOTAL - 32768 - d.get R.BASIN_GMIN_SUM_CELLS))

/-- What follows from a register write besides the fields themselves: the Basin's sums after a write of a GMIN or of
SHARED_LIMIT (08 R289, R291), the rows inside valid rule sets (06, CLASSIFY.ROWS_USED), the bitmap of a dirty-page log that
is turned on or off (11 R410), and the Ledger ring's indices when it is turned on (11 R424). -/
def Dev.afterWrite (d0 d : Dev) (k : Key) : Dev :=
  if k.sp = .BASIN then
    match fldInstance R.BASIN_Q_CFG_GMIN k.word with
    | some n =>
      let occ := d.get R.BASIN_Q_AGE_OCC 0 n
      let old := d0.get R.BASIN_Q_CFG_GMIN 0 n
      let new := d.get R.BASIN_Q_CFG_GMIN 0 n
      ((d.put R.BASIN_GMIN_SUM_CELLS (d.get R.BASIN_GMIN_SUM_CELLS + new - old)).put R.BASIN_SHARED_USED_USED
        (d.get R.BASIN_SHARED_USED_USED + (occ - new) - (occ - old))).setEffLimit
    | none => d.setEffLimit
  else if k.sp = .CLASSIFY ∧ 256 ≤ k.word then
    d.put R.CLASSIFY_ROWS_USED (((List.range 256).map (fun n =>
      d.get R.CLASSIFY_RULESET_VALID 0 n * d.get R.CLASSIFY_RULESET_ROWS 0 n)).sum)
  else if k.sp = .INST ∧ k.word = R.INST_DIRTY_CFG_EN.word then
    (if d0.flag R.INST_DIRTY_CFG_EN k.idx != d.flag R.INST_DIRTY_CFG_EN k.idx then
      (d.modInst k.idx (fun x => { x with dirty := [] })).put R.INST_DIRTY_STAT_MARKED 0 k.idx
    else d)
  else if k.sp = .MOVER then
    (match fldInstance R.MOVERCH_CFG_DISABLE k.word with
     | some n =>
       if d0.flag R.MOVERCH_CFG_DISABLE 0 n && !d.flag R.MOVERCH_CFG_DISABLE 0 n then d.put R.MOVERCH_STATUS_STATE 0 0 n else d
     | none => d)
  else if k = fldKey R.INSTCTL_LEDGER_CFG_EN 0 0 then
    (if !d0.flag R.INSTCTL_LEDGER_CFG_EN && d.flag R.INSTCTL_LEDGER_CFG_EN then
      (((d.put R.INSTCTL_LEDGER_PROD_INDEX 0).put R.INSTCTL_LEDGER_PROD_WRAP 0).put R.INSTCTL_LEDGER_CONS_INDEX 0).put
        R.INSTCTL_LEDGER_CONS_WRAP 0
    else d)
  else d

/-- A write to a word of the window block other than WIN_CMD: WIN_SEL, or an aperture word, which becomes dirty
(18 R594, R600). -/
def Dev.writeWindow (d : Dev) (p : Path) (page word : Nat) (mask data : Word) : Dev :=
  let b := d.winBank p page
  match word with
  | 0 =>
    let w := (b.word 0 &&& ~~~mask) ||| (data &&& mask)
    d.setWin p page { b with object := w.field 0 8, index := w.field 8 32 }
  | n + 4 =>
    let w := (nth b.data n 0 &&& ~~~mask) ||| (data &&& mask)
    let full := b.data ++ List.replicate (32 - b.data.length) 0
    d.setWin p page { b with data := setNth full n w, dirty := b.dirty ||| 2 ^ n }
  | _ => d

/-- Whether the paths that have window banks include this one (18 R595). -/
def pathHasWindow : Path → Bool
  | .vf _ => false
  | _ => true

/-- A write of a factory page (18 R604; 00 R11): a role violation but by a maker session, which is journaled. Its registers
are described nowhere (notes/assumptions/126). -/
def Dev.factoryWrite (d : Dev) (p : Path) (page word : Nat) : Dev :=
  if !rolePasses (d.role p) 3 then d.roleError p page (8 * word)
  else if d.journalFull then (d.journalRefuse).configError page (8 * word)
  else ({ d with fresh := d.fresh + 2 } : Dev).journal p 1 page (8 * word) (Config.freeValue d.fresh)
    (Config.freeValue (d.fresh + 1))

/-- Whether a word of a page has an RW field. -/
def hasRwField (k : Key) : Bool := (fieldsOf k.sp).any (fun f => f.acc == .rw && (fldInstance f k.word).isSome)

/-- Whether a path that carries no role may write the word: the RW fields of an instance's page through its own VF, and
ROLE.SIG_ADDR through an installer PF (18 R589). Of the RCTX registers no ring need be selected. -/
def PageInfo.openWord (i : PageInfo) (p : Path) (page word : Nat) : Bool :=
  (ownPage p page && (word == 7 || hasRwField ⟨.INST, i.unit, word⟩ || hasRwField ⟨.RCTX, 0, word⟩)) ||
    (page == pgROLE && word == R.ROLE_SIG_ADDR.word && pathIsInstaller p)

/-- A register write as the device performs it: absent pages and Safe Hold discard it, a path with no role is refused
but for the writes of R589, a write that must be journaled is refused while the buffer is full, and otherwise the fields
are written and the write journaled (18 R587 to R589; 15 R504; 16 R522, R534, R537). -/
def Dev.writeWord (d : Dev) (p : Path) (page word : Nat) (mask data : Word) : Dev :=
  match pageInfo d.variant page with
  | none => d
  | some i =>
    let inWindow : Bool := i.window != 0 && within (i.window / 8) (i.window / 8 + 35) word
    if !i.present || (d.held && page != pgEVT && !(inWindow && pathHasWindow p)) then d
    else if p.isVf && d.instHeld i.unit then d.configError page (8 * word)
    else if inWindow then
      (if !pathHasWindow p then d.roleError p page (8 * word)
       else if d.role p = 0 ∧ within 1 3 (word - i.window / 8) then
        (if d.held && page != pgEVT then d else d.roleError p page (8 * word))
       else d.writeWindow p page (word - i.window / 8) mask data)
    else if i.isFactory && (decide (8 ≤ word) || !rolePasses (d.role p) 3) then d.factoryWrite p page word
    else if d.role p == 0 && !i.openWord p page word then d.roleError p page (8 * word)
    else if word < 8 then
      (if word = 7 ∧ mask.field 0 32 ≠ 0 then
        (if !rolePasses (d.role p) i.role then d.roleError p page 0x38
         else if d.journals p i.audit && d.journalFull then (d.journalRefuse).configError page 0x38
         else
          let k : Key := ⟨.HDR, page, 7⟩
          let d1 := d.put R.HDR_EVT_MASK_MASK (((d.word k &&& ~~~mask) ||| (data &&& mask)).field 0 32) page
          if d.journals p i.audit then
            d1.journal p 1 page 0x38 (d.word k &&& lowHalf) (d1.word k &&& lowHalf)
          else d1)
      else d)
    else
      match pagePlace d.regs p i word with
      | none => if page = pgROLE ∧ word = R.ROLE_SIG_ADDR.word then d.configError page (8 * word) else d
      | some k =>
        let recorded := d.journals p i.audit && d.writesField p page i k mask data
        if recorded && d.journalFull then (d.journalRefuse).configError page (8 * word)
        else
          let d1 := d.afterWrite (d.writeFields p page i k mask data) k
          if recorded then
            d1.journal p 1 page (8 * word) (d.regs.journalWord k) (d1.regs.journalWord k)
          else d1

/-- The place that a held write of a word of a page is judged by: one in the RCTX registers is held for whichever ring the writes
before it select, though none is selected now (10 R390; 18 R592). -/
def heldPlace (s : Store) (p : Path) (i : PageInfo) (word : Nat) : Option Key :=
  match pagePlace s p i word with
  | some k => some k
  | none => if i.space = some .INST ∧ within (0x440 / 8) (0x488 / 8) word then some ⟨.RCTX, 0, word⟩ else none

/-- Whether a word of a page has an RW or RWL field (18 R592). -/
def hasHeldFields (k : Key) : Bool :=
  (fieldsOf k.sp).any (fun f => (f.acc == .rw || f.acc == .rwl) && (fldInstance f k.word).isSome)

/-- A register write as it is served: held while the path's UPD_CTRL.HOLD on the page is 1, else performed
(18 R592, R593); in Safe Hold nothing more is held (15 R504). -/
def Dev.serveWrite (d : Dev) (p : Path) (page word : Nat) (mask data : Word) : Dev :=
  let b := d.holdBank p page
  match pageInfo d.variant page with
  | none => d
  | some i =>
    let inWindow : Bool := i.window != 0 && within (i.window / 8) (i.window / 8 + 35) word
    match heldPlace d.regs p i word with
    | none => d.writeWord p page word mask data
    | some k =>
      if b.hold && !(d.held && page != pgEVT) && !inWindow && decide (8 ≤ word) && hasHeldFields k && i.present then
        let fs := (fieldsOf k.sp).filterMap (fun f => (fldInstance f k.word).map (fun n => (f, n)))
        let w := (d.regs.word k &&& ~~~mask) ||| (data &&& mask)
        if fs.any (fun x => d.fate p page i x.1 x.2 mask w == .role) then d.roleError p page (8 * word)
        else if 64 ≤ b.writes.length then
          (d.setHold p page { b with overflow := true }).configError page (8 * word)
        else d.setHold p page { b with writes := b.writes ++ [⟨8 * word, mask, data⟩] }
      else d.writeWord p page word mask data

/-- Whether the register at a page offset is one of the 32-bit registers of the header (18 R583). -/
def isNarrow (off : Nat) : Bool := within 0x008 0x017 off || within 0x028 0x02F off || within 0x038 0x03F off

/-- A write of 64 or 32 bits at a page offset. Two 32-bit writes of a 64-bit register, low half first, act when the high
half is written (00 R14); a high half with no low half before it keeps the low half in force. A low half stays pending over
Notches, reads and whole writes of the register until a high half comes (DESIGN CHOICE, notes/assumptions/7). -/
def Dev.busWrite (d : Dev) (p : Path) (page off : Nat) (wide : Bool) (data : Word) : Dev :=
  let word := off % 4096 / 8
  if wide then d.serveWrite p page word (BitVec.allOnes 64) data
  else if isNarrow (off % 4096) then
    (if off % 8 < 4 then d.serveWrite p page word lowHalf data
     else d.serveWrite p page word highHalf (data <<< 32))
  else if off % 8 < 4 then
    { d with acc := { d.acc with low := assocSet d.acc.low (p.bank, page, word) (data &&& lowHalf) } }
  else
    match assoc d.acc.low (p.bank, page, word) with
    | some l =>
      ({ d with acc := { d.acc with low := assocDel d.acc.low (p.bank, page, word) } }).serveWrite p page word
        (BitVec.allOnes 64) ((data <<< 32) ||| l)
    | none => d.serveWrite p page word highHalf (data <<< 32)

/-- A read of DIAL.NOTCH_COUNT loads the latch with the dial time of the Notch (01 R57). -/
def Dev.loadLatch (d : Dev) : Dev := (d.put R.DIAL_LATCH_SEC_SEC d.dial.sec).put R.DIAL_LATCH_NS_NS d.dial.ns

/-- A read of 64 or 32 bits at a page offset: its value, and the device with the RC fields of the whole register cleared
when the read is whole and the path may clear (00 R14, R18; 18 R590). A read of DIAL.NOTCH_COUNT by any path that reaches
the page loads the latch (01 R57). -/
def Dev.busRead (d : Dev) (p : Path) (page off : Nat) (wide : Bool) : Word × Dev :=
  let word := off % 4096 / 8
  let v := d.readWord p page word
  let d0 := if page = pgDIAL ∧ word = 12 then (d.touch p).loadLatch else d.touch p
  let d1 : Dev := if (pageInfo d.variant page).any PageInfo.isFactory then { d0 with fresh := d0.fresh + 512 } else d0
  if wide then
    match pageInfo d.variant page with
    | none => (v, d1)
    | some i =>
      if !i.present || !d.mayClear p page then (v, d1)
      else
        match pagePlace d.start p i word with
        | some k => (v, if 8 ≤ word ∧ !d.frozenWord i k then (d1.clearWord k).readPeak k else d1)
        | none => (v, d1)
  else if off % 8 < 4 then (v &&& lowHalf, d1)
  else (v >>> 32, d1)

/-- A write of a register that has a row of its own, on a page whose fields are RWL: the checks of R588, R504 and R537
around its effect `f`, which says too whether the write was performed, and the journal record of a performed one. -/
def Dev.guarded (d : Dev) (p : Path) (page off : Nat) (k : Key) (f : Dev → Dev × Bool) : Dev :=
  match pageInfo d.variant page with
  | none => d
  | some i =>
    if !i.present || !d.reaches p page || (d.held && page != pgEVT) then d
    else if !rolePasses (d.role p) i.role then d.roleError p page off
    else if d.journals p i.audit && d.journalFull then (d.journalRefuse).configError page off
    else
      let r := f d
      if r.2 && d.journals p i.audit then r.1.journal p 1 page off (d.regs.word k) (r.1.regs.word k) else r.1

/-- The STATUS field of the command register of a page. -/
def cmdStatus (sp : Space) : Option Fld :=
  match sp with
  | .DIAL => some R.DIAL_STEP_CMD_STATUS
  | .LANEGRP => some R.LANEGRP_CMD_STATUS
  | .WAKE => some R.WAKE_CMD_STATUS
  | .GLEN => some R.GLEN_CMD_STATUS
  | .GPHYS => some R.GPHYS_DBG_CMD_STATUS
  | .TABLE => some R.TABLE_CMD_STATUS
  | .SCHED => some R.SCHED_CMD_STATUS
  | .HOST => some R.HOST_CMD_STATUS
  | .INST => some R.INST_CMD_STATUS
  | .CRYPTO => some R.CRYPTO_CMD_STATUS
  | .MOVER => some R.MOVER_CMD_STATUS
  | .EVT => some R.EVT_HOST_EOI_STATUS
  | .HEALTH => some R.HEALTH_CMD_STATUS
  | .ROLE => some R.ROLE_KEY_CMD_STATUS
  | .SSTORE => some R.SSTORE_CMD_STATUS
  | .BOOT => some R.BOOT_CMD_STATUS
  | _ => none

/-- The readback of a command register: the CODE and arguments of the word written, and a status. -/
def readbackOf (now w : Word) (k : Key) (f : Fld) (st : Nat) : Word :=
  let m := (fieldsOf k.sp).foldl (fun (m : Word) g =>
    if g.acc = .cmd ∧ (fldInstance g k.word).isSome then m.withField g.lo g.w (2 ^ g.w - 1) else m) 0
  ((now &&& ~~~m) ||| (w &&& m)).withField f.lo f.w st

/-- The device `d1` after a command on `d`, whose field reads back the arguments as a plain write gave them, those that the
command does not use included (00 R15; 18 R591). -/
def Dev.argsWritten (d d1 : Dev) (k : Key) : Dev :=
  match d.acc.cmdWord, cmdStatus k.sp with
  | some w, some f =>
    let fix := fun (x : Word) => readbackOf x w k f (x.field f.lo f.w)
    let d2 := { d1.putWord k (fix (d1.word k)) with acc := { d1.acc with cmdWord := none } }
    if assoc d1.cmds k = assoc d.cmds k then d2
    else { d2 with cmds := match assoc d1.cmds k with | some x => assocSet d1.cmds k (fix x) | none => d1.cmds }
  | _, _ => d1

/-- A command accepted and completed: its readback stands from the next Notch on, and until then its field takes no other
(00 R20). One that goes on is in `cmds`. -/
def Dev.ranNow (d : Dev) (k : Key) : Dev :=
  match cmdStatus k.sp with
  | some f =>
    if (d.word k).field f.lo f.w = 0 ∧ !d.cmdBusy k then
      { d with acc := { d.acc with ran := assocSet d.acc.ran k (d.word k) } }
    else d
  | none => d

/-- A write of one field as a row of its own makes it: held like any other while the path's UPD_CTRL.HOLD is 1 (18 R592), else
performed by `f`. -/
def Dev.ownWrite (d : Dev) (p : Path) (page : Nat) (fld : Fld) (u i v : Nat) (f : Dev → Dev × Bool) : Dev :=
  let k := fldKey fld u i
  if (d.holdBank p page).hold && d.reaches p page then
    d.serveWrite p page k.word ((0 : Word).withField fld.lo fld.w (2 ^ fld.w - 1)) ((0 : Word).withField fld.lo fld.w v)
  else d.guarded p page (8 * k.word) k f

/-- A write of a CMD field (18 R588, R591; 00 R20; 16 R537): discarded on an absent page and in Safe Hold, a ROLE error
from a path whose role is below the page's WRITE_ROLE, refused with BUSY by `busy` while the journal must take it and is
full or has no room for all the records it would make, or while a command of its field was accepted in the Notch (00 R20), and
otherwise performed by `f` and journaled with the readback before and after. HEALTH.CMD and the EVT page act in Safe Hold too
(15 R504). In RECOVERY the commands of other pages than ROLE, HEALTH and SSTORE are refused with BUSY (17 R565). -/
def Dev.command (d : Dev) (p : Path) (page off : Nat) (k : Key) (busy f : Dev → Dev) : Dev :=
  match pageInfo d.variant page with
  | none => d
  | some i =>
    if !i.present || !d.reaches p page || (d.held && page != pgEVT && page != pgHEALTH) then d
    else if !rolePasses (d.role p) i.role then d.roleError p page off
    else if d.journals p i.audit && d.journalFull then d.argsWritten (busy (d.journalRefuse)) k
    else if d.stage == bsRecovery && page != pgROLE && page != pgHEALTH && page != pgSSTORE || (assoc d.acc.ran k).isSome then
      d.argsWritten (busy d) k
    else
      let d1 := (d.argsWritten (f (d.touch p)) k).ranNow k
      let d2 := if d.journals p i.audit then
        d1.journalAs (d.role p) (d.sessionNo p) p 1 page off (d.regs.word k) (d1.regs.word k) else d1
      if d.overfilled d2 then d.argsWritten (busy (d.journalRefuse)) k else d2

/-! ### The commands of this family -/

/-- A write of the MSI-X table of a VF through its BAR0 (10 R356; 11 R393; 15 R504). -/
def Dev.vfBarWrite (d : Dev) (i off : Nat) (wide : Bool) (data : Word) : Dev :=
  if d.held then d
  else if d.instHeld i then d.configError (pgINST i) off
  else if wide then d.vfWrite i off (BitVec.allOnes 64) data
  else if off % 8 < 4 then d.vfWrite i off lowHalf data
  else d.vfWrite i off highHalf (data <<< 32)

/-- A read of the MSI-X table or pending bits of a VF through its BAR0. -/
def Dev.vfBarRead (d : Dev) (i off : Nat) (wide : Bool) : Word :=
  let w := d.atStart.vfWord i off
  if wide then w else if off % 8 < 4 then w &&& lowHalf else w >>> 32

/-- RC_READ (00 R18): a register read is served, and clears the RC fields it returns. -/
def execRcRead (path : Path) (page off : Nat) (wide : Bool) (s : State) : Host.Outcome State Fault Refusal :=
  s.act (fun d => if !d.barOpen path then d.emit (.unsupported path) else
    match path with
    | .vf i =>
      if 0x1000 ≤ off then d.emit (.readData path (pgINST i) off (d.vfBarRead i off wide))
      else
        let r := d.busRead path (pgINST i) off wide
        r.2.emit (.readData path (pgINST i) off r.1)
    | _ =>
      let r := d.busRead path page off wide
      r.2.emit (.readData path page (off % 4096) r.1))

/-- Whether an acknowledgement of a page is accepted from a path (15 R499, R500); of a factory page only from a maker session
(18 R604). -/
def Dev.mayAck (d : Dev) (p : Path) (page : Nat) : Bool :=
  if 4096 ≤ page then (match p with | .operator _ => true | _ => false)
  else if (pageInfo d.variant page).any PageInfo.isFactory then rolePasses (d.role p) 3
  else decide (1 ≤ d.role p)

/-- Control firmware acknowledges the page: its source is routed to the control cores, and no FATAL error stands (15 R500). -/
def Dev.firmwareAcks (d : Dev) (page : Nat) : Bool :=
  d.get R.HDR_ERR_MORE_MAX_SEV page != 3 && d.getStart R.SRC_W0_ROUTE (256 + page) == 0

/-- ERR_ACK (15 R498): a 1 is written to ERR_FIRST.VALID of a page. -/
def execErrAck (path : Path) (page : Nat) (s : State) : Host.Outcome State Fault Refusal :=
  s.act (fun d0 =>
    let d := d0.touch path
    match pageInfo d.variant page with
    | none => d
    | some i =>
      if !i.present || !d.reaches path page then d
      else if !d.mayAck path page then d.roleError path page 0x18
      else if path == .firmware && !d.firmwareAcks page then d
      else if i.audit && d.journalFull then (d.journalRefuse).configError page 0x18
      else
        let d1 : Dev := { d with errs := { d.errs with acked := d.errs.acked ++ [page] } }
        let d2 := (d1.remakeErr page).countFatal
        if i.audit then d2.journal path 3 page 0x18 (d.word ⟨.HDR, page, 3⟩) (d2.word ⟨.HDR, page, 3⟩) else d2)

/-- UPD_CTRL of a path's bank on a page written, with its journal record (18 R592; 00 R11; 16 R537). -/
def Dev.updControl (d : Dev) (p : Path) (page : Nat) (i : PageInfo) (b : HoldBank) : Dev :=
  if d.journals p i.audit then
    (if d.journalFull then (d.journalRefuse).configError page 0x3C
     else (d.setHold p page b).journal p 1 page 0x3C (BitVec.ofNat 64 (d.holdBank p page).word) (BitVec.ofNat 64 b.word))
  else d.setHold p page b

/-- Whether a path may write UPD_CTRL of a page at all (18 R588, R604). -/
def Dev.mayHold (d : Dev) (p : Path) (page : Nat) (i : PageInfo) : Bool :=
  if i.isFactory then rolePasses (d.role p) 3 else d.role p != 0 || ownPage p page

/-- UPD_HOLD (18 R592): 1 is written to UPD_CTRL.HOLD, with DROP as given. -/
def execUpdHold (path : Path) (page : Nat) (drop : Bool) (s : State) : Host.Outcome State Fault Refusal :=
  s.act (fun d0 =>
    let d := d0.touch path
    match pageInfo d.variant page with
    | none => d
    | some i =>
      if !i.present || !d.reaches path page || (d.held && page != pgEVT) then d
      else if !d.mayHold path page i then d.roleError path page 0x3C
      else if path.isVf && d.instHeld i.unit then d.configError page 0x3C
      else if !holdOk i path then d.configError page 0x3C
      else
        let b := d.holdBank path page
        let b1 : HoldBank := if b.hold then { b with drop := drop }
          else { hold := true, drop := drop, overflow := false, writes := [] }
        d.updControl path page i b1)

end Sys2Proof.Machine
end

