-- ==== Sys2Proof/Machine/Dial.lean ====
section
/-! DEFINITION. The dial unit: sources and lock states, slew, steps, the PPS pins, and the advance of dial time at a
Notch boundary (spec/01_dial_and_notch.md). -/

namespace Sys2Proof.Machine

/-- Nanoseconds in a second. -/
def nsPerSec : Nat := 1000000000

/-- Dial time `ns` nanoseconds later; the seconds go on past 2^48 - 1 (DESIGN CHOICE, notes/assumptions/141). -/
def timeAdd (t : Nat × Nat) (ns : Nat) : Nat × Nat :=
  ((t.1 * nsPerSec + t.2 + ns) / nsPerSec, (t.1 * nsPerSec + t.2 + ns) % nsPerSec)

/-- A dial time as one number of nanoseconds. -/
def timeNs (t : Nat × Nat) : Nat := t.1 * nsPerSec + t.2

/-- The dial time of the running Notch. -/
def Dev.now (d : Dev) : Nat × Nat := (d.dial.sec, d.dial.ns)

/-- STATE values (R56). -/
def stUNLOCKED : Nat := 0
def stACQUIRING : Nat := 1
def stLOCKED : Nat := 2
def stHOLDOVER : Nat := 3

/-- DIAL.STATUS.STATE set, with the events of leaving and reaching LOCKED and of the end of HOLDOVER (R63). -/
def Dev.setLock (d : Dev) (st : Nat) : Dev :=
  let old := d.get R.DIAL_STATUS_STATE
  let d1 := d.put R.DIAL_STATUS_STATE st
  let d2 := if old = stLOCKED ∧ st ≠ stLOCKED then d1.raise R.DIAL_EVENTS_LOCK_LOST else d1
  let d3 := if old = stHOLDOVER ∧ st = stUNLOCKED then d2.raise R.DIAL_EVENTS_HOLDOVER_END else d2
  if st = stLOCKED ∧ old ≠ stLOCKED then d3.raise R.DIAL_EVENTS_LOCK_GAINED else d3

/-- A port is in service in the current port mode (03 R87, R92). -/
def Dev.portInService (d : Dev) (p : Nat) : Bool :=
  decide (p < d.variant.lanes) && d.get R.PORT_STATUS_LINK p != 3

/-- SLEW_WRITE (R26, R27, R32): DIAL.SLEW is written with the signed rate `ppb`. -/
def execSlewWrite (path : Path) (ppb : Word) (s : State) : Host.Outcome State Fault Refusal :=
  s.act (fun d => (d.touch path).guarded path pgDIAL 0x78 ⟨.DIAL, 0, 15⟩ (fun d =>
    if d.get R.DIAL_CTRL_SRC != 0 && path != .firmware then (d.configError pgDIAL 0x78, false)
    else
      let v := signed 32 ppb.toNat
      (if v < -1000000 then (d.put R.DIAL_SLEW_PPB (unsigned 32 (-1000000))).raise R.DIAL_EVENTS_SLEW_CLAMPED
       else if 1000000 < v then (d.put R.DIAL_SLEW_PPB 1000000).raise R.DIAL_EVENTS_SLEW_CLAMPED
       else d.put R.DIAL_SLEW_PPB (unsigned 32 v), true)))

/-- DIAL_CTRL_WRITE (R33, R34, R55): DIAL.CTRL is written. A change of the source discards the accepted time-of-day message
and the edge not yet evaluated (DESIGN CHOICE, notes/assumptions/113). -/
def execDialCtrlWrite (path : Path) (data : Word) (s : State) : Host.Outcome State Fault Refusal :=
  s.act (fun d => (d.touch path).guarded path pgDIAL 0x40 ⟨.DIAL, 0, 8⟩ (fun d =>
    let old := d.get R.DIAL_CTRL_SRC
    let want := data.field 0 2
    let src := if want = 3 then old else want
    let port := data.field 2 4
    if src = 1 ∧ !d.portInService port then (d.configError pgDIAL 0x40, false)
    else
      let d1 := ((d.put R.DIAL_CTRL_SRC src).put R.DIAL_CTRL_PTP_PORT port).put R.DIAL_STATUS_SRC_ACTIVE src
      let d2 :=
        if src = old then d1
        else
          { (d1.setLock (if src = 0 then stUNLOCKED else stACQUIRING)) with
            dial := { d1.dial with
              goodRun := 0, badRun := 0, lastValid := d.dial.notch, tod := none, edgeSample := none } }
      (if want = 3 then d2.configError pgDIAL 0x40 else d2, true)))

/-- Dial time after a step issued at time `t`, where it is in range. -/
def stepTarget (t : Nat × Nat) : DialStep → Option (Nat × Nat)
  | .rel sec ns =>
    let n : Int := (timeNs t : Int) + 64 + sec * (nsPerSec : Int) + ns
    if n < 0 ∨ (2 ^ 48 * nsPerSec : Int) ≤ n then none
    else some (n.toNat / nsPerSec, n.toNat % nsPerSec)
  | .abs sec ns => if sec < 2 ^ 48 then some (sec, ns) else none

/-- A servo step that its result's range allows (R46): the offset rounded toward 0 to a multiple of 64 ns. -/
def Dev.servoStep (d : Dev) (off : Int) : Option DialStep :=
  let st := DialStep.rel ((off.tdiv 64 * 64).tdiv nsPerSec) ((off.tdiv 64 * 64).tmod nsPerSec)
  if (stepTarget d.now st).isSome then some st else none

/-- A valid sample of offset `off` evaluated (R35, R37, R41). The sample that starts ACQUIRING is the first of its run. A
sample whose message is untraceable counts in the run of good samples and does not end it (DESIGN CHOICE,
notes/assumptions/113). A step that the servo issues is journaled (16 R525). -/
def Dev.sample (d : Dev) (off : Int) (untraceable : Bool) : Dev :=
  let lim := d.get R.DIAL_SERVO_CFG_LOCK_THRESH_NS
  let good : Bool := decide (off.natAbs ≤ lim)
  let bad : Bool := decide (4 * lim < off.natAbs)
  let st := d.get R.DIAL_STATUS_STATE
  let fresh : Bool := st == stUNLOCKED || st == stHOLDOVER
  let g := if good then (if fresh then 0 else d.dial.goodRun) + 1 else 0
  let b := if bad then (if fresh then 0 else d.dial.badRun) + 1 else 0
  let st' :=
    if st = stLOCKED then (if 4 ≤ b ∨ untraceable then stACQUIRING else stLOCKED)
    else if 16 ≤ g ∧ !untraceable then stLOCKED else stACQUIRING
  let g' := if st = stLOCKED ∧ st' = stACQUIRING then 0 else g
  let big : Bool := decide (d.get R.DIAL_SERVO_CFG_STEP_THRESH_US * 1000 < off.natAbs)
  let step : Option DialStep :=
    if (big || !d.dial.sampled) && d.dial.stepPending.isNone && !d.journalFull then d.servoStep off else none
  let sat : Int := max (-2147483648) (min 2147483647 off)
  let d1 := (d.put R.DIAL_STATUS_OFFSET_NS (unsigned 32 sat)).setLock st'
  let d2 : Dev := { d1 with dial := { d1.dial with
      goodRun := g', badRun := b, lastValid := d.dial.notch, sampled := d.dial.sampled || !d.journalFull } }
  match step with
  | none => d2
  | some x =>
    let w := d.regs.word ⟨.DIAL, 0, 18⟩
    ({ d2 with dial := { d2.dial with stepPending := some x } } : Dev).journalAs 4 0 .firmware 11 pgDIAL 0x90 w w

/-- SERVO_SAMPLE (R35, R37, R41): with SRC at PTP, the offset measured on the PTP port; with SRC at PPS_TOD, the latest
edge against the message applied to it, where there is one. -/
def execServoSample (offset : Int) (s : State) : Host.Outcome State Fault Refusal :=
  s.act (fun d =>
    let src := d.get R.DIAL_CTRL_SRC
    if src = 1 then
      (if d.portInService (d.get R.DIAL_CTRL_PTP_PORT) then d.sample offset false else d)
    else if src = 2 then
      (match d.dial.edgeSample with
       | some (o, u) => ({ d with dial := { d.dial with edgeSample := none } }).sample o u
       | none => d)
    else d)

/-- SRC_TIMEOUT (R35): SRC_TIMEOUT Notches have passed without a valid sample. With HOLDOVER_S 0 the state becomes UNLOCKED
at once (R59), and HOLDOVER_END is set (DESIGN CHOICE, notes/assumptions/113). -/
def execSrcTimeout (s : State) : Host.Outcome State Fault Refusal :=
  s.act (fun d =>
    let st := d.get R.DIAL_STATUS_STATE
    if d.get R.DIAL_CTRL_SRC != 0 &&
        decide (d.get R.DIAL_SERVO_CFG_SRC_TIMEOUT ≤ d.dial.notch - d.dial.lastValid) then
      if st = stLOCKED then
        (if d.get R.DIAL_SERVO_CFG_HOLDOVER_S = 0 then (d.setLock stUNLOCKED).raise R.DIAL_EVENTS_HOLDOVER_END
         else { (d.setLock stHOLDOVER) with dial := { d.dial with holdFrom := d.now, goodRun := 0, badRun := 0 } })
      else if st = stACQUIRING then
        { (d.setLock stUNLOCKED) with dial := { d.dial with goodRun := 0, badRun := 0 } }
      else d
    else d)

/-- HOLDOVER_END (R35): HOLDOVER_S seconds of dial time have passed in HOLDOVER. -/
def execHoldoverEnd (s : State) : Host.Outcome State Fault Refusal :=
  s.act (fun d =>
    if d.get R.DIAL_STATUS_STATE = stHOLDOVER ∧
        d.get R.DIAL_SERVO_CFG_HOLDOVER_S * nsPerSec ≤ timeNs d.now - timeNs d.dial.holdFrom then
      d.setLock stUNLOCKED
    else d)

/-- The dial time at which the running Notch would have begun without a step at its boundary. -/
def Dev.unstepped (d : Dev) : Nat × Nat := d.dial.stepped.getD d.now

/-- PPS_IN_EDGE (R24, R38, R40, R41, 14 R477): the pin rose `sub` ns into the Notch that has ended. An edge before the window
of the expected one leaves that window as it is. -/
def execPpsInEdge (sub : Nat) (s : State) : Host.Outcome State Fault Refusal :=
  s.act (fun d =>
    let t := timeNs d.unstepped - 64 + sub % 64
    let stamp := (t / nsPerSec, t % nsPerSec)
    let smp := d.dial.tod.map (fun m => ((m.sec * nsPerSec : Int) - (t : Int), m.untraceable))
    let d1 := (((d.put R.DIAL_PPS_IN_SEC_SEC stamp.1).put R.DIAL_PPS_IN_NS_NS stamp.2).count
      R.DIAL_PPS_CNT_EDGES 1).request 80
    let early : Bool := match d.dial.watch with
      | some w => decide (t < timeNs w + 999900000)
      | none => false
    { d1 with dial := { d1.dial with
        lastEdge := some stamp, watch := if early then d.dial.watch else some stamp, tod := none, edgeSample := smp } })

/-- PPS_MISSED (R41): in PPS_TOD mode no edge came between 999,900,000 and 1,000,100,000 ns after the previous one. The next
window is counted from an edge that came before the window, where one did, else from where the missed edge was due
(DESIGN CHOICE, notes/assumptions/11); a window open before the source was selected stays (DESIGN CHOICE,
notes/assumptions/143). -/
def execPpsMissed (s : State) : Host.Outcome State Fault Refusal :=
  s.act (fun d =>
    match d.dial.watch with
    | some t =>
      if d.get R.DIAL_CTRL_SRC = 2 ∧ timeNs t + 1000100000 < timeNs d.now then
        let d1 := (d.count R.DIAL_PPS_CNT_MISSED 1).raise R.DIAL_EVENTS_PPS_MISSED
        let next := match d.dial.lastEdge with
          | some e => if timeNs t < timeNs e then e else timeAdd t nsPerSec
          | none => timeAdd t nsPerSec
        { d1 with dial := { d1.dial with watch := some next } }
      else d
    | none => d)

/-! ### The time-of-day message (R39) -/

/-- A decimal digit's value. -/
def decDigit (b : Byte) : Option Nat := if within 0x30 0x39 b.toNat then some (b.toNat - 0x30) else none

/-- A hexadecimal digit's value; lower case only where `lower`. -/
def hexDigit (lower : Bool) (b : Byte) : Option Nat :=
  if within 0x30 0x39 b.toNat then some (b.toNat - 0x30)
  else if within 0x41 0x46 b.toNat then some (b.toNat - 0x41 + 10)
  else if lower && within 0x61 0x66 b.toNat then some (b.toNat - 0x61 + 10)
  else none

/-- The number that decimal digits spell. -/
def decNat (bs : List Byte) : Option Nat :=
  bs.foldl (fun acc b => match acc, decDigit b with | some n, some x => some (10 * n + x) | _, _ => none) (some 0)

/-- Two hexadecimal digits. -/
def hexPair (lower : Bool) (a b : Byte) : Option Nat :=
  match hexDigit lower a, hexDigit lower b with
  | some x, some y => some (16 * x + y)
  | _, _ => none

/-- The ASCII bytes of "KXTOD,". -/
def todTag : List Byte := [0x4B, 0x58, 0x54, 0x4F, 0x44, 0x2C]

/-- The message of R39, read: its body between the dollar sign and the star, then the fields of the body. -/
def parseTod (line : List Byte) : Option Tod :=
  match line with
  | [] => none
  | b0 :: rest =>
    if b0 ≠ 0x24 then none
    else
      let body := rest.takeWhile (fun b => b ≠ 0x2A)
      let xorAll : Byte := body.foldl (fun x b => x ^^^ b) 0
      match rest.drop body.length with
      | [_, c1, c2, 0x0D, 0x0A] =>
        if hexPair false c1 c2 ≠ some xorAll.toNat ∨ body.take 6 ≠ todTag then none
        else
          let fields := body.drop 6
          let digits := fields.takeWhile (fun b => b ≠ 0x2C)
          match fields.drop digits.length with
          | [_, f1, f2] =>
            if digits.length = 0 ∨ 15 < digits.length then none
            else
              (match decNat digits, hexPair true f1 f2 with
               | some n, some fl => if n < 2 ^ 48 then some ⟨n, fl % 2 == 1⟩ else none
               | _, _ => none)
          | _ => none
      | _ => none

/-- TOD_MESSAGE (R39, R40): the bytes of one line have arrived on the management UART, its last at the start of the running Notch
(DESIGN CHOICE, notes/assumptions/142). -/
def execTodMessage (line : List Byte) (s : State) : Host.Outcome State Fault Refusal :=
  s.act (fun d =>
    let d := d.arrives 195
    let timely : Bool := match d.dial.lastEdge with
      | some t => within (timeNs t + 100000000) (timeNs t + 900000000) (timeNs d.now)
      | none => false
    match parseTod line, timely with
    | some m, true =>
      let d1 := d.count R.DIAL_PPS_CNT_TOD_GOOD 1
      { d1 with dial := { d1.dial with tod := some m } }
    | _, _ => (d.count R.DIAL_PPS_CNT_TOD_BAD 1).raise R.DIAL_EVENTS_TOD_BAD)

/-- PPS_OUT is held low (R43). -/
def Dev.ppsIdle (d : Dev) : Bool :=
  d.get R.DIAL_STATUS_STATE == stUNLOCKED && d.flag R.DIAL_PPS_OUT_CFG_IDLE

/-- PPS_OUT_RISE (R42 to R44): a second boundary of dial time at which PPS_OUT is low. -/
def execPpsOutRise (s : State) : Host.Outcome State Fault Refusal :=
  s.act (fun d =>
    if d.flag R.DIAL_PPS_OUT_CFG_EN && d.dial.ns == 0 && !d.dial.ppsOut && !d.ppsIdle then
      ({ d with dial := { d.dial with ppsOut := true,
                                      ppsEnd := d.dial.notch + d.get R.DIAL_PPS_OUT_CFG_WIDTH } }).emit
        (.ppsOut true (d.get R.DIAL_PPS_OUT_CFG_ADV_NS))
    else d)

/-- PPS_OUT_FALL (R42, R44): the pulse has lasted WIDTH Notches from its rising edge. A pulse that is high when EN is written
0 or WIDTH is changed lasts the WIDTH in force at its rise (DESIGN CHOICE, notes/assumptions/12). -/
def execPpsOutFall (s : State) : Host.Outcome State Fault Refusal :=
  s.act (fun d =>
    if d.dial.ppsOut && decide (d.dial.ppsEnd ≤ d.dial.notch) then
      ({ d with dial := { d.dial with ppsOut := false } }).emit (.ppsOut false 0)
    else d)

/-! ### Steps (R45 to R49) -/

/-- The readback of DIAL.STEP_CMD. -/
def Dev.stepStatus (d : Dev) (code st : Nat) : Dev :=
  (d.put R.DIAL_STEP_CMD_CODE code).put R.DIAL_STEP_CMD_STATUS st

/-- A step command: OWNED, BUSY, ALIGN, RANGE or accepted, in that order (R20, R32, R46, R58). -/
def Dev.stepCommand (d : Dev) (p : Path) (code : Nat) (aligned inRange : Bool) (st : DialStep) : Dev :=
  d.command p pgDIAL 0x90 ⟨.DIAL, 0, 18⟩ (fun d => d.stepStatus code 1) (fun d =>
    if d.get R.DIAL_CTRL_SRC != 0 && p != .firmware then d.stepStatus code 4
    else if d.dial.stepPending.isSome then d.stepStatus code 1
    else if !aligned then d.stepStatus code 2
    else if !inRange || (stepTarget d.now st).isNone then d.stepStatus code 3
    else
      let d1 : Dev := { d with dial := { d.dial with stepPending := some st } }
      let d2 := (d1.stepStatus code 0).cmdStart ⟨.DIAL, 0, 18⟩
      if p == .firmware then
        d2.journal p 11 pgDIAL 0x90 (d.regs.word ⟨.DIAL, 0, 18⟩) (d2.regs.word ⟨.DIAL, 0, 18⟩)
      else d2)

/-- STEP_REL (R45, R46): a relative step by STEP_ARG_SEC and STEP_ARG_NS. -/
def execStepRel (path : Path) (s : State) : Host.Outcome State Fault Refusal :=
  s.act (fun d =>
    let sec := d.getInt R.DIAL_STEP_ARG_SEC_SEC
    let ns := d.getInt R.DIAL_STEP_ARG_NS_NS
    d.stepCommand path 1 (ns % 64 == 0) (decide (-999999936 ≤ ns) && decide (ns ≤ 999999936)) (.rel sec ns))

/-- SET_ABS (R45, R46): dial time is set to STEP_ARG_SEC and STEP_ARG_NS. -/
def execSetAbs (path : Path) (s : State) : Host.Outcome State Fault Refusal :=
  s.act (fun d =>
    let sec := d.get R.DIAL_STEP_ARG_SEC_SEC
    let ns := d.get R.DIAL_STEP_ARG_NS_NS
    d.stepCommand path 2 (ns % 64 == 0) (decide (ns ≤ 999999936)) (.abs sec ns))

/-- NOTCH_COUNT_READ (R57; 18 R580): DIAL.NOTCH_COUNT is read, and the latch is loaded with the dial time of the Notch. A
tenant's VF does not reach the page. -/
def execNotchCountRead (path : Path) (s : State) : Host.Outcome State Fault Refusal :=
  s.act (fun d => if !d.barOpen path then d.emit (.unsupported path) else if path.isVf then d else
    (d.touch path).loadLatch.emit
      (.readData path pgDIAL 0x60 (BitVec.ofNat 64 d.dial.notch)))

/-- A pulse ends where PPS_OUT is held low (R43). -/
def Dev.holdPps (d : Dev) : Dev :=
  if d.dial.ppsOut && d.ppsIdle then ({ d with dial := { d.dial with ppsOut := false } }).emit (.ppsOut false 0) else d

/-- A pending step taken at a boundary at which dial time would be `plain`: dial time, the latch, STEPS, STEPPED and the readback
of the command that issued it (R45, R49; 00 R20). -/
def Dev.takeStep (d : Dev) (plain : Nat × Nat) (st : DialStep) : Dev :=
  let t := (stepTarget d.now st).getD plain
  let d1 := (((d.put R.DIAL_LATCH_SEC_SEC plain.1).put R.DIAL_LATCH_NS_NS plain.2).count
    R.DIAL_STATUS_STEPS 1).raise R.DIAL_EVENTS_STEPPED
  let d2 := d1.cmdFinish R.DIAL_STEP_CMD_STATUS 0
  { d2 with dial := { d2.dial with sec := t.1, ns := t.2, stepPending := none } }

/-- A pending step taken while a start applies its settings (17 R566). -/
def Dev.settleStep (d : Dev) : Dev :=
  match d.dial.stepPending with
  | some st => d.takeStep d.now st
  | none => d

/-- The Notch boundary in the dial unit: the Notch count rises by 1, and dial time advances by 64 ns or as a pending step
says, with the latch, STEPS, STEPPED and the readback of the command that issued it (R21, R23, R45, R49; 00 R20). -/
def Dev.tickDial (d0 : Dev) : Dev :=
  let d := d0.holdPps
  let plain := timeAdd d.now 64
  match d.dial.stepPending with
  | none =>
    { d with dial := { d.dial with notch := d.dial.notch + 1, sec := plain.1, ns := plain.2, stepped := none } }
  | some st =>
    let d1 := d.takeStep plain st
    { d1 with dial := { d1.dial with notch := d.dial.notch + 1, stepped := some plain } }

end Sys2Proof.Machine
end

