-- ==== Sys2Proof/Machine/Reasons.lean ====
section
/-! DEFINITION. Replacement reasons, the REPLACE_REQ# pin and the PLDM events that report them
(spec/15_faults.md R513 to R517). -/

namespace Sys2Proof.Machine

/-- The 24 bytes of event data of R517. -/
def Dev.eventData (d : Dev) (kind code : Nat) : List Byte :=
  [1, BitVec.ofNat 8 kind, BitVec.ofNat 8 code, 0] ++ leBytes 2 (d.get R.HEALTH_REPLACE_REASONS) ++
    leBytes 8 d.dial.notch ++ leBytes 6 d.dial.sec ++ leBytes 4 d.dial.ns

/-- A PLDM platform event: sent to the receiver, or held, the latest 16, when none is set (R517). -/
def Dev.pldmEvent (d : Dev) (kind code : Nat) : Dev :=
  let data := d.eventData kind code
  match d.health.receiver with
  | some (bus, eid) => d.mctpEmit bus (.event bus eid 0xF0 data)
  | none =>
    let evs := d.health.events ++ [data]
    { d with health := { d.health with events := evs.drop (evs.length - 16) } }

/-- The REPLACE_REQ# pin follows REASONS (R515). -/
def Dev.replacePin (d : Dev) (before : Nat) : Dev :=
  let now := d.get R.HEALTH_REPLACE_REASONS
  if before = 0 ∧ now ≠ 0 then d.emit (.pin "REPLACE_REQ#" false)
  else if before ≠ 0 ∧ now = 0 then d.emit (.pin "REPLACE_REQ#" true)
  else d

/-- Reason `r` set (R514). Where another reason ended in the same Notch and REASONS was not 0 when it began, REASON and NOTCH
stay as they were (R518). -/
def Dev.setReason (d : Dev) (r : Nat) : Dev :=
  let old := d.get R.HEALTH_REPLACE_REASONS
  if old.testBit r then d
  else
    let d1 := d.put R.HEALTH_REPLACE_REASONS (old ||| 2 ^ r)
    let d2 :=
      if old ≠ 0 then d1
      else if d.getStart R.HEALTH_REPLACE_REASONS = 0 then
        (d1.put R.HEALTH_REPLACE_REASON r).put R.HEALTH_REPLACE_NOTCH d.dial.notch
      else (d1.put R.HEALTH_REPLACE_REASON (d.getStart R.HEALTH_REPLACE_REASON)).put R.HEALTH_REPLACE_NOTCH
        (d.getStart R.HEALTH_REPLACE_NOTCH)
    ((d2.raiseBit R.HEALTH_EVENTS 0).replacePin old).pldmEvent 1 r

/-- Reason `r` cleared (R514). -/
def Dev.clearReason (d : Dev) (r : Nat) : Dev :=
  let old := d.get R.HEALTH_REPLACE_REASONS
  if !old.testBit r then d
  else
    let new := old ^^^ 2 ^ r
    let d1 := d.put R.HEALTH_REPLACE_REASONS new
    let d2 := if new = 0 then (d1.put R.HEALTH_REPLACE_REASON 0).put R.HEALTH_REPLACE_NOTCH 0 else d1
    (d2.replacePin old).pldmEvent 2 r

/-- A reason that follows a condition. -/
def Dev.followReason (d : Dev) (r : Nat) (holds : Bool) : Dev := if holds then d.setReason r else d.clearReason r

end Sys2Proof.Machine
end

