-- ==== Sys2Proof/Machine/Ticket.lean ====
section
/-! DEFINITION. The packet ticket's fields (02 R69). -/

namespace Sys2Proof.Machine

/-- A field of the ticket: its quadword, lowest bit and width, and whether a parse program may change it. -/
structure TF where
  q : Nat
  lo : Nat
  w : Nat
  prog : Bool := false
deriving DecidableEq, Repr

def T.SEQ : TF := ⟨0, 0, 32, false⟩
def T.INGRESS : TF := ⟨0, 32, 5, false⟩
def T.SLOT : TF := ⟨0, 37, 4, false⟩
def T.EPOCH : TF := ⟨0, 41, 8, false⟩
def T.RECIRC : TF := ⟨0, 49, 2, false⟩
def T.HEAD_CELL : TF := ⟨1, 0, 20, false⟩
def T.CELLS : TF := ⟨1, 20, 7, false⟩
def T.LEN : TF := ⟨1, 27, 14, false⟩
def T.WIN_DELTA : TF := ⟨1, 41, 9, false⟩
def T.WIN_LEN : TF := ⟨1, 50, 9, false⟩
def T.ARRIVAL : TF := ⟨2, 0, 32, false⟩
def T.RX_TS_NS : TF := ⟨2, 32, 32, false⟩
def T.INSTANCE : TF := ⟨3, 0, 12, true⟩
def T.VRF : TF := ⟨3, 12, 12, true⟩
def T.CLASS : TF := ⟨3, 24, 3, true⟩
def T.COLOUR : TF := ⟨3, 27, 2, true⟩
def T.POLICER : TF := ⟨3, 29, 18, true⟩
def T.POL_VALID : TF := ⟨3, 47, 1, true⟩
def T.RX_TS_SEC : TF := ⟨3, 48, 8, false⟩
def T.DEST_TYPE : TF := ⟨4, 0, 3, true⟩
def T.DEST : TF := ⟨4, 3, 20, true⟩
def T.LEAF : TF := ⟨4, 23, 17, true⟩
def T.NEXT_TYPE : TF := ⟨4, 40, 3, true⟩
def T.NEXT : TF := ⟨4, 43, 20, true⟩
def T.FLOW_HASH : TF := ⟨5, 0, 32, true⟩
def T.L3_OFF : TF := ⟨5, 32, 8, true⟩
def T.L4_OFF : TF := ⟨5, 40, 8, true⟩
def T.INNER_OFF : TF := ⟨5, 48, 8, true⟩
def T.FRAG : TF := ⟨5, 56, 1, true⟩
def T.DEEP : TF := ⟨5, 57, 1, false⟩
def T.TUNNEL : TF := ⟨5, 58, 1, true⟩
def T.REPARSE : TF := ⟨5, 59, 1, true⟩
def T.TS_VALID : TF := ⟨5, 60, 1, false⟩
def T.PARTIAL : TF := ⟨5, 61, 1, false⟩
def T.ERR : TF := ⟨6, 0, 8, false⟩
def T.EDITS : TF := ⟨6, 8, 4, false⟩
def T.PUSH_BYTES : TF := ⟨6, 12, 7, false⟩
def T.POP_BYTES : TF := ⟨6, 19, 8, false⟩
def T.TAG : TF := ⟨7, 0, 64, true⟩

/-- Every field of the ticket, in the order of R69. -/
def ticketFields : List TF :=
  [T.SEQ, T.INGRESS, T.SLOT, T.EPOCH, T.RECIRC, T.HEAD_CELL, T.CELLS, T.LEN, T.WIN_DELTA, T.WIN_LEN, T.ARRIVAL,
    T.RX_TS_NS, T.INSTANCE, T.VRF, T.CLASS, T.COLOUR, T.POLICER, T.POL_VALID, T.RX_TS_SEC, T.DEST_TYPE] ++
  [T.DEST, T.LEAF, T.NEXT_TYPE, T.NEXT, T.FLOW_HASH, T.L3_OFF, T.L4_OFF, T.INNER_OFF, T.FRAG, T.DEEP, T.TUNNEL,
    T.REPARSE, T.TS_VALID, T.PARTIAL, T.ERR, T.EDITS, T.PUSH_BYTES, T.POP_BYTES, T.TAG]

/-- A quadword of a ticket. -/
def Ticket.quad (t : Ticket) (i : Nat) : Word := nth t.q i 0

/-- A field of a ticket. -/
def Ticket.get (t : Ticket) (f : TF) : Nat := (t.quad f.q).field f.lo f.w

/-- A ticket with a field set. -/
def Ticket.put (t : Ticket) (f : TF) (v : Nat) : Ticket :=
  { q := setNth t.q f.q ((t.quad f.q).withField f.lo f.w v) }

/-- A one-bit field. -/
def Ticket.flag (t : Ticket) (f : TF) : Bool := t.get f != 0

/-- A parse program may change a field of the ticket: one marked so, but not INSTANCE on ingress 16 and 17 (02 R69, R70). -/
def Ticket.programMay (t : Ticket) (f : TF) : Bool :=
  f.prog && !(f == T.INSTANCE && (t.get T.INGRESS == 16 || t.get T.INGRESS == 17))

/-- WIN_DELTA as a signed number. -/
def Ticket.delta (t : Ticket) : Int := signed 9 (t.get T.WIN_DELTA)

end Sys2Proof.Machine
end

