-- ==== Sys2Proof/Machine/Basin.lean ====
section
/-! DEFINITION. The Basin's cells, frames and accounts, and the operations on them that every unit shares
(spec/08_basin.md R284 to R293, 03 R108). -/

namespace Sys2Proof.Machine

/-- The data path runs: its units do, the device is not in Safe Hold, and no ENTER_STANDBY has emptied it (15 R503; 17 R561,
R565; 03 R115). -/
def Dev.flows (d : Dev) : Bool := d.runs && !d.holding && d.wake.leaving.isNone

/-- A data-path action: nothing happens before the data path runs, and in Safe Hold. -/
def State.live (s : State) (f : Dev → Dev) : Host.Outcome State Fault Refusal :=
  s.act (fun d => if d.flows then f d else d)

/-! ### Cells -/

/-- Cells held by nobody's frame but not free: granted, in frames, about to be freed, or leaked. -/
def Dev.usedCells (d : Dev) : List Nat :=
  d.basin.granted.map Prod.snd ++ (d.basin.frames.flatMap (fun f => f.cells.map Prod.fst)) ++
    (d.basin.freeing.flatMap (fun f => f.cells.map Prod.fst)) ++ d.basin.leaked

/-- Bank `b` is in service (R309). -/
def Dev.bankInService (d : Dev) (b : Nat) : Bool := !(d.get R.BASIN_CELLS_TOTAL_BANKS_OUT).testBit b

/-- The first free cell of bank `b` from row `k` upwards, wrapping, looking at `fuel` rows. -/
def freeInBank (used : List Nat) (b k : Nat) : Nat → Option Nat
  | 0 => none
  | fuel + 1 =>
    let c := b + 32 * (k % 12288)
    if used.contains c then freeInBank used b (k + 1) fuel else some c

/-- A free cell of bank `b`, the one the row `pick` points at where that is free. -/
def Dev.cellIn (d : Dev) (b pick : Nat) : Option Nat :=
  if d.bankInService b then
    freeInBank d.usedCells b pick (min 12288 (d.usedCells.length + 1))
  else none

/-- A free cell from bank `b` or the first bank after it that has one, looking at `fuel` banks (R284). -/
def Dev.cellFrom (d : Dev) (b pick : Nat) : Nat → Option Nat
  | 0 => none
  | fuel + 1 =>
    match d.cellIn (b % 32) pick with
    | some c => some c
    | none => Dev.cellFrom d (b + 1) pick fuel

/-- The free cell granted after a cell of bank `b` (R284). -/
def Dev.cellAfter (d : Dev) (b pick : Nat) : Option Nat := d.cellFrom (b + 1) pick 32

/-- Cells held by all ingresses together (R288). -/
def Dev.heldCells (d : Dev) : Nat := ((List.range 20).map (fun i => d.get R.BASIN_ING_HELD_CELLS 0 i)).sum

/-- CELLS_LOW set where the free cells lie below LOW_MARK (R310). -/
def Dev.checkLow (d : Dev) : Dev :=
  if d.get R.BASIN_CELL_FREE_FREE < d.get R.BASIN_LOW_MARK_CELLS then d.raiseBit R.BASIN_EVENTS 1 else d

/-- Free cells and cells held by an ingress changed by a grant. -/
def Dev.chargeCell (d : Dev) (ingress : Nat) : Dev :=
  let d1 := (d.less R.BASIN_CELL_FREE_FREE 1).count R.BASIN_ING_HELD_CELLS 1 0 ingress
  (d1.put R.BASIN_USED_PEAK_CELLS (max (d1.get R.BASIN_USED_PEAK_CELLS) d1.heldCells)).checkLow

/-- A cell of a retiring bank is not counted free when it is freed (R309). -/
def Dev.unchargeCell (d : Dev) (ingress cell : Nat) : Dev :=
  let d1 := d.less R.BASIN_ING_HELD_CELLS 1 0 ingress
  if d1.bankInService (cell % 32) then d1.count R.BASIN_CELL_FREE_FREE 1 else d1

/-! ### Frames -/

/-- The frame with a head cell. -/
def Dev.frame? (d : Dev) (head : Nat) : Option Frame := d.basin.frames.find? (fun f => f.head == head)

/-- The device with a frame changed. -/
def Dev.modFrame (d : Dev) (head : Nat) (g : Frame → Frame) : Dev :=
  { d with basin := { d.basin with frames := d.basin.frames.map (fun f => if f.head == head then g f else f) } }

/-- A frame that still arrives on a port is no longer in the Basin: its further bytes are only counted. -/
def Dev.rxGone (d : Dev) (head : Nat) : Dev :=
  { d with ports := { d.ports with rx := d.ports.rx.map (fun x =>
      match x.2.1 with
      | .basin h n cut => if h = head then (x.1, (.gone n cut, [])) else x
      | _ => x) } }

/-- The cells granted to an ingress and not yet used. -/
def Dev.grantedTo (d : Dev) (ingress : Nat) : List Nat :=
  (d.basin.granted.filter (fun g => g.1 == ingress)).map Prod.snd

/-- The cells granted to an ingress that its frame, now whole or ended, has not used: given back, and free in the Notch after.
The next frame’s first cell then comes from the bank that R284 gives it (DESIGN CHOICE, notes/assumptions/17). -/
def Dev.giveBack (d : Dev) (ingress : Nat) : Dev :=
  match d.grantedTo ingress with
  | [] => d
  | h :: t =>
    let f : Frame := { head := h, cells := (h :: t).map (fun c => (c, 0)), bytes := [], ingress := ingress, cls0 := 8 }
    { d with basin := { d.basin with
        granted := d.basin.granted.filter (fun g => g.1 != ingress), freeing := d.basin.freeing ++ [f] } }

/-- What a frame that still arrives leaves behind: the cells granted for its further bytes are given back (R284). -/
def Dev.endGrant (d : Dev) (head : Nat) : Dev :=
  match d.frame? head with
  | some f => if f.complete then d else d.giveBack f.ingress
  | none => d

/-- A frame taken out, its cells to be freed in the Notch after (R287). -/
def Dev.freeFrame (d : Dev) (head : Nat) : Dev :=
  let d1 := (d.endGrant head).rxGone head
  { d1 with basin := { d1.basin with
      frames := d1.basin.frames.filter (fun f => f.head != head)
      freeing := d1.basin.freeing ++ (d1.basin.frames.filter (fun f => f.head == head)) } }

/-- Frames of a leaf in admission order, the head first (R286). -/
def Dev.leafQueue (d : Dev) (l : Nat) : List Frame :=
  d.basin.frames.filter (fun f => f.stage == .queued && f.leaf == l)

/-- Frames of an egress class in admission order, started ones included (R286). -/
def Dev.classQueue (d : Dev) (e c : Nat) : List Frame :=
  d.basin.frames.filter (fun f => (f.stage == .queued || f.stage == .egress) && f.egress == e && f.cls == c)

/-- CELLS of a leaf (R288); a started frame counts until it leaves. -/
def Dev.leafCells (d : Dev) (l : Nat) : Nat :=
  ((d.basin.frames.filter (fun f => (f.stage == .queued || f.stage == .egress) && f.leaf == l)).map
    (fun f => f.cells.length)).sum

/-- Cells held by frames of an ingress with an initial class (R288). -/
def Dev.ingressClassCells (d : Dev) (i c : Nat) : Nat :=
  (((d.basin.frames ++ d.basin.freeing).filter (fun f => f.ingress == i && f.cls0 == c)).map
    (fun f => f.cells.length)).sum

/-! ### Shared use (R289 to R291) -/

/-- Cells of an egress class above its guarantee. -/
def Dev.overGmin (d : Dev) (k occ : Nat) : Nat := occ - d.get R.BASIN_Q_CFG_GMIN 0 k

/-- OCC of egress class `k` set, with SHARED_USED following. -/
def Dev.setOcc (d : Dev) (k occ : Nat) : Dev :=
  let old := d.get R.BASIN_Q_AGE_OCC 0 k
  let used := d.get R.BASIN_SHARED_USED_USED
  (d.put R.BASIN_Q_AGE_OCC occ 0 k).put R.BASIN_SHARED_USED_USED (used + d.overGmin k occ - d.overGmin k old)

/-- The shared cells a frame of a colour may fill up to (R291). -/
def Dev.colourLimit (d : Dev) (k colour : Nat) : Nat :=
  let eff := d.get R.BASIN_SHARED_USED_EFF_LIMIT
  if colour = 0 then eff
  else if colour = 1 then eff * (d.get R.BASIN_Q_CFG_YEL_FRAC 0 k + 1) / 16
  else eff * (d.get R.BASIN_Q_CFG_RED_FRAC 0 k + 1) / 16

/-! ### Flow control sent (03 R108) -/

/-- The cells against which a port compares the thresholds for a class, or for all classes together (8). -/
def Dev.flowCells (d : Dev) (port cls : Nat) : Nat :=
  if cls = 8 then ((List.range 8).map (fun c => d.ingressClassCells port c)).sum else d.ingressClassCells port cls

/-- The thresholds of one port and class compared: a crossing queues an XOFF or an XON frame. -/
def Dev.flowCheckOne (d : Dev) (port cls : Nat) : Dev :=
  let n := d.flowCells port cls
  let on := (assoc d.ports.xoff (port, cls)).isSome
  let pfc : Bool := cls != 8
  if !on && decide (d.get R.PORT_PFC_THRESH_XOFF_CELLS port < n) then
    { d with ports := { d.ports with
        xoff := assocSet d.ports.xoff (port, cls) d.dial.notch
        sends := d.ports.sends ++ [⟨port, pfc, cls, d.get R.PORT_FC_CFG_TX_QUANTA port, d.dial.notch⟩] } }
  else if on && decide (n ≤ d.get R.PORT_PFC_THRESH_XON_CELLS port) then
    { d with ports := { d.ports with
        xoff := assocDel d.ports.xoff (port, cls)
        sends := d.ports.sends ++ [⟨port, pfc, cls, 0, d.dial.notch⟩] } }
  else d

/-- A port sends flow control for a class (8: for all together, by PAUSE) under its TX_MODE and PFC_TX_EN. -/
def Dev.flowOn (d : Dev) (port cls : Nat) : Bool :=
  if cls = 8 then d.get R.PORT_FC_CFG_TX_MODE port == 1
  else d.get R.PORT_FC_CFG_TX_MODE port == 2 && (d.get R.PORT_FC_CFG_PFC_TX_EN port).testBit cls

/-- The thresholds compared after the cells of a port's frames with initial class `cls` changed. -/
def Dev.flowCheck (d : Dev) (port cls : Nat) : Dev :=
  if 16 ≤ port then d
  else if d.flowOn port 8 then d.flowCheckOne port 8
  else if d.flowOn port cls then d.flowCheckOne port cls
  else d

/-- XOFF conditions of a port that its TX_MODE or PFC_TX_EN no longer serves end, with nothing sent for them (R108; DESIGN
CHOICE, notes/assumptions/114). -/
def Dev.flowModes (d : Dev) (port : Nat) : Dev :=
  { d with ports := { d.ports with
      xoff := d.ports.xoff.filter (fun x => x.1.1 != port || d.flowOn port x.1.2) } }

/-! ### Leaving (R287) -/

/-- Cells of a frame that left its egress class taken off OCC and SHARED_USED. -/
def Dev.leaveClass (d : Dev) (f : Frame) : Dev :=
  let k := 8 * f.egress + f.cls
  d.setOcc k (d.get R.BASIN_Q_AGE_OCC 0 k - f.cells.length)

/-- The transmit completion that awaits a frame learns that it departed, with its timestamp, or was dropped (10 R372). -/
def Dev.noteTx (d : Dev) (f : Frame) (ts : Option (Nat × Nat)) : Dev :=
  match f.tx with
  | some r => { d with basin := { d.basin with txEvents := d.basin.txEvents ++ [(r, (f.egress, ts))] } }
  | none => d

/-- An admitted frame leaves: its egress class is relieved and its cells are freed in the Notch after. -/
def Dev.leave (d : Dev) (f : Frame) (ts : Option (Nat × Nat)) : Dev :=
  ((d.leaveClass f).noteTx f ts).freeFrame f.head

/-- What the Basin keeps for one Notch only ends with it. -/
def Dev.tickBasin (d : Dev) : Dev := { d with basin := { d.basin with examined := [], served := 0 } }

/-- The cells of the frames that left in the Notch before are freed, and the flow-control thresholds see it (R287, R308; 03
R108). In Safe Hold nothing is freed (15 R503). -/
def Dev.freeCells (d : Dev) : Dev :=
  if d.holding then d
  else
  let fs := d.basin.freeing
  let d1 := d.each fs (fun d f => d.each f.cells (fun d c => d.unchargeCell f.ingress c.1))
  let d2 : Dev := { d1 with basin := { d1.basin with freeing := [] } }
  d2.each fs (fun d f => d.flowCheck f.ingress f.cls0)

/-! ### Taking cells -/

/-- The oldest `n` cells granted to an ingress taken from the pool. -/
def Dev.takeGranted (d : Dev) (ingress n : Nat) : Dev :=
  let taken := (d.grantedTo ingress).take n
  { d with basin := { d.basin with granted := d.basin.granted.filter (fun g => !taken.contains g.2) } }

/-- How many 256-byte cells `n` bytes take. -/
def cellsFor (n : Nat) : Nat := (n + 255) / 256

/-- The cells `cs` with the bytes each holds when together they hold `n` bytes. -/
def spread (n : Nat) : List Nat → List (Nat × Nat)
  | [] => []
  | c :: cs => (c, min 256 n) :: spread (n - 256) cs

/-- A whole frame written to cells granted to an ingress, when enough are granted: the new frame and the device. -/
def Dev.placeFrame (d : Dev) (ingress cls0 : Nat) (bytes : List Byte) (g : Frame → Frame) : Option Dev :=
  let n := cellsFor bytes.length
  let cs := (d.grantedTo ingress).take n
  match cs with
  | [] => none
  | h :: _ =>
    if cs.length < n then none
    else
      let f : Frame := g { head := h, cells := spread bytes.length cs, bytes := bytes, ingress := ingress, cls0 := cls0,
                           complete := true, arrival := d.dial.notch, winNotch := some d.dial.notch }
      let d1 := (d.takeGranted ingress n).giveBack ingress
      some ({ d1 with basin := { d1.basin with frames := d1.basin.frames ++ [f] } })

/-- Bytes over 16,383 cut from a complete frame, which is then errored (06 R213). -/
def Frame.clamp (f : Frame) : Frame :=
  if f.complete && decide (16383 < f.bytes.length) then { f with bytes := f.bytes.take 16383, errored := true } else f

/-- CELL_GRANT (R284, R292): a free cell is granted to an ingress under its MAX, the row `pick` of its bank where that cell
is free. With none to grant, the ingress waits or meets the want of a cell when it next writes (03 R98). -/
def execCellGrant (ingress pick : Nat) (s : State) : Host.Outcome State Fault Refusal :=
  s.live (fun d =>
    if 20 ≤ ingress ∨ d.get R.BASIN_ING_CFG_MAX 0 ingress ≤ d.get R.BASIN_ING_HELD_CELLS 0 ingress then d
    else
      let pool := d.grantedTo ingress
      let open? := d.basin.frames.find? (fun f => f.ingress == ingress && !f.complete)
      let prev : Option Nat :=
        match pool.getLast? with
        | some c => some c
        | none => open?.bind (fun f => f.cells.getLast?.map Prod.fst)
      let bank := match prev with
        | some c => c % 32
        | none => (assoc d.basin.lastFirst ingress).getD 31
      match d.cellAfter bank pick with
      | none => d
      | some c =>
        let d1 := d.chargeCell ingress
        { d1 with basin := { d1.basin with
            granted := d1.basin.granted ++ [(ingress, c)]
            lastFirst := if prev.isNone then assocSet d1.basin.lastFirst ingress (c % 32) else d1.basin.lastFirst } })

end Sys2Proof.Machine
end

