-- ==== Sys2Proof/Machine/Sched.lean ====
section
/-! DEFINITION. The scheduler: the tree of nodes and leaves, virtual finish stamps, shapers, policers, time gates and the
Col, and their commands (spec/09_scheduling.md). -/

namespace Sys2Proof.Machine

/-! ### Stamps (R323) -/

/-- The signed 48-bit difference of two stamps or virtual times. -/
def stampDiff (a b : Nat) : Int := signed 48 (a + 2 ^ 48 - b % 2 ^ 48)

/-- Whether stamp `a` is earlier than stamp `b`. -/
def stampLt (a b : Nat) : Bool := decide (stampDiff a b < 0)

/-- The later of two stamps. -/
def stampMax (a b : Nat) : Nat := if stampLt a b then b else a

/-- A charge of `l` bytes at weight `w`. -/
def stampInc (l w : Nat) : Nat := max 1 (l * 65536 / w)

/-! ### The tree (R314, R315) -/

/-- The node a leaf hangs under. A record reads 0x7FFF of an unattached leaf and of a leaf of node 32,767 (R314, R348;
notes/assumptions/19). -/
def Dev.leafNode (d : Dev) (l : Nat) : Option Nat :=
  if d.get R.LEAF_W0_NODE l = 0x7FFF ∧ !d.sched.lastNode.contains l then none else some (d.get R.LEAF_W0_NODE l)

/-- A leaf attached to a node, or to none (R315). -/
def Dev.attachLeaf (d : Dev) (l : Nat) (node : Option Nat) : Dev :=
  let others := d.sched.lastNode.filter (fun x => x != l)
  let d1 := d.put R.LEAF_W0_NODE (node.getD 0x7FFF) l
  { d1 with sched := { d1.sched with lastNode := if node = some 0x7FFF then others ++ [l] else others } }

/-- The egress class a node hangs under. -/
def Dev.nodeClass (d : Dev) (n : Nat) : Option Nat :=
  if d.flag R.NODE_W0_ATTACHED n then some (8 * d.get R.NODE_W0_EGRESS n + d.get R.NODE_W0_CLASS n) else none

/-- The egress class a leaf hangs under, where it and its node are attached. -/
def Dev.leafClass (d : Dev) (l : Nat) : Option Nat := (d.leafNode l).bind d.nodeClass

/-- Leaves attached to a node, in index order. -/
def Dev.leavesOf (d : Dev) (n : Nat) : List Nat :=
  if n = 0x7FFF then (List.range 131072).filter d.sched.lastNode.contains
  else (d.touched .LEAF).filter (fun l => d.get R.LEAF_W0_NODE l == n)

/-- Nodes attached to an egress class, in index order. -/
def Dev.nodesOf (d : Dev) (k : Nat) : List Nat := (d.touched .NODE).filter (fun n => d.nodeClass n == some k)

/-- Whether an egress is fitted: its port, host port, or unit. -/
def Dev.egressPresent (d : Dev) (e : Nat) : Bool :=
  if e < 16 then decide (e < d.variant.lanes)
  else if e = 16 then true
  else if e = 17 then d.variant.hasHostB
  else if e < 20 then d.variant.hasCrypto
  else false

/-! ### Lengths (R317) -/

/-- The bytes the scheduler charges for a frame of `n` bytes at an egress: with OVERHEAD, and at least 1. -/
def Dev.chargeLen (d : Dev) (e n : Nat) : Nat :=
  (max 1 ((n : Int) + d.getInt R.SCHED_EGR_OVERHEAD 0 e)).toNat

/-! ### Shapers (R329 to R332) -/

/-- TC or TP as a signed count of millibits. -/
def Dev.tokens (d : Dev) (f : Fld) (u : Nat) : Int := d.getInt f u

/-- A signed 48-bit token count set. -/
def Dev.setTokens (d : Dev) (f : Fld) (u : Nat) (v : Int) : Dev := d.put f (unsigned 48 v) u

/-- A leaf's shaper allows it; and is in the committed tier. -/
def Dev.leafAllowed (d : Dev) (l : Nat) : Bool :=
  !d.flag R.LEAF_W0_SH_EN l || decide (0 < d.tokens R.LEAF_TP l)
def Dev.leafCommitted (d : Dev) (l : Nat) : Bool :=
  d.flag R.LEAF_W0_SH_EN l && decide (0 < d.tokens R.LEAF_TP l) && decide (0 < d.tokens R.LEAF_TC l)
/-- A node's shaper allows it; and is in the committed tier. -/
def Dev.nodeAllowed (d : Dev) (n : Nat) : Bool :=
  !d.flag R.NODE_W0_SH_EN n || decide (0 < d.tokens R.NODE_TP n)
def Dev.nodeCommitted (d : Dev) (n : Nat) : Bool :=
  d.flag R.NODE_W0_SH_EN n && decide (0 < d.tokens R.NODE_TP n) && decide (0 < d.tokens R.NODE_TC n)

/-- Millibits taken from the shapers of a leaf and of a node, each where asked. -/
def Dev.debitLeaf (d : Dev) (l mb : Nat) (on : Bool) : Dev :=
  if on then (d.setTokens R.LEAF_TC l (d.tokens R.LEAF_TC l - mb)).setTokens R.LEAF_TP l (d.tokens R.LEAF_TP l - mb)
  else d
def Dev.debitNode (d : Dev) (n mb : Nat) (on : Bool) : Dev :=
  if on then (d.setTokens R.NODE_TC n (d.tokens R.NODE_TC n - mb)).setTokens R.NODE_TP n (d.tokens R.NODE_TP n - mb)
  else d

/-! ### Stamping (R324 to R326) -/

/-- The head of a leaf: its oldest frame that has not started. -/
def Dev.leafHead (d : Dev) (l : Nat) : Option Frame := (d.leafQueue l).head?

/-- A leaf stamped because a frame has become its head; the bytes charged are remembered on the frame (R318, R324). -/
def Dev.stampLeaf (d : Dev) (l : Nat) : Dev :=
  match d.leafHead l with
  | none => d
  | some f =>
    let v := (d.leafNode l).elim 0 (fun n => d.get R.NODE_V n)
    let n := f.bytes.length
    let d1 := d.put R.LEAF_F
      (stampMax v (d.get R.LEAF_F l) + stampInc (d.chargeLen f.egress n) (d.get R.LEAF_W0_WEIGHT_USE l)) l
    d1.modFrame f.head (fun g => { g with charged := n })

/-- A leaf stamped afresh when its head is not the frame it was. -/
def Dev.restampFrom (d : Dev) (l : Nat) (old : Option Nat) : Dev :=
  if (d.leafHead l).map Frame.head = old then d else d.stampLeaf l

/-- The remainder of a frame whose last byte is written after it was first charged: added to the stamps of its leaf and
node, and debited from the shapers that were debited at its start (R318). -/
def Dev.chargeRemainder (d : Dev) (f : Frame) : Dev :=
  if f.charged = 0 ∨ f.bytes.length ≤ f.charged then d
  else
    let r := f.bytes.length - f.charged
    let d1 := d.put R.LEAF_F (d.get R.LEAF_F f.leaf + stampInc r (d.get R.LEAF_W0_WEIGHT_USE f.leaf)) f.leaf
    match d.leafNode f.leaf with
    | none => d1
    | some n =>
      let d2 := d1.put R.NODE_F (d1.get R.NODE_F n + stampInc r (d1.get R.NODE_W0_WEIGHT_USE n)) n
      if f.started then (d2.debitLeaf f.leaf (r * 8000) f.debited.1).debitNode n (r * 8000) f.debited.2
      else d2.modFrame f.head (fun g => { g with remainder := r })

/-! ### Expiry (08 R305) and eligibility (R320) -/

/-- Whether a queued frame is expired. -/
def Dev.expired (d : Dev) (f : Frame) : Bool :=
  let lim := d.get R.BASIN_Q_AGE_AGE_LIMIT 0 (8 * f.egress + f.cls)
  lim != 0 && !f.started && decide (lim ≤ (d.dial.notch + 2 ^ 32 - f.tk.get T.ARRIVAL) % 2 ^ 32)

/-- Whether a frame may start: from the Notch after its admission, since starts come before admissions in a Notch, and once
it is whole unless it goes cut-through (08 R302, R303, R308). -/
def Dev.mayStart (d : Dev) (f : Frame) : Bool := decide (f.admitted < d.dial.notch) && (f.complete || f.ct)

/-- Whether a leaf is eligible. -/
def Dev.leafEligible (d : Dev) (l : Nat) : Bool :=
  match d.leafHead l with
  | none => false
  | some f => d.mayStart f && !d.expired f && d.leafAllowed l

/-- Whether a node is eligible. -/
def Dev.nodeEligible (d : Dev) (n : Nat) : Bool := d.nodeAllowed n && (d.leavesOf n).any d.leafEligible

/-- The child with the smallest stamp, ties to the lower index (R321, R323). -/
def smallest (stamp : Nat → Nat) : List Nat → Option Nat
  | [] => none
  | x :: xs =>
    match smallest stamp xs with
    | none => some x
    | some y => if stampLt (stamp y) (stamp x) then some y else some x

/-- The choice among the eligible children of a parent (R321). -/
def chooseFrom (stamp : Nat → Nat) (committed : Nat → Bool) (cands : List Nat) : Option Nat :=
  let tier := cands.filter committed
  smallest stamp (if tier.isEmpty then cands else tier)

/-- A selection of egress class `k`: nodes that gain eligibility are raised to V of the class, the leaves considered are
examined, and the node and leaf chosen (R320, R321, R325). -/
def Dev.select (d : Dev) (k : Nat) : Dev × Option (Nat × Nat) :=
  let nodes := d.nodesOf k
  let elig := nodes.filter d.nodeEligible
  let before := (assoc d.sched.eligible k).getD []
  let d1 := d.each (elig.filter (fun n => !before.contains n))
    (fun d n => d.put R.NODE_F (stampMax (d.get R.ECLASS_V k) (d.get R.NODE_F n)) n)
  let seen := nodes.flatMap (fun n => (d.leavesOf n).filter (fun l => (d.leafHead l).isSome))
  let d2 : Dev := { d1 with
    sched := { d1.sched with eligible := assocSet d1.sched.eligible k elig }
    basin := { d1.basin with examined := d1.basin.examined ++ seen } }
  match chooseFrom (fun n => d2.get R.NODE_F n) d2.nodeCommitted elig with
  | none => (d2, none)
  | some n =>
    match chooseFrom (fun l => d2.get R.LEAF_F l) d2.leafCommitted ((d2.leavesOf n).filter d2.leafEligible) with
    | none => (d2, none)
    | some l => (d2, some (n, l))

/-- The stamps, virtual times and tokens when the head `f` of a leaf under node `n` starts, the F of node and leaf at its
selection being those of the offer (R317, R326, R331). -/
def Dev.chargeStart (d : Dev) (f : Frame) (n : Nat) (o : Offer) : Dev :=
  let k := 8 * f.egress + f.cls
  let l := f.leaf
  let len := d.chargeLen f.egress (if f.charged = 0 then f.bytes.length else f.charged)
  let d1 := (d.put R.ECLASS_V o.nodeF k).put R.NODE_V o.leafF n
  let d2 := d1.put R.NODE_F
    (stampMax (d1.get R.ECLASS_V k) (d1.get R.NODE_F n) + stampInc len (d1.get R.NODE_W0_WEIGHT_USE n)) n
  let mb := (len + f.remainder) * 8000
  (d2.debitLeaf l mb (d.flag R.LEAF_W0_SH_EN l)).debitNode n mb (d.flag R.NODE_W0_SH_EN n)

/-! ### Refill (R327, R330, R332, R336) -/

/-- The records to visit at a refill: those that differ from their values after reset, and those whose settings in force do. -/
def Dev.refillSet (d : Dev) (sp : Space) (rates : List (Nat × Rates)) : List Nat :=
  let all := d.touched sp
  all ++ (rates.map Prod.fst).filter (fun k => !all.contains k)

/-- One leaf at a refill Notch: weight, rates and bursts as written come into force, and its tokens are refilled. -/
def Dev.refillLeaf (d : Dev) (l : Nat) : Dev :=
  let r : Rates := { cir := d.get R.LEAF_W1_CIR l, pir := d.get R.LEAF_W1_PIR l,
                     cbs := d.get R.LEAF_W2_CBS l, xbs := d.get R.LEAF_W2_PBS l }
  let d1 := d.put R.LEAF_W0_WEIGHT_USE (d.get R.LEAF_W0_WEIGHT l) l
  let d2 := d1.setTokens R.LEAF_TC l (min (d.tokens R.LEAF_TC l + r.cir * 1024) (r.cbs * 8000))
  let d3 := d2.setTokens R.LEAF_TP l (min (d.tokens R.LEAF_TP l + r.pir * 1024) (r.xbs * 8000))
  { d3 with sched := { d3.sched with leafRates := assocSet d3.sched.leafRates l r } }

/-- One node at a refill Notch. -/
def Dev.refillNode (d : Dev) (n : Nat) : Dev :=
  let r : Rates := { cir := d.get R.NODE_W1_CIR n, pir := d.get R.NODE_W1_PIR n,
                     cbs := d.get R.NODE_W2_CBS n, xbs := d.get R.NODE_W2_PBS n }
  let d1 := d.put R.NODE_W0_WEIGHT_USE (d.get R.NODE_W0_WEIGHT n) n
  let d2 := d1.setTokens R.NODE_TC n (min (d.tokens R.NODE_TC n + r.cir * 1024) (r.cbs * 8000))
  let d3 := d2.setTokens R.NODE_TP n (min (d.tokens R.NODE_TP n + r.pir * 1024) (r.xbs * 8000))
  { d3 with sched := { d3.sched with nodeRates := assocSet d3.sched.nodeRates n r } }

/-- The settings of a policer's record. -/
def Dev.policerSettings (d : Dev) (p : Nat) : Rates :=
  { mode := d.get R.POLICER_W0_MODE p, aware := d.flag R.POLICER_W0_AWARE p,
    drop := d.get R.POLICER_W0_ACT_G p + 2 * d.get R.POLICER_W0_ACT_Y p + 4 * d.get R.POLICER_W0_ACT_R p,
    cir := d.get R.POLICER_W1_CIR p, pir := d.get R.POLICER_W1_PIR p,
    cbs := d.get R.POLICER_W2_CBS p, xbs := d.get R.POLICER_W2_XBS p }

/-- One policer at a refill Notch: its settings come into force, and its counts are refilled under its mode. -/
def Dev.refillPolicer (d : Dev) (p : Nat) : Dev :=
  let r := d.policerSettings p
  let d0 : Dev := { d with sched := { d.sched with policerRates := assocSet d.sched.policerRates p r } }
  let t1 := d.tokens R.POLICER_T1 p
  let t2 := d.tokens R.POLICER_T2 p
  let c : Int := r.cbs * 8000
  let x : Int := r.xbs * 8000
  if r.mode = 1 then
    let n := t1 + r.cir * 1024
    if c < n then (d0.setTokens R.POLICER_T2 p (min (t2 + n - c) x)).setTokens R.POLICER_T1 p c
    else d0.setTokens R.POLICER_T1 p n
  else if r.mode = 2 then
    (d0.setTokens R.POLICER_T1 p (min (t1 + r.cir * 1024) c)).setTokens R.POLICER_T2 p (min (t2 + r.pir * 1024) x)
  else d0

/-- REFILL (R327, R330, R332, R336): level 6 of a refill Notch, one whose count is a multiple of 16. -/
def execRefill (s : State) : Host.Outcome State Fault Refusal :=
  s.live (fun d =>
    if d.dial.notch % 16 = 0 then
      ((d.each (d.refillSet .LEAF d.sched.leafRates) Dev.refillLeaf).each
        (d.refillSet .NODE d.sched.nodeRates) Dev.refillNode).each (d.refillSet .POLICER d.sched.policerRates)
          Dev.refillPolicer
    else d)

/-! ### Policing (R333 to R337) -/

/-- The colour a policer gives a ticket and which counts it debits, for a pre-colour and a size in millibits. -/
def colourOf (r : Rates) (pre : Nat) (t1 t2 b : Int) : Nat × Bool × Bool :=
  if r.mode = 1 then
    if (!r.aware || pre = 0) && decide (b ≤ t1) then (0, true, false)
    else if (!r.aware || pre < 2) && decide (b ≤ t2) then (1, false, true)
    else (2, false, false)
  else
    if (r.aware && decide (2 ≤ pre)) || decide (t2 < b) then (2, false, false)
    else if (r.aware && pre == 1) || decide (t1 < b) then (1, false, true)
    else (0, true, true)

/-- Millibits taken from T1 and T2 where asked. -/
def Dev.debitPolicer (d : Dev) (p : Nat) (b : Int) (one two : Bool) : Dev :=
  let d1 := if one then d.setTokens R.POLICER_T1 p (d.tokens R.POLICER_T1 p - b) else d
  if two then d1.setTokens R.POLICER_T2 p (d1.tokens R.POLICER_T2 p - b) else d1

/-- Step 6 of R295 for a policer, the ticket's COLOUR and a size: the device, the colour, which counts were debited, and
whether the ticket is dropped (R334). With the policer OFF the colour stays as it was (R333). -/
def Dev.police (d : Dev) (p colour : Nat) (b : Int) : Dev × Nat × (Bool × Bool) × Bool :=
  let r := (assoc d.sched.policerRates p).getD { }
  if r.mode = 0 then (d, colour, (false, false), false)
  else
    let c := colourOf r (min 2 colour) (d.tokens R.POLICER_T1 p) (d.tokens R.POLICER_T2 p) b
    let d1 := d.debitPolicer p b c.2.1 c.2.2
    let d2 :=
      if c.1 = 0 then d1.count R.POLICER_GREEN 1 p
      else if c.1 = 1 then d1.count R.POLICER_YELLOW 1 p else d1.count R.POLICER_RED 1 p
    if r.drop.testBit c.1 then
      (((d2.count R.POLICER_DROP 1 p).count R.SCHED_POLICE_DROP 1).raiseBit R.SCHED_EVENTS 1, c.1, c.2, true)
    else (d2, c.1, c.2, false)

/-- The debit of a ticket policed while PARTIAL, when its frame's last byte is written (R335). -/
def Dev.policeRemainder (d : Dev) (f : Frame) : Dev :=
  match f.policed with
  | none => d
  | some (p, one, two) =>
    let seen : Int := (f.tk.get T.WIN_LEN : Int) + f.tk.delta
    d.debitPolicer p (((f.bytes.length : Int) - seen) * 8000) one two

/-! ### Time gates (R338 to R342) -/

/-- The base of a gate list bank as nanoseconds of dial time. -/
def Dev.gateBase (d : Dev) (g b : Nat) : Nat := timeNs (d.get R.GATE_BASE_SEC g b, d.get R.GATE_BASE_NS g b)

/-- The number of the record of entry `k` of bank `b` of port-class `g` (R348). -/
def gateEntry (g b k : Nat) : Nat := g * 2048 + 1024 * b + k

/-- The entry that covers position `p`, looking at `fuel` entries from entry `k`, which starts at `acc`: the first whose
end lies beyond `p`, else the last. -/
def Dev.entryAt (d : Dev) (g b p k acc : Nat) : Nat → Nat
  | 0 => k
  | 1 => k
  | fuel + 2 =>
    let e := acc + d.get R.GATEENT_W0_DURATION (gateEntry g b k)
    if p < e then k else Dev.entryAt d g b p (k + 1) e (fuel + 1)

/-- Position of a time in the cycle of a bank; none before its BASE (R339). -/
def Dev.gatePos (d : Dev) (g b t : Nat) : Option Nat :=
  if t < d.gateBase g b then none
  else some ((t - d.gateBase g b) / 64 % d.get R.GATE_CYCLE g b)

/-- The gate of a bank at dial time `t` (in ns): open or not, and its entry (R339). -/
def Dev.gateAt (d : Dev) (g b t : Nat) : Bool × Nat :=
  if !d.flag R.GATE_W0_EN g then (true, 0)
  else
    match d.gatePos g b t with
    | none => (d.flag R.GATE_W0_INIT_OPEN g, 0)
    | some p =>
      let k := d.entryAt g b p 0 0 (d.get R.GATE_BASE_LEN g b)
      (d.flag R.GATEENT_W0_OPEN (gateEntry g b k), k)

/-- The start of the first Notch at or after dial time `t` that starts a cycle of a bank's list, `t` not before its BASE: a
multiple of 64 ns at position 0 of it (01 R23; R339, R341). -/
def Dev.cycleStart (d : Dev) (g b t : Nat) : Nat :=
  let n := d.get R.GATE_CYCLE g b
  let u := (t - d.gateBase g b + 63) / 64
  d.gateBase g b + 64 * (u + (n - u % n) % n)

/-- Whether an armed switch has a switch point at a dial time from `since` to `t`, `act` being the active bank: at or after
CHANGE, with EN 0, before the BASE of the active list, or at the start of a cycle of it (R341). -/
def Dev.switchDue (d : Dev) (g act since t : Nat) : Bool :=
  let lo := max since (timeNs (d.get R.GATE_CHANGE_SEC g, d.get R.GATE_CHANGE_NS g))
  decide (lo ≤ t) && (!d.flag R.GATE_W0_EN g || decide (lo < d.gateBase g act) || decide (d.cycleStart g act lo ≤ t))

/-- The gate of a port-class evaluated for the Notch that starts at dial time `t`, with an armed switch whose point lies at a
dial time from `since` on: `t` itself, or earlier where a step has passed over it (R340 to R342). -/
def Dev.evalGate (d : Dev) (g since t : Nat) : Dev :=
  let act := d.get R.GATE_W0_ACTIVE g
  let sw := d.flag R.GATE_W0_PENDING g && d.switchDue g act since t
  let d1 :=
    if sw then ((d.put R.GATE_W0_ACTIVE (1 - act) g).put R.GATE_W0_PENDING 0 g).raiseBit R.SCHED_EVENTS 0 else d
  let r := d1.gateAt g (d1.get R.GATE_W0_ACTIVE g) t
  (d1.put R.GATE_W0_OPEN_NOW (bit r.1) g).put R.GATE_W0_ENTRY_NOW r.2 g

/-- Every gate that differs from its state after reset evaluated for the Notch that starts at dial time `t`. -/
def Dev.evalGates (d : Dev) (since t : Nat) : Dev := d.each (d.touched .GATE) (fun d g => d.evalGate g since t)

/-- GATE_EVAL (R340): level 6, the gates of the next Notch. -/
def execGateEval (s : State) : Host.Outcome State Fault Refusal :=
  s.live (fun d => d.evalGates (timeNs (timeAdd d.now 64)) (timeNs (timeAdd d.now 64)))

/-- GATE_SWITCHED (R341): the evaluation for the next Notch meets the conditions of the switch armed for a port-class. -/
def execGateSwitched (port cls : Nat) (s : State) : Host.Outcome State Fault Refusal :=
  s.live (fun d =>
    let g := 8 * (port % 16) + cls % 8
    let t := timeNs (timeAdd d.now 64)
    if d.flag R.GATE_W0_PENDING g && d.switchDue g (d.get R.GATE_W0_ACTIVE g) t t then d.evalGate g t t else d)

/-- Gates open in each of `n` Notches from the one at dial time `t`, across an armed switch; `act` is the active bank
and `armed` whether a switch is still armed (R343). -/
def Dev.openThrough (d : Dev) (g t act : Nat) (armed : Bool) : Nat → Bool
  | 0 => true
  | n + 1 =>
    let sw := armed && d.switchDue g act t t
    let act' := if sw then 1 - act else act
    (d.gateAt g act' t).1 && Dev.openThrough d g (t + 64) act' (armed && !sw) n

/-- The rate of a port in units of 100 Gb/s, in the mode in force (03 R86). -/
def Dev.portRate (d : Dev) (p : Nat) : Nat :=
  d.get R.PORT_STATUS_LANES p * (if d.variant.laneRate = 1 then 2 else 1)

/-- D of R343: Notches a frame of charged length `l` occupies the line at `r` hundreds of Gb/s. -/
def colNotches (l r : Nat) : Nat := (l * 8 + r * 6400 - 1) / (r * 6400)

/-- Whether gate and Col let a frame of charged length `l` start now on a port-class (R343). -/
def Dev.colAllows (d : Dev) (port cls l : Nat) : Bool :=
  let g := 8 * port + cls
  let n := if d.flag R.GATE_W0_COL_MODE g then colNotches l (d.portRate port) else d.get R.GATE_W0_COL_NOTCHES g
  d.flag R.GATE_W0_OPEN_NOW g &&
    d.openThrough g (timeNs (timeAdd d.now 64)) (d.get R.GATE_W0_ACTIVE g) (d.flag R.GATE_W0_PENDING g) n

/-! ### Commands (R315, R341, R347) -/

/-- The readback of SCHED.CMD. -/
def Dev.schedStatus (d : Dev) (code leaf node e c st : Nat) : Dev :=
  (((((d.put R.SCHED_CMD_CODE code).put R.SCHED_CMD_ARG_LEAF leaf).put R.SCHED_CMD_ARG_NODE node).put
    R.SCHED_CMD_ARG_EGRESS e).put R.SCHED_CMD_ARG_CLASS c).put R.SCHED_CMD_STATUS st

/-- A leaf holds any frame. -/
def Dev.leafBusy (d : Dev) (l : Nat) : Bool :=
  d.basin.frames.any (fun f => (f.stage == .queued || f.stage == .egress) && f.leaf == l)

/-- A node has an attached leaf that holds any frame. -/
def Dev.nodeBusy (d : Dev) (n : Nat) : Bool := (d.leavesOf n).any d.leafBusy

/-- ATTACH_LEAF (R315): a leaf is moved under a node. -/
def execAttachLeaf (path : Path) (leaf node : Nat) (s : State) : Host.Outcome State Fault Refusal :=
  s.act (fun d =>
    let st := fun (d : Dev) (x : Nat) => d.schedStatus 1 leaf node 0 0 x
    d.command path pgSCHED 0x40 ⟨.SCHED, 0, 8⟩ (fun d => st d 1) (fun d =>
      if 131072 ≤ leaf ∨ 32768 ≤ node then st d 5
      else if d.leafBusy leaf then st d 3
      else st (d.attachLeaf leaf (some node)) 0))

/-- ATTACH_NODE (R315): a node is moved under an egress class. -/
def execAttachNode (path : Path) (node egress cls : Nat) (s : State) : Host.Outcome State Fault Refusal :=
  s.act (fun d =>
    let st := fun (d : Dev) (x : Nat) => d.schedStatus 2 0 node egress cls x
    d.command path pgSCHED 0x40 ⟨.SCHED, 0, 8⟩ (fun d => st d 1) (fun d =>
      if 32768 ≤ node ∨ 8 ≤ cls ∨ !d.egressPresent egress then st d 5
      else if d.nodeClass node = some (8 * egress + cls) then st d 0
      else if d.nodeBusy node then st d 3
      else if (d.nodeClass node).isSome && !(d.leavesOf node).isEmpty then st d 4
      else st (((d.put R.NODE_W0_EGRESS egress node).put R.NODE_W0_CLASS cls node).put R.NODE_W0_ATTACHED 1 node) 0))

/-- DETACH_LEAF (R315): a leaf is left unattached. -/
def execDetachLeaf (path : Path) (leaf : Nat) (s : State) : Host.Outcome State Fault Refusal :=
  s.act (fun d =>
    let st := fun (d : Dev) (x : Nat) => d.schedStatus 3 leaf 0 0 0 x
    d.command path pgSCHED 0x40 ⟨.SCHED, 0, 8⟩ (fun d => st d 1) (fun d =>
      if 131072 ≤ leaf then st d 5
      else if d.leafBusy leaf then st d 3
      else st (d.attachLeaf leaf none) 0))

/-- DETACH_NODE (R315): a node is left unattached. -/
def execDetachNode (path : Path) (node : Nat) (s : State) : Host.Outcome State Fault Refusal :=
  s.act (fun d =>
    let st := fun (d : Dev) (x : Nat) => d.schedStatus 4 0 node 0 0 x
    d.command path pgSCHED 0x40 ⟨.SCHED, 0, 8⟩ (fun d => st d 1) (fun d =>
      if 32768 ≤ node then st d 5
      else if d.nodeBusy node then st d 3
      else if !(d.leavesOf node).isEmpty then st d 4
      else st (((d.put R.NODE_W0_ATTACHED 0 node).put R.NODE_W0_EGRESS 0 node).put R.NODE_W0_CLASS 0 node) 0))

/-- The shadow bank of a port-class may be switched to (R341). -/
def Dev.shadowGood (d : Dev) (g : Nat) : Bool :=
  let b := 1 - d.get R.GATE_W0_ACTIVE g
  let len := d.get R.GATE_BASE_LEN g b
  within 1 1024 len && within 1 15625000 (d.get R.GATE_CYCLE g b) &&
    d.get R.GATE_BASE_NS g b % 64 == 0 && decide (d.get R.GATE_BASE_NS g b < nsPerSec) &&
    (List.range len).all (fun k => d.get R.GATEENT_W0_DURATION (gateEntry g b k) != 0)

/-- GATE_SWITCH (R341): a switch to the shadow bank is armed. -/
def execGateSwitch (path : Path) (port cls : Nat) (s : State) : Host.Outcome State Fault Refusal :=
  s.act (fun d =>
    let g := 8 * port + cls
    let st := fun (d : Dev) (x : Nat) => d.schedStatus 5 0 0 port cls x
    d.command path pgSCHED 0x40 ⟨.SCHED, 0, 8⟩ (fun d => st d 1) (fun d =>
      if d.variant.lanes ≤ port ∨ 8 ≤ cls ∨ !d.shadowGood g then st d 5
      else if d.flag R.GATE_W0_PENDING g then st d 6
      else st (d.put R.GATE_W0_PENDING 1 g) 0))

end Sys2Proof.Machine
end

