-- ==== Sys2Proof/Machine/Usage.lean ====
section
/-! DEFINITION. What is charged to an instance (spec/11_instances.md R412, R415; 04 R133). -/

namespace Sys2Proof.Machine

/-- The open interval's counts of an instance, and the device with them changed. -/
def Dev.usage (d : Dev) (i : Nat) : Usage := (assoc d.ledger.counts i).getD { }
def Dev.modUsage (d : Dev) (i : Nat) (g : Usage → Usage) : Dev :=
  { d with ledger := { d.ledger with counts := assocSet d.ledger.counts i (g (d.usage i)) } }

/-- Thread-Notches charged to an instance. -/
def Dev.chargeThread (d : Dev) (i n : Nat) : Dev :=
  (d.modUsage i (fun u => { u with tn := u.tn + n })).count R.INST_USE_GLEN_TN n i

/-- Crypto bytes charged to an instance. -/
def Dev.chargeCrypto (d : Dev) (i n : Nat) : Dev :=
  (d.modUsage i (fun u => { u with crypto := u.crypto + n })).count R.INST_USE_CRYPTO n i

/-- Storage I/Os charged to an instance. -/
def Dev.chargeStore (d : Dev) (i n : Nat) : Dev :=
  (d.modUsage i (fun u => { u with ios := u.ios + n })).count R.INST_USE_STORE n i

/-- The counter of a direction (0 from the instance, 1 to it) and a traffic class, under the CLASS_MAP in force. -/
def Dev.ledgerIndex (d : Dev) (dir cls : Nat) : Nat := 4 * dir + d.ledger.classMap / 4 ^ cls % 4

/-- A completed frame of `n` bytes charged to an instance. -/
def Dev.chargeFrame (d : Dev) (i dir cls n : Nat) : Dev :=
  let k := d.ledgerIndex dir cls
  ((d.modUsage i (fun u => { u with
      bytes := setNth u.bytes k (nth u.bytes k 0 + n), frames := setNth u.frames k (nth u.frames k 0 + 1) })).count
    R.INST_USE_BYTES n i k).count R.INST_USE_FRAMES 1 i k

end Sys2Proof.Machine
end

