-- ==== Sys2Proof/Machine/Ports.lean ====
section
/-! DEFINITION. Ethernet ports and MACs: modes, links, the receive path, flow control, and the creation of tickets
(spec/03_ports.md; 02 R65 to R69). -/

namespace Sys2Proof.Machine

/-! ### Modes (R86 to R88, R97) -/

/-- The ports of a quad that starts at lane `b`, with their lanes. -/
def quadPorts (b qmode : Nat) : List (Nat × Nat) :=
  if qmode = 0 then [(b, 4)]
  else if qmode = 1 then [(b, 2), (b + 2, 2)]
  else if qmode = 2 then [(b, 1), (b + 1, 1), (b + 2, 1), (b + 3, 1)]
  else if qmode = 3 then [(b, 2), (b + 2, 1), (b + 3, 1)]
  else if qmode = 4 then [(b, 1), (b + 1, 1), (b + 2, 2)]
  else []

/-- The ports of a lane group in a mode, with their lanes (R86). -/
def groupPorts (g gmode q0 q1 : Nat) : List (Nat × Nat) :=
  if gmode = 0 then [(8 * g, 8)] else quadPorts (8 * g) q0 ++ quadPorts (8 * g + 4) q1

/-- The place of LANEGRP.CMD. -/
def laneKey (g : Nat) : Key := fldKey R.LANEGRP_CMD_CODE g 0

/-- The readback of LANEGRP.CMD. -/
def Dev.laneStatus (d : Dev) (g code port st : Nat) : Dev :=
  ((d.put R.LANEGRP_CMD_CODE code g).put R.LANEGRP_CMD_ARG_PORT port g).put R.LANEGRP_CMD_STATUS st g

/-- A recalibration runs on a port of the group. -/
def Dev.recalBusy (d : Dev) (g : Nat) : Bool := d.ports.recal.any (fun r => r.1 / 8 == g)

/-! ### Links (R92 to R95) -/

/-- All pause timers of a port cleared. -/
def Dev.clearPauses (d : Dev) (p : Nat) : Dev :=
  ({ d with ports := { d.ports with pauses := d.ports.pauses.filter (fun x => x.1.1 != p) } }).put
    R.PORT_STATUS_TX_PAUSED 0 p

/-- The frame in transmission on a port, if any. -/
def Dev.txFrame (d : Dev) (p : Nat) : Option Frame :=
  d.basin.frames.find? (fun f => f.stage == .egress && f.egress == p)

/-- The frame of a port that was cut short on its ring while it arrived has ended with `n` bytes received, and is charged with
its outgoing length (10 R379; 11 R415; 02 R75). -/
def Dev.chargeOwed (d : Dev) (p n : Nat) : Dev :=
  match assoc d.ports.owed p with
  | none => d
  | some (i, dir, cls, delta) =>
    ({ d with ports := { d.ports with owed := assocDel d.ports.owed p } }).chargeFrame i dir cls
      ((min n (d.get R.PORT_CTRL_RX_MAX_LEN p) : Int) + delta).toNat

/-- The frame that arrives on a port is ended because its ingress stopped: at the bytes held, or, without a window, discarded;
what still comes of it in this Notch is thrown away (R93, 08 R293; 09 R318, R335). -/
def Dev.endArriving (d : Dev) (p : Nat) : Dev :=
  match assoc d.ports.rx p with
  | none => d
  | some x =>
    let d0 : Dev := { d with ports := { d.ports with rx := assocDel d.ports.rx p, ended := d.ports.ended ++ [p] } }
    match x.1 with
    | .discard => d0
    | .basin h _ _ =>
      let d1 := (d0.count R.PORT_RX_FCS_ERR 1 p).giveBack p
      (match d.frame? h with
       | none => d1
       | some f =>
         if f.winNotch.isNone then d1.freeFrame h
         else
           let g := ({ f with complete := true, errored := true }).clamp
           ((d1.modFrame h (fun _ => g)).chargeRemainder g).policeRemainder g)
    | .gone n _ => (d0.count R.PORT_RX_FCS_ERR 1 p).chargeOwed p n
    | _ => d0.count R.PORT_RX_FCS_ERR 1 p

/-- The frame in transmission ended with an invalid FCS (R94). -/
def Dev.breakTx (d : Dev) (p : Nat) : Dev :=
  match d.txFrame p with
  | none => d
  | some f => (((d.count R.PORT_TX_ERR_END 1 p).emit (.frame p f.bytes false)).leave f f.txTs)

/-- Frames queued for a port whose ADMIN was written 0 are dropped and counted, and the port closes no longer (R95). -/
def Dev.dropQueued (d : Dev) (p : Nat) : Dev :=
  let queued := d.basin.frames.filter (fun f => f.stage == .queued && f.egress == p)
  let d1 := d.each queued (fun d f => (d.count R.PORT_TX_DOWN_DROP 1 p).leave f none)
  { d1 with
    ports := { d1.ports with closing := d1.ports.closing.filter (fun x => x != p) }
    sched := { d1.sched with offers := assocDel d1.sched.offers p } }

/-- A link goes DOWN: its arriving frame ends, its pauses and its flow-control frames not acted on are gone, and the change is
recorded (R92 to R94). A port that closes drops the frames queued for it (R95). -/
def Dev.linkDown (d : Dev) (p : Nat) : Dev :=
  let d1 := ((d.breakTx p).endArriving p).clearPauses p
  let d2 : Dev := { d1 with ports := { d1.ports with control := d1.ports.control.filter (fun c => c.port != p) } }
  let d3 := if d2.ports.closing.contains p then d2.dropQueued p else d2
  ((d3.put R.PORT_STATUS_LINK 0 p).raiseBit R.PORT_EVENTS 1 p).error (pgPORT p) 3 0 p

/-- A port whose ADMIN is 0 and that transmits nothing goes DOWN and drops the frames queued for it (R95). -/
def Dev.closePort (d : Dev) (p : Nat) : Dev :=
  (if d.get R.PORT_STATUS_LINK p = 0 then (d.endArriving p).clearPauses p else d.linkDown p).dropQueued p

/-- The mode of a group put in force: a link that still ends its last frame goes down, the mode's ports start DOWN, and every
other port number of the group leaves service (R87, R88, R94). -/
def Dev.setMode (d : Dev) (g gmode q0 q1 : Nat) : Dev :=
  let ps := groupPorts g gmode q0 q1
  let d0 := d.each (((List.range 8).map (fun k => 8 * g + k)).filter (fun p =>
    d.portInService p && d.get R.PORT_STATUS_LINK p != 0)) Dev.linkDown
  let d1 := d0.put R.LANEGRP_STATUS (gmode + q0 * 2 + q1 * 16) g
  d1.each (List.range 8) (fun d k =>
    let p := 8 * g + k
    match assoc ps p with
    | some n => (d.put R.PORT_STATUS_LINK 0 p).put R.PORT_STATUS_LANES n p
    | none => (d.put R.PORT_STATUS_LINK 3 p).put R.PORT_STATUS_LANES 0 p)

/-- APPLY_MODE (R86, R88): LANEGRP.MODE is put in force. -/
def execApplyMode (path : Path) (group : Nat) (s : State) : Host.Outcome State Fault Refusal :=
  s.act (fun d =>
    let g := group % 2
    d.command path (pgLANEGRP g) 0x50 ⟨.LANEGRP, g, 10⟩ (fun d => d.laneStatus g 1 0 1) (fun d =>
      let gm := d.get R.LANEGRP_MODE_GMODE g
      let q0 := d.get R.LANEGRP_MODE_QMODE0 g
      let q1 := d.get R.LANEGRP_MODE_QMODE1 g
      if d.recalBusy g then d.laneStatus g 1 0 1
      else if gm = 1 ∧ (6 ≤ q0 ∨ 6 ≤ q1) then d.laneStatus g 1 0 3
      else if (List.range 8).any (fun k => d.portInService (8 * g + k) && d.flag R.PORT_CTRL_ADMIN (8 * g + k)) then
        d.laneStatus g 1 0 2
      else (d.setMode g gm q0 q1).laneStatus g 1 0 0))

/-- RECAL (R97): one port of a group is recalibrated. A port of the other group reads NOT_IN_SERVICE (DESIGN CHOICE,
notes/assumptions/144). -/
def execRecal (path : Path) (group port : Nat) (s : State) : Host.Outcome State Fault Refusal :=
  s.act (fun d =>
    let g := group % 2
    d.command path (pgLANEGRP g) 0x50 ⟨.LANEGRP, g, 10⟩ (fun d => d.laneStatus g 2 port 1) (fun d =>
      if d.recalBusy g then d.laneStatus g 2 port 1
      else if port / 8 ≠ g ∨ !d.portInService port then d.laneStatus g 2 port 4
      else
        let d1 := if d.get R.PORT_STATUS_LINK port = 0 then d else d.linkDown port
        (({ d1 with ports := { d1.ports with
            recal := assocSet d1.ports.recal port (d.dial.notch + 781250) } }).laneStatus g 2 port 5).cmdStart (laneKey g)))

/-- A recalibration ends: its command reads DONE. -/
def Dev.recalDone (d : Dev) (p : Nat) : Dev :=
  if (assoc d.ports.recal p).isSome then
    ({ d with ports := { d.ports with recal := assocDel d.ports.recal p } }).cmdFinish R.LANEGRP_CMD_STATUS 0 (p / 8)
  else d

/-- LINK_TRAINING_START (R92, R97): a port that at the start of the Notch was in service with ADMIN 1 and LINK DOWN, and still
is, moves to TRAINING. -/
def execLinkTrainingStart (port : Nat) (s : State) : Host.Outcome State Fault Refusal :=
  s.live (fun d =>
    if d.portInService port && d.getStart R.PORT_CTRL_ADMIN port == 1 && d.getStart R.PORT_STATUS_LINK port == 0 &&
        d.get R.PORT_STATUS_LINK port == 0 then
      (d.recalDone port).put R.PORT_STATUS_LINK 1 port
    else d)

/-- LINK_UP (R92): auto-negotiation, training and PCS alignment have completed. -/
def execLinkUp (port : Nat) (s : State) : Host.Outcome State Fault Refusal :=
  s.live (fun d =>
    if d.portInService port && d.get R.PORT_STATUS_LINK port == 1 then
      (d.put R.PORT_STATUS_LINK 2 port).raiseBit R.PORT_EVENTS 0 port
    else d)

/-- LINK_DOWN (R92, R94): the PCS loses alignment or the FEC declares a high symbol-error condition. -/
def execLinkDown (port : Nat) (s : State) : Host.Outcome State Fault Refusal :=
  s.live (fun d =>
    if d.portInService port && d.get R.PORT_STATUS_LINK port != 0 then d.linkDown port else d)

/-- LINK_TRAINING_FAIL (15 R494): auto-negotiation or link training of a port fails. -/
def execLinkTrainingFail (port : Nat) (s : State) : Host.Outcome State Fault Refusal :=
  s.live (fun d =>
    if d.portInService port && d.get R.PORT_STATUS_LINK port == 1 then
      (d.raiseBit R.PORT_EVENTS 3 port).error (pgPORT port) 3 0 port
    else d)

/-- What ADMIN written 0 does to a port: its arriving frame ends, and it goes DOWN once it transmits nothing (R95; 08 R293). -/
def Dev.adminDown (d : Dev) (p : Nat) : Dev :=
  if !d.portInService p then d
  else if (d.txFrame p).isSome then
    (let d1 := d.endArriving p
     { d1 with ports := { d1.ports with closing := d1.ports.closing ++ [p] } })
  else d.closePort p

/-- ADMIN_DOWN (R95; 18 R592): PORT.CTRL.ADMIN is written 0. -/
def execAdminDown (path : Path) (port : Nat) (s : State) : Host.Outcome State Fault Refusal :=
  s.act (fun d =>
    let p := port % 16
    (d.touch path).ownWrite path (pgPORT p) R.PORT_CTRL_ADMIN p 0 0 (fun d => ((d.put R.PORT_CTRL_ADMIN 0 p).adminDown p, true)))

/-- FEC_WINDOW (R96): a 1 s window of a port ends with its codewords corrected, uncorrectable and received. Windows follow one
another from the device's start, whatever the link does (DESIGN CHOICE, notes/assumptions/22). A port that left service within the
window still counts its codewords. -/
def execFecWindow (port corrected uncorrectable received : Nat) (s : State) : Host.Outcome State Fault Refusal :=
  s.live (fun d =>
    let from_ := (assoc d.ports.fecFrom port).getD 0
    if port < 16 ∧ from_ + 15625000 ≤ d.dial.notch then
      let d1 := (d.count R.PORT_FEC_CORR_CW corrected port).count R.PORT_FEC_UNCORR_CW uncorrectable port
      let d2 : Dev := { d1 with ports := { d1.ports with fecFrom := assocSet d1.ports.fecFrom port d.dial.notch } }
      if !d.portInService port then d2
      else if received < uncorrectable * 1000000000 then
        let d3 := (d2.put R.PORT_STATUS_FEC_DEGRADED 1 port).raiseBit R.PORT_EVENTS 2 port
        d3.error (pgPORT port) 4 0 port
      else d2.put R.PORT_STATUS_FEC_DEGRADED 0 port
    else d)

/-- CAL_DRIFT (R97; 15 R494, R513): a lane of a port has drifted past its calibration limit; `recalled` where it stays
past the limit after RECAL of its port. -/
def execCalDrift (port lane : Nat) (recalled : Bool) (s : State) : Host.Outcome State Fault Refusal :=
  s.live (fun d =>
    if d.portInService port then
      let d1 := d.raiseBit R.PORT_EVENTS 4 port
      if recalled then (d1.error (pgLANEGRP (port / 8)) 20 0 (lane % 16)).setReason 6 else d1
    else d)

/-! ### The receive path (R98 to R101, R112) -/

/-- A big-endian field of `n` bytes of a frame. -/
def beField (bs : List Byte) (off n : Nat) : Nat := beNat ((bs.drop off).take n)

/-- A tag protocol identifier (R100). -/
def isTpid (x : Nat) : Bool := x == 0x8100 || x == 0x88A8

/-- Tagged or not, VID and PCP of the outer tag, and the EtherType after up to two tags. -/
def tagOf (bs : List Byte) : Bool × Nat × Nat × Nat :=
  if isTpid (beField bs 12 2) then
    let tci := beField bs 14 2
    let et := if isTpid (beField bs 16 2) then beField bs 20 2 else beField bs 16 2
    (true, tci % 4096, tci / 8192, et)
  else (false, 0, 0, beField bs 12 2)

/-- Whether filter entry `k` of a port matches (R100). -/
def Dev.filterMatches (d : Dev) (p k : Nat) (t : Bool × Nat × Nat × Nat) : Bool :=
  let tagged := d.get R.PORT_MATCH_TAGGED p k
  let vm := d.get R.PORT_MATCH_VID_MASK p k
  let em := d.get R.PORT_MATCH_ETYPE_MASK p k
  d.flag R.PORT_MATCH_VALID p k && tagged != 3 && !(tagged == 1 && t.1) && !(tagged == 2 && !t.1) &&
    (t.2.1 &&& vm) == (d.get R.PORT_MATCH_VID p k &&& vm) &&
    (!d.flag R.PORT_MATCH_PCP_CARE p k || t.2.2.1 == d.get R.PORT_MATCH_PCP p k) &&
    (t.2.2.2 &&& em) == (d.get R.PORT_MATCH_ETYPE p k &&& em)

/-- The initial class the filters and the default give a frame, or none where it is dropped (R100, R101). -/
def Dev.filterClass (d : Dev) (p : Nat) (bs : List Byte) : Option Nat :=
  let t := tagOf bs
  match (List.range 16).find? (fun k => d.filterMatches p k t) with
  | some k => if d.flag R.PORT_ACTION_ACTION p k then none else some (d.get R.PORT_ACTION_CLASS p k)
  | none =>
    if d.flag R.PORT_RX_DEFAULT_ACTION p then none
    else if t.1 && d.flag R.PORT_RX_DEFAULT_CLASS_SRC p then
      some (d.get R.PORT_RX_DEFAULT_PCP_MAP p / 2 ^ (3 * t.2.2.1) % 8)
    else some (d.get R.PORT_RX_DEFAULT_CLASS p)

/-- The receive timestamp of a frame whose first bit after the SFD crossed `sub` ns into the Notch that has ended (R112). -/
def Dev.rxStamp (d : Dev) (p sub : Nat) : Option (Nat × Nat) :=
  if d.flag R.PORT_TS_CFG_RX_EN p then
    let t : Int := (timeNs d.unstepped : Int) - 64 + (sub % 64 : Nat) - d.getInt R.PORT_TS_CFG_RX_DELAY_NS p
    some (t.toNat / nsPerSec, t.toNat % nsPerSec)
  else none

/-- A valid PAUSE or PFC frame's quanta by class, from its first bytes (R102). -/
def flowQuanta (bs : List Byte) : Option (Bool × List (Option Nat)) :=
  if beField bs 0 6 = 0x0180C2000001 ∧ beField bs 12 2 = 0x8808 ∧ bs.length = 64 then
    if beField bs 14 2 = 1 then some (false, List.replicate 8 (some (beField bs 16 2)))
    else if beField bs 14 2 = 0x0101 then
      let en := beField bs 16 2
      some (true, (List.range 8).map (fun c => if en.testBit c then some (beField bs (18 + 2 * c) 2) else none))
    else none
  else none

/-- The stage and bytes of the frame that arrives on a port. -/
def Dev.setRx (d : Dev) (p : Nat) (st : RxStage) (bs : List Byte) : Dev :=
  { d with ports := { d.ports with rx := assocSet d.ports.rx p (st, bs) } }
def Dev.endRx (d : Dev) (p : Nat) : Dev := { d with ports := { d.ports with rx := assocDel d.ports.rx p } }

/-- Bytes appended to a frame of the Basin, in the cells granted to its ingress, which an admitted frame's egress class holds
too (08 R288, R289). Where they run out, the frame ends at the bytes held: the flag tells. A window completed in this Notch
is noted. -/
def Dev.appendBytes (d : Dev) (h : Nat) (bs : List Byte) : Dev × Bool :=
  match d.frame? h with
  | none => (d, false)
  | some f =>
    let need := cellsFor (bs.length - f.room)
    let more := (d.grantedTo f.ingress).take need
    let n := min bs.length (f.room + more.length * 256)
    let kept := f.bytes ++ bs.take n
    let inLast := min f.room n
    let last := f.cells.getLast?.elim [] (fun c => [(c.1, c.2 + inLast)])
    let cells := f.cells.dropLast ++ last ++ spread (n - inLast) more
    let win := f.winNotch.orElse (fun _ => if 256 ≤ kept.length then some d.dial.notch else none)
    let d1 := d.takeGranted f.ingress need
    let d2 := if f.stage = .queued ∨ f.stage = .egress then
        d1.setOcc (8 * f.egress + f.cls) (d1.get R.BASIN_Q_AGE_OCC 0 (8 * f.egress + f.cls) + more.length)
      else d1
    ((d2.modFrame h (fun f => { f with
        bytes := kept, cells := cells, winNotch := win, room := f.room + more.length * 256 - n })).flowCheck f.ingress f.cls0,
      decide (n < bs.length))

/-- The last byte of a frame of `n` received bytes has been written: its outcome by truncation and FCS (R98 steps 5 and 6,
R121; 02 R65 to R67; 06 R213; 08 R292; 09 R318, R335). Without a ticket a frame with a bad FCS is discarded, its window complete
or not (DEDUCED, notes/assumptions/115), and one that wants a cell (`cut`) is where its window is not complete. -/
def Dev.finishRx (d : Dev) (p h n : Nat) (bad cut : Bool) : Dev :=
  match d.frame? h with
  | none => d.endRx p
  | some f =>
    let d1 := (if bad then d.count R.PORT_RX_FCS_ERR 1 p else d).giveBack p
    let err := bad || cut || f.errored
    if f.stage == .arriving && (bad || (cut && f.winNotch.isNone)) then (d1.freeFrame h).endRx p
    else
      let d2 := if bad || cut then d1 else (d1.count R.PORT_RX_FRAMES 1 p).count R.PORT_RX_OCTETS n p
      let d3 := d2.modFrame h (fun f => ({ f with complete := true, errored := err,
                                                  winNotch := f.winNotch.orElse (fun _ => some d.dial.notch) }).clamp)
      let g := (d3.frame? h).getD f
      ((d3.chargeRemainder g).policeRemainder g).endRx p

/-- Bytes of an accepted frame, of which `n` came before and which was truncated or not, written to the Basin, cut at
RX_MAX_LEN, and its end where they are the last (R98 steps 5 and 6). -/
def Dev.writeRx (d : Dev) (p h n : Nat) (cut : Bool) (bs : List Byte) (last fcsGood : Bool) : Dev :=
  let max_ := d.get R.PORT_CTRL_RX_MAX_LEN p
  let all := n + bs.length
  let past : Bool := cut || decide (max_ < all)
  let r := d.appendBytes h (if cut then [] else bs.take (max_ - n))
  let d1 := if past && !cut then (r.1.count R.PORT_RX_OVERSIZE 1 p).modFrame h (fun f => { f with errored := true }) else r.1
  if r.2 then
    let d2 := (d1.count R.PORT_RX_NOCELL 1 p).finishRx p h all false true
    if last then d2 else d2.setRx p .discard []
  else if last then d1.finishRx p h all (!fcsGood) false
  else d1.setRx p (.basin h all past) []

/-- The decision on a frame once its first 64 bytes are staged (R98 steps 2 to 4, R99), with its receive timestamp. The filters
are those in force in this Notch, the event Notch of the bytes (DESIGN CHOICE, notes/assumptions/116). -/
def Dev.judgeRx (d : Dev) (p : Nat) (ts : Option (Nat × Nat)) (bs : List Byte) (last fcsGood : Bool) : Dev :=
  if beField bs 12 2 = 0x8808 then
    if last then
      let d1 := d.endRx p
      if !fcsGood then d1.count R.PORT_RX_FCS_ERR 1 p
      else
        match flowQuanta bs with
        | none => d1.count R.PORT_RX_MACCTL_OTHER 1 p
        | some (pfc, qs) =>
          { d1 with ports := { d1.ports with control := d1.ports.control ++ [⟨p, pfc, qs, d.dial.notch⟩] } }
    else d.setRx p .control bs
  else
    match d.filterClass p (bs.take 64) with
    | none =>
      let d1 := d.count R.PORT_RX_FILTER_DROP 1 p
      if last then d1.endRx p else d1.setRx p .discard []
    | some cls =>
      match d.grantedTo p with
      | [] =>
        let d1 := d.count R.PORT_RX_NOCELL 1 p
        if last then d1.endRx p else d1.setRx p .discard []
      | h :: _ =>
        let d0 := d.takeGranted p 1
        let f : Frame := { head := h, cells := [(h, 0)], bytes := [], ingress := p, cls0 := cls,
                           arrival := d.dial.notch, ts := ts }
        let d1 : Dev := { d0 with basin := { d0.basin with frames := d0.basin.frames ++ [f] } }
        d1.writeRx p h 0 false bs last fcsGood

/-- The rest of a frame that the Basin dropped, now of `n` bytes: truncation and FCS are counted as they would have been
(R98 steps 5 and 6, R121). -/
def Dev.countGone (d : Dev) (p n : Nat) (cut last fcsGood : Bool) : Dev :=
  let past : Bool := cut || decide (d.get R.PORT_CTRL_RX_MAX_LEN p < n)
  let d1 := if past && !cut then d.count R.PORT_RX_OVERSIZE 1 p else d
  let d2 := d1.chargeOwed p n
  if !last then d1.setRx p (.gone n past) []
  else if !fcsGood then (d2.endRx p).count R.PORT_RX_FCS_ERR 1 p
  else ((d2.endRx p).count R.PORT_RX_FRAMES 1 p).count R.PORT_RX_OCTETS n p

/-- Bytes that arrive in the Notch in which the link goes down, or ADMIN is written 0: of a frame already ended they are
nothing; a frame that holds no cell yet is discarded and counted, a PAUSE or PFC frame without effect (R93). -/
def Dev.loseRx (d : Dev) (p : Nat) (chunk : List Byte) (last fcsGood : Bool) : Dev :=
  let d1 : Dev := if last then { d with ports := { d.ports with ended := d.ports.ended.filter (fun x => x != p) } }
    else if d.ports.ended.contains p then d else { d with ports := { d.ports with ended := d.ports.ended ++ [p] } }
  if d.ports.ended.contains p || (last && fcsGood && (flowQuanta chunk).isSome) then d1
  else d1.count R.PORT_RX_FCS_ERR 1 p

/-- The next bytes of the frame that arrives on a port (R91, R98 to R102, R112; 02 R66 to R68). A port that closes takes no new
frame (DESIGN CHOICE, notes/assumptions/117). -/
def Dev.receive (d : Dev) (port sub : Nat) (chunk : List Byte) (last fcsGood : Bool) : Dev :=
    if d.portInService port && d.get R.PORT_STATUS_LINK port == 2 && !d.ports.closing.contains port then
      match (assoc d.ports.rx port).getD (.staging (d.rxStamp port sub), []) with
      | (.discard, _) => if last then d.endRx port else d
      | (.gone n cut, _) => d.countGone port (n + chunk.length) cut last fcsGood
      | (.basin h n cut, _) => d.writeRx port h n cut chunk last fcsGood
      | (.control, bs) => d.judgeRx port none (bs ++ chunk) last fcsGood
      | (.staging ts, bs) =>
        let all := bs ++ chunk
        if 64 ≤ all.length then d.judgeRx port ts all last fcsGood
        else if last then (d.count R.PORT_RX_RUNT 1 port).endRx port
        else d.setRx port (.staging ts) all
    else if d.portInService port && d.getStart R.PORT_STATUS_LINK port == 2 then d.loseRx port chunk last fcsGood
    else d

/-- The ticket of a frame as the device creates it (02 R65, R69, R70). -/
def newTicket (f : Frame) : Ticket :=
  let t0 : Ticket := f.back.getD { }
  let n := f.bytes.length
  let base := (((((t0.put T.INGRESS f.ingress).put T.HEAD_CELL f.head).put T.CELLS f.cells.length).put T.LEN
    (if f.complete then n else 0)).put T.WIN_LEN (min 256 n)).put T.PARTIAL (bit (!f.complete))
  let fresh := if f.back.isSome then base
    else
      ((base.put T.CLASS f.cls0).put T.ARRIVAL f.arrival).put T.INSTANCE (if f.ingress = 16 ∨ f.ingress = 17 then f.origin.getD 0 else 0)
  match f.ts with
  | some ts => ((fresh.put T.RX_TS_NS ts.2).put T.RX_TS_SEC ts.1).put T.TS_VALID 1
  | none => fresh

/-! ### Flow control received (R102 to R107) -/

/-- The oldest valid flow-control frame of a kind that a port has received, and the rest: FRAME_RECEIVE is an event of the
Notch after its bytes arrived (R24), so the frame acts from that Notch on (R102, log entry 110). -/
def Dev.takeFlow (d : Dev) (p : Nat) (pfc : Bool) : Option (FlowFrame × Dev) :=
  match d.ports.control.find? (fun c => c.port == p && c.pfc == pfc && decide (c.notch ≤ d.dial.notch)) with
  | none => none
  | some c => some (c, { d with ports := { d.ports with control := d.ports.control.erase c } })

/-- The pause timer of a class set to `q` quanta, or ended by 0 (R105, R106). -/
def Dev.setPause (d : Dev) (p c q : Nat) : Dev :=
  let bits := d.get R.PORT_STATUS_TX_PAUSED p
  if q = 0 then
    ({ d with ports := { d.ports with pauses := assocDel d.ports.pauses (p, c) } }).put R.PORT_STATUS_TX_PAUSED
      (bits &&& (255 - 2 ^ c)) p
  else
    let r := d.portRate p * 6400
    let t := (q * 512 + r - 1) / r
    ({ d with ports := { d.ports with pauses := assocSet d.ports.pauses (p, c) (d.dial.notch + t) } }).put
      R.PORT_STATUS_TX_PAUSED (bits ||| 2 ^ c) p

/-- The effect of a received flow-control frame: counted, and, unless it is ignored, its classes' timers set
(R103 to R107). -/
def Dev.actFlow (d : Dev) (c : FlowFrame) : Dev :=
  let p := c.port
  let d1 := if c.pfc then d.count R.PORT_RX_PFC 1 p else d.count R.PORT_RX_PAUSE 1 p
  let mode := d.get R.PORT_FC_CFG_RX_MODE p
  if d.flag R.PORT_FC_CFG_FC_IGNORE p || (c.pfc && mode == 0) || (!c.pfc && mode == 1) then
    d1.count R.PORT_RX_FC_IGNORED 1 p
  else
    d1.each (List.range 8) (fun d k => match nth c.quanta k none with | some q => d.setPause p k q | none => d)

/-- PAUSE_RECEIVED (R102 to R107): the event Notch of a valid PAUSE frame of a port. -/
def execPauseReceived (port : Nat) (s : State) : Host.Outcome State Fault Refusal :=
  s.live (fun d => match d.takeFlow port false with | some (c, d1) => d1.actFlow c | none => d)

/-- PFC_RECEIVED (R102 to R107): the event Notch of a valid PFC frame of a port. -/
def execPfcReceived (port : Nat) (s : State) : Host.Outcome State Fault Refusal :=
  s.live (fun d => match d.takeFlow port true with | some (c, d1) => d1.actFlow c | none => d)

/-- Whether a class of a port is paused in this Notch (R105). -/
def Dev.paused (d : Dev) (p c : Nat) : Bool :=
  match assoc d.ports.pauses (p, c) with
  | some e => decide (d.dial.notch < e)
  | none => false

/-- PAUSE_TIMER_EXPIRY (R105, R107): a class's pause timer has run out. -/
def execPauseTimerExpiry (port cls : Nat) (s : State) : Host.Outcome State Fault Refusal :=
  s.live (fun d =>
    match assoc d.ports.pauses (port, cls) with
    | some e => if e ≤ d.dial.notch then d.setPause port cls 0 else d
    | none => d)

/-! ### Flow control sent (R108, R109) -/

/-- A flow-control frame that may be sent now on a port: its condition arose in an earlier Notch. -/
def Dev.dueFlow (d : Dev) (p : Nat) : Option FlowSend :=
  d.ports.sends.find? (fun x => x.port == p && decide (x.notch < d.dial.notch))

/-- FLOW_CONTROL_SEND (R108, R109): a pending PAUSE or PFC frame of a port is sent at a frame boundary. It counts in no
transmit counter of R121 (DESIGN CHOICE, notes/assumptions/114). -/
def execFlowControlSend (port : Nat) (s : State) : Host.Outcome State Fault Refusal :=
  s.live (fun d =>
    match d.dueFlow port with
    | none => d
    | some x =>
      if d.get R.PORT_STATUS_LINK port != 2 || (d.txFrame port).isSome then d
      else
        let d1 : Dev := { d with ports := { d.ports with sends := d.ports.sends.erase x } }
        let d2 := d1.emit (.flowControl port x.pfc (if x.pfc then 2 ^ x.cls else 255) x.quanta)
        let d3 := if x.pfc then d2.count R.PORT_TX_PFC 1 port else d2.count R.PORT_TX_PAUSE 1 port
        if x.quanta = 0 then d3 else d3.raiseBit R.PORT_EVENTS 5 port)

/-- PFC_REFRESH (R108): REFRESH Notches after the latest XOFF frame of a class (8: all classes, by PAUSE) that stays above
XON_CELLS, the frame is repeated. -/
def execPfcRefresh (port cls : Nat) (s : State) : Host.Outcome State Fault Refusal :=
  s.live (fun d =>
    match assoc d.ports.xoff (port, cls) with
    | none => d
    | some n =>
      if n + d.get R.PORT_FC_CFG_REFRESH port ≤ d.dial.notch ∧ d.flowOn port cls ∧
          d.get R.PORT_PFC_THRESH_XON_CELLS port < d.flowCells port cls then
        { d with ports := { d.ports with
            xoff := assocSet d.ports.xoff (port, cls) d.dial.notch
            sends := d.ports.sends ++ [⟨port, cls != 8, cls, d.get R.PORT_FC_CFG_TX_QUANTA port, d.dial.notch⟩] } }
      else d)

/-- What a Notch does to the ports by itself: paused classes are counted, and a recalibration that has lasted its bound
ends (R97, R121). The rest of a frame that a closing port ended is thrown away in later Notches too (08 R293). -/
def Dev.tickPorts (d0 : Dev) : Dev :=
  let d : Dev := { d0 with ports := { d0.ports with
      ended := d0.ports.ended.filter (fun p => d0.ports.closing.contains p && d0.get R.PORT_STATUS_LINK p != 0) } }
  let d1 := d.each (d.ports.pauses.filter (fun x => decide (d.dial.notch < x.2)))
    (fun d x => d.count R.PORT_TX_PAUSED_NOTCHES 1 x.1.1 x.1.2)
  d1.each (d1.ports.recal.filter (fun r => decide (r.2 ≤ d1.dial.notch))) (fun d r => d.recalDone r.1)

end Sys2Proof.Machine
end

