-- ==== Sys2Proof/Machine/Threads.lean ====
section
/-! DEFINITION. Threads, locks, channels and core stops: the operations that instructions, the debugger, the stall watches
and the tenure of slots share (spec/04_glen_cores.md R129 to R158). -/

namespace Sys2Proof

/-- Core and Glen of a thread. -/
def ThreadId.glenNo : ThreadId → Nat
  | .glen g _ _ => g
  | .ctrl _ => 32
def ThreadId.coreNo : ThreadId → Nat
  | .glen _ c _ => c
  | .ctrl c => c
def ThreadId.threadNo : ThreadId → Nat
  | .glen _ _ t => t
  | .ctrl _ => 0

end Sys2Proof

namespace Sys2Proof.Machine

/-! ### Glens, slots and threads -/

/-- A physical Glen and a slot, and the device with one changed. -/
def Dev.glen (d : Dev) (g : Nat) : Glen := (assoc d.glens.glens g).getD { }
def Dev.modGlen (d : Dev) (g : Nat) (f : Glen → Glen) : Dev :=
  { d with glens := { d.glens with glens := assocSet d.glens.glens g (f (d.glen g)) } }
def Dev.slot (d : Dev) (k : Nat) : Slot := (assoc d.glens.slots k).getD { }
def Dev.modSlot (d : Dev) (k : Nat) (f : Slot → Slot) : Dev :=
  { d with glens := { d.glens with slots := assocSet d.glens.slots k (f (d.slot k)) } }

/-- States of a physical Glen (R126). -/
def glSpare : Nat := 0
def glFilling : Nat := 1
def glService : Nat := 2
def glDraining : Nat := 3
def glDead : Nat := 4
def glIsolated : Nat := 5
def glSelftest : Nat := 6
def glFailed : Nat := 7

/-- State of a physical Glen, and the device with it set. -/
def Dev.glState (d : Dev) (g : Nat) : Nat := d.get R.GPHYS_STATUS_STATE g
def Dev.setGlState (d : Dev) (g st : Nat) : Dev := d.put R.GPHYS_STATUS_STATE st g

/-- The Glen holds a slot: IN_SERVICE or DRAINING. -/
def Dev.glHolds (d : Dev) (g : Nat) : Bool := d.glState g == glService || d.glState g == glDraining

/-- States of a slot (R127). -/
def slVacant : Nat := 0
def slFilling : Nat := 1
def slService : Nat := 2
def slDraining : Nat := 3

/-- State of a slot. -/
def Dev.slState (d : Dev) (k : Nat) : Nat := d.get R.GLEN_SLOT_STATE 0 k

/-- The mode in force of a thread: 0 OFF, 1 PACKET, 2 SERVICE (R130). -/
def Dev.mode (d : Dev) (g c t : Nat) : Nat := nth (d.glen g).modes c 0 / 4 ^ t % 4

/-- A core runs. -/
def Dev.coreRuns (d : Dev) (g c : Nat) : Bool := (d.get R.GPHYS_STATUS_CORES_RUN g).testBit c

/-- A thread; one that no list names is OFF, idle, or stopped with its core. -/
def Dev.thread (d : Dev) (id : ThreadId) : Thread :=
  match assoc d.glens.threads id with
  | some t => t
  | none =>
    match id with
    | .glen g c t =>
      { halted := d.held
        st := if d.mode g c t = 0 then .off
              else if !d.coreRuns g c then .stopped
              else if d.mode g c t = 1 then .idle else .off }
    | .ctrl _ => { st := .ready }

/-- The device with a thread set, or changed. -/
def Dev.setThread (d : Dev) (id : ThreadId) (t : Thread) : Dev :=
  { d with glens := { d.glens with threads := assocSet d.glens.threads id t } }
def Dev.modThread (d : Dev) (id : ThreadId) (f : Thread → Thread) : Dev := d.setThread id (f (d.thread id))

/-- A register read, g0 reading 0, and written, a write to g0 being discarded (05 R175). -/
def Thread.reg (t : Thread) (r : Nat) : Word := if r % 32 = 0 then 0 else nth t.regs (r % 32) 0
def Thread.setReg (t : Thread) (r : Nat) (v : Word) : Thread :=
  if r % 32 = 0 then t else { t with regs := setNth t.regs (r % 32) v }

/-- Registers written one after the other. -/
def Thread.setRegs (t : Thread) (l : List (Nat × Word)) : Thread := l.foldl (fun t x => t.setReg x.1 x.2) t

/-- An instruction and its wait are over: a stepped thread halts again (R155). -/
def Thread.finish (t : Thread) : Thread :=
  if t.stepped then { t with stepped := false, halted := true } else t

/-- A wait ends; the thread of a stopped core stays stopped. -/
def Thread.wake (t : Thread) : Thread :=
  match t.st with
  | .stopped => t
  | _ => { t with st := .ready, waitObj := 0 }.finish

/-- A thread of core `c` of Glen `g`. -/
def ofCore (g c : Nat) (id : ThreadId) : Bool :=
  match id with | .glen g' c' _ => g' == g && c' == c | .ctrl _ => false
/-- A thread of Glen `g`. -/
def ofGlen (g : Nat) (id : ThreadId) : Bool := match id with | .glen g' _ _ => g' == g | .ctrl _ => false

/-! ### Locks (R142, R143) -/

/-- The place of a lock number as a Glen names it: device-wide locks under 32. -/
def lockKey (g n : Nat) : Nat × Nat := if n < 4096 then (g, n) else (32, n)

/-- A lock, and the device with it set. -/
def Dev.lock (d : Dev) (k : Nat × Nat) : Lock := (assoc d.glens.locks k).getD { }
def Dev.putLock (d : Dev) (k : Nat × Nat) (l : Lock) : Dev :=
  { d with glens := { d.glens with locks := assocSet d.glens.locks k l } }

/-- Locks held by a thread. -/
def Dev.locksHeld (d : Dev) (id : ThreadId) : List (Nat × Nat) :=
  (d.glens.locks.filter (fun x => x.2.holder == some id)).map Prod.fst

/-- A lock granted to a thread: a BROKEN lock sets its lock-broken condition and is BROKEN no more (R143). -/
def Dev.grantLock (d : Dev) (k : Nat × Nat) (id : ThreadId) : Dev :=
  let l := d.lock k
  (d.putLock k { l with holder := some id, broken := false }).modThread id
    (fun t => { t with lockBroken := t.lockBroken || l.broken })

/-- A lock let go: granted to the oldest waiter, else free (R142). -/
def Dev.passLock (d : Dev) (k : Nat × Nat) : Dev :=
  let l := d.lock k
  match l.waiters with
  | [] => d.putLock k { l with holder := none }
  | w :: ws => ((d.putLock k { l with holder := none, waiters := ws }).grantLock k w).modThread w Thread.wake

/-- Every lock of a set of threads released and marked BROKEN (R143). -/
def Dev.breakLocks (d : Dev) (who : ThreadId → Bool) : Dev :=
  let mine := d.glens.locks.filter (fun x => x.2.holder.any who)
  d.each mine (fun d x => (d.putLock x.1 { d.lock x.1 with broken := true }).passLock x.1)

/-! ### Channels (R138 to R141) -/

/-- A channel of a Glen, and the device with it set. -/
def Dev.chan (d : Dev) (k : Nat × Nat) : Channel := (assoc d.glens.channels k).getD { }
def Dev.setChan (d : Dev) (k : Nat × Nat) (c : Channel) : Dev :=
  { d with glens := { d.glens with channels := assocSet d.glens.channels k c } }

/-- Words a channel holds, and whether a message of `n` words fits. -/
def Channel.words (c : Channel) : Nat := (c.msgs.map List.length).sum
def Channel.fits (c : Channel) (n : Nat) : Bool := decide (c.words + n ≤ 256)

/-- The writer lock of a channel let go: the oldest waiting writer takes it and opens its stage (R139). -/
def Dev.passWriter (d : Dev) (k : Nat × Nat) : Dev :=
  let c := d.chan k
  match c.writers with
  | [] => d.setChan k { c with writer := none }
  | w :: ws =>
    (d.setChan k { c with writer := some w, writers := ws }).modThread w
      (fun t => { t with stage := some (k.2, [t.waitWord]) }.wake)

/-- A message's length and words written to a reader's registers: at most `n` words, the rest discarded (05 R198). -/
def Thread.receive (t : Thread) (rd n : Nat) (m : List Word) : Thread :=
  t.setRegs ((rd, BitVec.ofNat 64 m.length) :: ((m.take n).zipIdx.map (fun x => (rd + 1 + x.2, x.1))))

/-- Messages given to blocked readers in the order in which they blocked, one each (R141), looking at most `fuel` times. -/
def Dev.deliver (d : Dev) (k : Nat × Nat) : Nat → Dev
  | 0 => d
  | fuel + 1 =>
    let c := d.chan k
    match c.readers, c.msgs with
    | r :: rs, m :: ms =>
      ((d.setChan k { c with readers := rs, msgs := ms }).modThread r
        (fun t => (t.receive t.waitRd t.waitK m).wake)).deliver k fuel
    | _, _ => d

/-- A staged message appended whole: the stage closes, the writer lock is let go, and readers are served (R140). -/
def Dev.commit (d : Dev) (k : Nat × Nat) (id : ThreadId) (m : List Word) : Dev :=
  let c := d.chan k
  (((d.setChan k { c with msgs := c.msgs ++ [m] }).modThread id (fun t => { t with stage := none })).passWriter k).deliver
    k (c.readers.length + 1)

/-- A commit that waited for room goes on when its whole message fits (R140). -/
def Dev.retryCommit (d : Dev) (k : Nat × Nat) : Dev :=
  let c := d.chan k
  match c.writer with
  | none => d
  | some w =>
    let t := d.thread w
    match t.st, t.stage with
    | .blkChfull, some (_, m) => if c.fits m.length then (d.modThread w Thread.wake).commit k w m else d
    | _, _ => d

/-- The stages of a set of threads of a Glen discarded, their writer locks let go, and the threads taken out of every
channel's queues. -/
def Dev.leaveChannels (d : Dev) (who : ThreadId → Bool) : Dev :=
  let d1 : Dev := { d with glens := { d.glens with
    channels := d.glens.channels.map (fun x => (x.1, { x.2 with
      writers := x.2.writers.filter (fun i => !who i), readers := x.2.readers.filter (fun i => !who i) }))
    threads := d.glens.threads.map (fun x => if who x.1 then (x.1, { x.2 with stage := none }) else x) } }
  let mine := d1.glens.channels.filter (fun x => x.2.writer.any who)
  d1.each mine (fun d x => d.passWriter x.1)

/-- Threads taken out of every lock's queue. -/
def Dev.leaveLocks (d : Dev) (who : ThreadId → Bool) : Dev :=
  { d with glens := { d.glens with
    locks := d.glens.locks.map (fun x => (x.1, { x.2 with waiters := x.2.waiters.filter (fun i => !who i) })) } }

/-! ### Tickets on their way out -/

/-- A ticket leaves a Glen toward the Defile (R73). -/
def Dev.sendOut (d : Dev) (g : Nat) (p : Pkt) : Dev := d.modGlen g (fun x => { x with flying := x.flying ++ [p] })

/-- A ticket that leaves as a drop with an ERR code. -/
def Pkt.dropped (p : Pkt) (err : Nat) : Pkt := { p with tk := (p.tk.put T.DEST_TYPE 5).put T.ERR err }

/-- A frame whose ticket is gone: its cells are freed at the end of the Notch. -/
def Dev.discard (d : Dev) (head : Nat) : Dev :=
  match d.frame? head with
  | some f => (d.noteTx f none).freeFrame head
  | none => d

/-! ### Core stops (R145 to R149) -/

/-- Replies of the table engine to a set of threads will be discarded (05 R202). -/
def Dev.deafen (d : Dev) (who : ThreadId → Bool) : Dev :=
  let deaf := fun (j : TableJob) => if j.who.any (fun w => who w.1) then { j with who := none } else j
  { d with tables := { d.tables with
      learns := d.tables.learns.map deaf
      asked := d.tables.asked.map deaf
      waiting := d.tables.waiting.map (fun x => if x.who.any who then { x with who := none } else x) } }

/-- A core stops in the cycle of a fault; its end follows in the next Notch (R146, R147). -/
def Dev.stopCore (d : Dev) (g c t code pc detail : Nat) : Dev :=
  if !d.coreRuns g c then d
  else
    let d1 := (d.put R.GPHYS_STATUS_CORES_RUN (d.get R.GPHYS_STATUS_CORES_RUN g ^^^ 2 ^ c) g).deafen (ofCore g c)
    { d1 with glens := { d1.glens with
        stops := d1.glens.stops ++ [⟨g, c, t, code, pc, detail, d.dial.notch⟩]
        threads := d1.glens.threads.map (fun x =>
          if ofCore g c x.1 && decide (x.2.st ≠ .off) then (x.1, { x.2 with st := .stopped }) else x) } }

/-- With no core of a holding Glen running, the tickets of its input queue leave as NO_CORE drops (R149). -/
def Dev.noCore (d : Dev) (g : Nat) : Dev :=
  if d.get R.GPHYS_STATUS_CORES_RUN g = 0 && d.glHolds g then
    let k := d.get R.GPHYS_STATUS_SLOT g
    let q := (d.slot k).queue
    (d.modSlot k (fun s => { s with queue := [] })).each q (fun d x => d.sendOut g (x.2.dropped 0xF1))
  else d

/-- What follows a core stop in the next Notch (R147). -/
def Dev.afterStop (d : Dev) (x : CoreStop) : Dev :=
  let g := x.glen
  let c := x.core
  let d1 : Dev := { d with glens := { d.glens with stops := d.glens.stops.erase x } }
  let d2 := ((((d1.put R.GPHYS_CORE_FAULT_CODE x.code g c).put R.GPHYS_CORE_FAULT_THREAD x.thread g c).put
    R.GPHYS_CORE_FAULT_PC x.pc g c).put R.GPHYS_CORE_FAULT_NOTCH x.notch g c).put R.GPHYS_CORE_FAULT_DETAIL x.detail g c
  let d3 := ((d2.count R.GPHYS_FAULTS 1 g).raiseBit R.GPHYS_EVENTS 0 g).error (pgGPHYS g) 7 x.code c
  let mine := d3.glens.threads.filter (fun y => ofCore g c y.1)
  let d4 := d3.each mine (fun d y =>
    match y.2.pkt with
    | some p => (d.sendOut g (p.dropped 0xF0)).modThread y.1 (fun t => { t with pkt := none })
    | none => d)
  let d5 := ((d4.leaveLocks (ofCore g c)).breakLocks (ofCore g c)).leaveChannels (ofCore g c)
  let slot := d5.get R.GPHYS_STATUS_SLOT g
  let d6 : Dev :=
    if d5.flag R.GSLOT_CORE_POLICY_AUTO_RESTART slot then
      { d5 with glens := { d5.glens with
          restarts := assocSet d5.glens.restarts (g, c) (d5.dial.notch + d5.get R.GSLOT_CORE_POLICY_RESTART_DELAY slot) } }
    else d5
  d6.noCore g

/-- One thread-Notch charged for a thread, once a Notch (R133). -/
def Dev.payThread (d : Dev) (id : ThreadId) (i : Nat) : Dev :=
  if d.glens.paid.contains id then d
  else ({ d with glens := { d.glens with paid := d.glens.paid ++ [id] } }).chargeThread i 1

/-- The SERVICE threads of cores that run charged for the Notch (R133). -/
def Dev.payCores (d : Dev) (g : Nat) (cores : List Nat) : Dev :=
  let ids := (cores.flatMap (fun c => (List.range 8).map (fun t => (c, t)))).filter (fun x => d.mode g x.1 x.2 == 2)
  d.each ids (fun d x => d.payThread (.glen g x.1 x.2) 0)

/-- A SERVICE thread started at its entry (R130, R144). -/
def Dev.startService (d : Dev) (g c t : Nat) : Dev :=
  d.setThread (.glen g c t) { st := .ready, pc := (d.glen g).entryService, halted := d.held }

/-- A core started: its threads' registers cleared, each SERVICE thread at its entry, each PACKET thread idle (R148). A debugger's
halt ends (DESIGN CHOICE, notes/assumptions/146). -/
def Dev.startCore (d : Dev) (g c : Nat) : Dev :=
  let d1 : Dev := { d with glens := { d.glens with
    threads := d.glens.threads.filter (fun x => !ofCore g c x.1)
    restarts := assocDel d.glens.restarts (g, c) } }
  let d2 := d1.put R.GPHYS_STATUS_CORES_RUN (d1.get R.GPHYS_STATUS_CORES_RUN g ||| 2 ^ c) g
  d2.each (List.range 8) (fun d t => if d.mode g c t = 2 then d.startService g c t else d)

/-- CORE_STOP (R147): what follows a core's stop in the Notch after it. -/
def execCoreStop (glen core : Nat) (s : State) : Host.Outcome State Fault Refusal :=
  s.live (fun d =>
    match d.glens.stops.find? (fun x => x.glen == glen && x.core == core && decide (x.notch < d.dial.notch)) with
    | some x => d.afterStop x
    | none => d)

/-- CORE_RESTART_AUTO (R148): a stopped core restarts when its automatic restart is due. -/
def execCoreRestartAuto (glen core : Nat) (s : State) : Host.Outcome State Fault Refusal :=
  s.live (fun d =>
    match assoc d.glens.restarts (glen, core) with
    | some n => if n ≤ d.dial.notch && d.glHolds glen && !d.coreRuns glen core then (d.startCore glen core).payCores glen [core]
      else d
    | none => d)

/-! ### Stall watches (R150 to R153) -/

/-- A thread in one of the five waits that the watches see. -/
def ThState.blocked : ThState → Bool
  | .blkChrd | .blkChwr | .blkChfull | .blkLock | .blkEvwait => true
  | _ => false

/-- A live thread: a PACKET thread that holds a ticket, or a SERVICE thread, of a core that runs. -/
def Dev.live (d : Dev) (g c t : Nat) : Bool :=
  d.coreRuns g c && ((d.mode g c t == 1 && (d.thread (.glen g c t)).pkt.isSome) || d.mode g c t == 2)

/-- An idle PACKET thread of a running core. -/
def Dev.idleThread (d : Dev) (g c t : Nat) : Bool :=
  d.coreRuns g c && d.mode g c t == 1 && decide ((d.thread (.glen g c t)).st = .idle)

/-- Able to act: READY or BLK_REPLY, or an idle PACKET thread of a running core. -/
def Dev.able (d : Dev) (g c t : Nat) : Bool :=
  d.coreRuns g c && (decide ((d.thread (.glen g c t)).st = .ready) || decide ((d.thread (.glen g c t)).st = .blkReply) ||
    d.idleThread g c t)

/-- All threads of a Glen as core and thread numbers. -/
def allThreads : List (Nat × Nat) := (List.range 32).flatMap (fun c => (List.range 8).map (fun t => (c, t)))

/-- The holder that a thread in a lock or writer wait awaits. -/
def Dev.awaited (d : Dev) (g : Nat) (t : Thread) : Option ThreadId :=
  match t.st with
  | .blkLock => (d.lock (lockKey g t.waitObj)).holder
  | .blkChwr => (d.chan (g, t.waitObj)).writer
  | _ => none

/-- The thread of a Glen is able to act. -/
def Dev.ableId (d : Dev) (id : ThreadId) : Bool := match id with | .glen g c t => d.able g c t | .ctrl _ => true

/-- A blocked thread of core `c` has a helper for the core watch (R150). -/
def Dev.coreHelper (d : Dev) (g c : Nat) (t : Thread) : Bool :=
  match t.st with
  | .blkLock | .blkChwr =>
    match d.awaited g t with
    | some h => if ofGlen g h then !ofCore g c h && d.ableId h else true
    | none => true
  | .blkChrd | .blkChfull =>
    allThreads.any (fun x => (x.1 != c && d.able g x.1 x.2) || d.idleThread g x.1 x.2)
  | _ => false

/-- A blocked thread of a Glen has a helper for the Glen watch (R150). -/
def Dev.glenHelper (d : Dev) (g : Nat) (t : Thread) : Bool :=
  match t.st with
  | .blkLock =>
    match d.awaited g t with
    | some h => !ofGlen g h
    | none => true
  | .blkChrd | .blkChfull => allThreads.any (fun x => d.idleThread g x.1 x.2)
  | _ => false

/-- A set of threads of a Glen is all-blocked (R151). -/
def Dev.allBlocked (d : Dev) (g : Nat) (ths : List (Nat × Nat)) (helper : Thread → Bool) : Bool :=
  let live := ths.filter (fun x => d.live g x.1 x.2)
  !live.isEmpty && live.all (fun x =>
    let t := d.thread (.glen g x.1 x.2)
    t.st.blocked && !helper t)

/-- A thread of the list is halted by the debugger. -/
def Dev.anyHalted (d : Dev) (who : ThreadId → Bool) : Bool := d.glens.threads.any (fun x => who x.1 && x.2.halted)

/-- Cores of a Glen that have a listed thread. -/
def Dev.busyCores (d : Dev) (g : Nat) : List Nat :=
  ((d.glens.threads.filter (fun x => ofGlen g x.1)).map (fun x => x.1.coreNo)).eraseDups

/-- The stall counts of a Glen brought up to date at the start of a Notch (R151 to R153). -/
def Dev.watchGlen (d : Dev) (g : Nat) : Dev :=
  let cores := d.busyCores g
  let one := fun (old : Glen) (c : Nat) =>
    let blocked := !d.anyHalted (ofCore g c) &&
      d.allBlocked g ((List.range 8).map (fun t => (c, t))) (d.coreHelper g c)
    if blocked then some (c, (assoc old.coreStall c).getD 0 + 1) else none
  let all := !d.anyHalted (ofGlen g) &&
    d.allBlocked g (cores.flatMap (fun c => (List.range 8).map (fun t => (c, t)))) (d.glenHelper g)
  d.modGlen g (fun x => { x with coreStall := cores.filterMap (one x), stall := if all then x.stall + 1 else 0 })

/-- A core stopped by a watch: its lowest live thread and the instruction that thread is blocked on (05 R204). -/
def Dev.stallStop (d : Dev) (g c code : Nat) : Dev :=
  match (List.range 8).find? (fun t => d.live g c t) with
  | some t => d.stopCore g c t code ((d.thread (.glen g c t)).pc - 8) 0
  | none => d

/-- STALL_ALL (R152): a core all-blocked for 64 consecutive Notches stops. -/
def execStallAll (glen core : Nat) (s : State) : Host.Outcome State Fault Refusal :=
  s.live (fun d =>
    if 64 ≤ (assoc (d.glen glen).coreStall core).getD 0 then d.stallStop glen core 0x0E else d)

/-- STALL_GLEN (R152): every core with a live thread of a Glen all-blocked for 256 consecutive Notches stops; a core that
reaches both limits records STALL_ALL. -/
def execStallGlen (glen : Nat) (s : State) : Host.Outcome State Fault Refusal :=
  s.live (fun d =>
    if 256 ≤ (d.glen glen).stall then
      d.each (d.busyCores glen) (fun d c =>
        d.stallStop glen c (if 64 ≤ (assoc (d.glen glen).coreStall c).getD 0 then 0x0E else 0x0F))
    else d)

/-! ### The debugger (R155, R156) -/

/-- A command of GPHYS.DBG_CMD on the selected thread: `f` gives its effect and status. -/
def Dev.debug (d : Dev) (path : Path) (g code : Nat) (f : Dev → ThreadId → Thread → Dev × Nat) : Dev :=
  let st := fun (d : Dev) (x : Nat) => (d.put R.GPHYS_DBG_CMD_CODE code g).put R.GPHYS_DBG_CMD_STATUS x g
  d.command path (pgGPHYS g) 0x70 ⟨.GPHYS, g, 14⟩ (fun d => st d 1) (fun d =>
    let id := ThreadId.glen g (d.get R.GPHYS_DBG_SEL_CORE g) (d.get R.GPHYS_DBG_SEL_THREAD g)
    let r := f d id (d.thread id)
    st r.1 r.2)

/-- HALT (R155). -/
def execHalt (path : Path) (glen : Nat) (s : State) : Host.Outcome State Fault Refusal :=
  s.act (fun d => d.debug path glen 1 (fun d id t =>
    if t.halted then (d, 2) else (d.setThread id { t with halted := true, stepping := false, stepped := false }, 0)))

/-- RESUME of the debugger (R155). -/
def execGphysResume (path : Path) (glen : Nat) (s : State) : Host.Outcome State Fault Refusal :=
  s.act (fun d => d.debug path glen 2 (fun d id t =>
    if t.halted then (d.setThread id { t with halted := false, passed := true }, 0) else (d, 3)))

/-- STEP (R155): exactly one instruction, and halted again; of a thread that waits or is idle, the first that it issues
after that. -/
def execStep (path : Path) (glen : Nat) (s : State) : Host.Outcome State Fault Refusal :=
  s.act (fun d => d.debug path glen 3 (fun d id t =>
    if t.halted then (d.setThread id { t with halted := false, stepping := true, passed := true }, 0) else (d, 3)))

/-- ABORT_STAGE (R155): the stage is discarded; a thread blocked in BLK_CHFULL is READY past its CHCOMMIT (DESIGN CHOICE,
notes/assumptions/145). -/
def execAbortStage (path : Path) (glen : Nat) (s : State) : Host.Outcome State Fault Refusal :=
  s.act (fun d => d.debug path glen 4 (fun d id t =>
    if !t.halted then (d, 3)
    else match t.stage with
      | none => (d, 4)
      | some (c, _) => ((d.setThread id { t with
          stage := none
          st := if t.st = .blkChfull then .ready else t.st }).passWriter (glen, c), 0)))

/-- DROP_TICKET (R155). -/
def execDropTicket (path : Path) (glen : Nat) (s : State) : Host.Outcome State Fault Refusal :=
  s.act (fun d => d.debug path glen 5 (fun d id t =>
    if !t.halted then (d, 3)
    else match t.pkt with
      | none => (d, 5)
      | some p =>
        if !(d.locksHeld id).isEmpty || t.stage.isSome then (d, 6)
        else
          let d1 := ((d.deafen (fun i => i == id)).leaveChannels (fun i => i == id)).leaveLocks (fun i => i == id)
          ((d1.setThread id { t with st := .idle, pkt := none, halted := false, stepping := false, stepped := false }).sendOut glen
            (p.dropped 0xF2), 0)))

/-- An enabled breakpoint names a core and an address of a Glen (R155). -/
def Dev.breakAt (d : Dev) (g c pc : Nat) : Bool :=
  (List.range 4).any (fun b => d.flag R.GPHYS_BRK_EN g b && d.get R.GPHYS_BRK_CORE g b == c &&
    d.get R.GPHYS_BRK_ADDR g b == pc)

/-- BREAK (R155): a thread about to issue the instruction at a breakpoint is halted. -/
def execBreak (glen core thread : Nat) (s : State) : Host.Outcome State Fault Refusal :=
  s.live (fun d =>
    let id := ThreadId.glen glen core thread
    let t := d.thread id
    if t.st = .ready && !t.halted && !t.passed && d.coreRuns glen core && d.breakAt glen core t.pc then
      (d.setThread id { t with halted := true }).raiseBit R.GPHYS_EVENTS 1 glen
    else d)

end Sys2Proof.Machine
end

