-- ==== Sys2Proof/Machine/Tenure.lean ====
section
/-! DEFINITION. Slots and tenure: heartbeats, dead declarations, fills, handovers, self-tests and the GLEN commands
(spec/04_glen_cores.md R123 to R128, R148, R159 to R169). -/

namespace Sys2Proof.Machine

/-! ### Spares and reasons -/

/-- The lowest-numbered SPARE_READY Glen. -/
def Dev.lowestSpare (d : Dev) : Option Nat := (List.range d.variant.glensAll).find? (fun g => d.glState g == glSpare)

/-- Every slot is held: none is VACANT (15 R513). -/
def Dev.allHeld (d : Dev) : Bool := (List.range d.variant.glensActive).all (fun k => d.slState k != slVacant)

/-- Reasons GLEN_SPARES_USED and GLEN_REDUCED follow the slots and the spares (15 R513). -/
def Dev.slotReasons (d : Dev) : Dev :=
  let spare := d.lowestSpare.isSome
  let held := d.allHeld
  let d1 := if spare then d.clearReason 1 else if held then d.setReason 1 else d
  if held then d1.clearReason 2 else if !spare then d1.setReason 2 else d1

/-! ### Epochs (R124) -/

/-- The epoch after `e` for slot `k`: moved on past an epoch under which a DEAD Glen last held the slot, looking at most
`fuel` times. -/
def Dev.nextEpoch (d : Dev) (k e : Nat) : Nat → Nat
  | 0 => (e + 1) % 256
  | fuel + 1 =>
    let n := (e + 1) % 256
    if (List.range d.variant.glensAll).any (fun g => d.glState g == glDead && d.get R.GPHYS_STATUS_SLOT g == k &&
        d.get R.GPHYS_STATUS_EPOCH g == n)
    then Dev.nextEpoch d k n fuel else n

/-- A slot's epoch incremented. -/
def Dev.bumpEpoch (d : Dev) (k : Nat) : Dev :=
  d.put R.GLEN_SLOT_EPOCH (d.nextEpoch k (d.get R.GLEN_SLOT_EPOCH 0 k) 32) 0 k

/-! ### Entering service (R130, R163, R189) -/

/-- The scratch memory of a Glen in the byte memory: a place the model gives it beyond the internal address space. -/
def scratchBase (g : Nat) : Nat := 0x100000000000 + 0x100000 * g

/-- Bytes of memory set to what an unlisted one reads as. -/
def Dev.clearMem (d : Dev) (base len : Nat) : Dev :=
  { d with mem := d.mem.filter (fun c => decide (c.1 < base) || decide (base + len ≤ c.1)) }

/-- Whatever a Glen's threads held is gone: its threads, channels and local locks, and its part in device-wide locks. -/
def Dev.clearGlen (d : Dev) (g : Nat) : Dev :=
  let d1 := ((d.deafen (ofGlen g)).leaveLocks (ofGlen g)).breakLocks (ofGlen g)
  { d1 with glens := { d1.glens with
      threads := d1.glens.threads.filter (fun x => !ofGlen g x.1)
      channels := d1.glens.channels.filter (fun x => x.1.1 != g)
      locks := d1.glens.locks.filter (fun x => x.1.1 != g)
      stops := d1.glens.stops.filter (fun x => x.glen != g)
      restarts := d1.glens.restarts.filter (fun x => x.1.1 != g) } }

/-- The code of an image: what stands between its header and its trailer (05 R206). -/
def imageCode (im : List Byte) : List Byte := (im.drop 8).take (im.length - 16)

/-- The CRC-32C over an image's header and code, and the one its trailer records. -/
def imageCrc (im : List Byte) : Nat := crc32c (im.take (im.length - 8))
def imageTrailer (im : List Byte) : Nat := leNat (im.drop (im.length - 8))

/-- A physical Glen enters service for a slot with an image: modes and entries as written, every core started. -/
def Dev.enterService (d : Dev) (g k : Nat) (im : List Byte) : Dev :=
  let d1 := (d.clearGlen g).clearMem (scratchBase g) 0x80000
  let d2 := d1.modGlen g (fun _ =>
    { code := imageCode im
      modes := (List.range 32).map (fun c => d1.get R.GSLOT_CORE_CFG_MODE k c)
      entryPacket := d1.get R.GSLOT_ENTRY_PACKET k
      entryService := d1.get R.GSLOT_ENTRY_SERVICE k })
  let d3 := (((d2.setGlState g glService).put R.GPHYS_STATUS_SLOT k g).put R.GPHYS_STATUS_EPOCH
    (d2.get R.GLEN_SLOT_EPOCH 0 k) g).put R.GPHYS_HB_MISSES 0 g
  let d4 := (d3.put R.GLEN_SLOT_STATE slService 0 k).put R.GLEN_SLOT_PHYS g 0 k
  (d4.each (List.range 32) (fun d c => d.startCore g c)).payCores g (List.range 32)

/-- A Glen holds no slot and runs nothing. -/
def Dev.restGlen (d : Dev) (g st : Nat) : Dev :=
  (((d.clearGlen g).modGlen g (fun _ => { })).put R.GPHYS_STATUS_CORES_RUN 0 g).setGlState g st

/-! ### Lost tickets and dead declarations (R160, R161, R168) -/

/-- Every ticket dealt to a Glen and not received from it counted lost. -/
def Dev.loseTickets (d : Dev) (g : Nat) : Dev :=
  let lost := (d.glen g).dealt
  let d1 := d.each lost (fun d t =>
    ((((d.discard t.head).count R.GLEN_LOST_TICKETS 1).count R.GPHYS_LOST 1 g).count R.INST_LOST_TICKETS 1 t.inst).raiseBit
      R.INST_EVENTS 7 t.inst)
  let d2 : Dev := { d1 with defile := { d1.defile with
    lost := d1.defile.lost ++ lost.map (fun t => (d1.dial.notch, (t.ingress, t.seq))) } }
  (d2.modGlen g (fun x => { x with dealt := [] })).modSlot (d2.get R.GPHYS_STATUS_SLOT g) (fun s => { s with queue := [] })

/-- The GLEN_DEAD error of a Glen and a slot (15 R494). -/
def Dev.glenError (d : Dev) (code g k : Nat) : Dev := d.error pgGLEN 8 code (g + k * 2 ^ 8)

/-- The Glen that fills, or has filled, for a handover of a slot. -/
def Dev.handoverTarget (d : Dev) (k : Nat) : Option Nat :=
  (List.range d.variant.glensAll).find? (fun g =>
    match (d.glen g).fill with
    | some f => f.slot == k && decide (f.kind = .handover)
    | none => false)

/-- A handover whose holder was declared dead ends: the target is a spare again (R168). -/
def Dev.endHandover (d : Dev) (k : Nat) : Dev :=
  match d.handoverTarget k with
  | none => d
  | some t => ((d.restGlen t glSpare).modSlot k (fun s => { s with drainFrom := none })).cmdFinish R.GLEN_CMD_STATUS 3

/-- A Glen declared dead (R161, R168; 15 R514). -/
def Dev.declareDead (d : Dev) (g : Nat) : Dev :=
  let k := d.get R.GPHYS_STATUS_SLOT g
  let d1 := ((d.setGlState g glDead).bumpEpoch k).put R.GLEN_SLOT_STATE slVacant 0 k
  let d2 := (d1.put R.GLEN_SLOT_PHYS 0x1F 0 k).loseTickets g
  let d3 : Dev := { d2 with glens := { d2.glens with
    locks := d2.glens.locks.map (fun x =>
      if x.1.1 == 32 then (x.1, { x.2 with waiters := x.2.waiters.filter (fun i => !ofGlen g i) }) else x) } }
  let d4 : Dev := d3.each (d3.glens.locks.filter (fun x => x.1.1 == 32 && x.2.holder.any (ofGlen g)))
    (fun d x => (d.putLock x.1 { d.lock x.1 with broken := true }).passLock x.1)
  (((d4.raiseBit R.GLEN_EVENTS 0).glenError 0 g k).endHandover k).slotReasons

/-! ### Heartbeats (R159, R160, R165, R166) -/

/-- HEARTBEAT_SEND (R159): a serving Glen sends a heartbeat in each Notch whose count is a multiple of 1,024. -/
def execHeartbeatSend (glen : Nat) (s : State) : Host.Outcome State Fault Refusal :=
  s.live (fun d =>
    if d.dial.notch % 1024 = 0 && d.glHolds glen then d.modGlen glen (fun x => { x with beats := x.beats + 1 }) else d)

/-- Something stale came from a Glen: counted, and a DEAD Glen's first such thing isolates it from the next Notch. -/
def Dev.staleFrom (d : Dev) (g : Nat) : Dev :=
  let d1 := d.count R.GPHYS_STALE 1 g
  if d1.glState g == glDead && !(d1.glen g).isolateDue then
    (d1.modGlen g (fun x => { x with isolateDue := true })).error pgGLEN 9 0 g
  else d1

/-- HEARTBEAT_ARRIVAL (R165, R166): a heartbeat on a Glen's fabric path reaches the Defile. -/
def execHeartbeatArrival (glen : Nat) (s : State) : Host.Outcome State Fault Refusal :=
  s.live (fun d =>
    if (d.glen glen).beats = 0 then d
    else
      let d1 := d.modGlen glen (fun x => { x with beats := x.beats - 1 })
      if d1.glHolds glen then
        (d1.modGlen glen (fun x => { x with arrived := true })).put R.GPHYS_HB_LAST d1.dial.notch glen
      else if d1.glState glen == glDead then d1.staleFrom glen
      else d1)

/-- One Glen at a heartbeat check. -/
def Dev.checkBeat (d : Dev) (g : Nat) : Dev :=
  if !d.glHolds g then d
  else if (d.glen g).arrived then (d.put R.GPHYS_HB_MISSES 0 g).modGlen g (fun x => { x with arrived := false })
  else
    let n := d.get R.GPHYS_HB_MISSES g + 1
    let d1 := d.put R.GPHYS_HB_MISSES n g
    if 4 ≤ n then d1.declareDead g else d1

/-- HEARTBEAT_CHECK (R159, R160): in each Notch congruent to 512 modulo 1,024. -/
def execHeartbeatCheck (s : State) : Host.Outcome State Fault Refusal :=
  s.live (fun d =>
    if d.dial.notch % 1024 = 512 then d.each (List.range d.variant.glensAll) Dev.checkBeat else d)

/-! ### Fills (R162 to R164) -/

/-- A SPARE_READY Glen starts a fill for a slot. -/
def Dev.startFill (d : Dev) (g k : Nat) (kind : FillKind) : Dev :=
  let d1 := (d.modGlen g (fun _ => { fill := some { slot := k, kind := kind, start := d.dial.notch } })).setGlState g
    glFilling
  (if kind = .handover then d1 else d1.put R.GLEN_SLOT_STATE slFilling 0 k).slotReasons

/-- The lowest-numbered Glen that is SPARE_READY, and was when the Notch started (R162). -/
def Dev.oldSpare (d : Dev) : Option Nat :=
  (List.range d.variant.glensAll).find? (fun g => d.glState g == glSpare && d.getStart R.GPHYS_STATUS_STATE g == glSpare)

/-- FILL_START (R162): with AUTO set, a slot that was VACANT when the Notch started begins to fill from the lowest Glen that
was then SPARE_READY. Without a spare the device sets GLEN.EVENTS.NO_SPARE, whatever AUTO is. -/
def execFillStart (slot : Nat) (s : State) : Host.Outcome State Fault Refusal :=
  s.live (fun d =>
    if decide (slot < d.variant.glensActive) && d.slState slot == slVacant && d.getStart R.GLEN_SLOT_STATE 0 slot == slVacant then
      if d.lowestSpare.isNone then d.raiseBit R.GLEN_EVENTS 3
      else if d.flag R.GLENSPARE_POLICY_AUTO then
        match d.oldSpare with
        | some g => d.startFill g slot .auto
        | none => d
      else d
    else d)

/-- A fill fails (R164). -/
def Dev.failFill (d : Dev) (g : Nat) (f : Fill) : Dev :=
  let d1 := ((d.restGlen g glFailed).glenError 1 g f.slot).raiseBit R.GLEN_EVENTS 6
  let d2 := match f.kind with
    | .auto => d1.put R.GLEN_SLOT_STATE slVacant 0 f.slot
    | .intake => (d1.put R.GLEN_SLOT_STATE slVacant 0 f.slot).cmdFinish R.GLEN_CMD_STATUS 9
    | .handover => d1.cmdFinish R.GLEN_CMD_STATUS 9
  d2.slotReasons

/-- FILL_FAIL (R164): a fill meets a memory error, a CRC mismatch, a failed self-check or its limit. -/
def execFillFail (glen : Nat) (s : State) : Host.Outcome State Fault Refusal :=
  s.live (fun d =>
    match (d.glen glen).fill with
    | some f => if f.done then d else d.failFill glen f
    | none => d)

/-- The image a fill loads: for a handover the staged one if one is staged, else the current one. -/
def Dev.fillImage (d : Dev) (f : Fill) : List Byte :=
  match f.kind, (d.slot f.slot).staged with
  | .handover, some im => im
  | _, _ => (d.slot f.slot).current

/-- The CRC recorded for it in GSLOT.PROG_CRC. -/
def Dev.fillCrc (d : Dev) (f : Fill) : Nat :=
  match f.kind, (d.slot f.slot).staged with
  | .handover, some _ => d.get R.GSLOT_PROG_CRC_STAGED f.slot
  | _, _ => d.get R.GSLOT_PROG_CRC_CUR f.slot

/-- FILL_COMPLETE (R163, R164, R168): a fill has loaded its image. A CRC that differs, or a fill past its limit, fails. -/
def execFillComplete (glen : Nat) (s : State) : Host.Outcome State Fault Refusal :=
  s.live (fun d =>
    match (d.glen glen).fill with
    | none => d
    | some f =>
      if f.done then d
      else if d.fillCrc f ≠ imageCrc (d.fillImage f) ∨ f.start + 16384 < d.dial.notch then d.failFill glen f
      else
        match f.kind with
        | .auto => (d.enterService glen f.slot (d.fillImage f)).raiseBit R.GLEN_EVENTS 1
        | .intake =>
          ((d.enterService glen f.slot (d.fillImage f)).raiseBit R.GLEN_EVENTS 1).cmdFinish R.GLEN_CMD_STATUS 0
        | .handover =>
          let d1 := d.modGlen glen (fun x => { x with fill := some { f with done := true } })
          ((d1.put R.GLEN_SLOT_STATE slDraining 0 f.slot).setGlState (d1.get R.GLEN_SLOT_PHYS 0 f.slot) glDraining).modSlot
            f.slot (fun s => { s with drainFrom := some d1.dial.notch }))

/-! ### Handover's end (R168 steps 3 and 4) -/

/-- HANDOVER_DRAIN_END (R168): the old holder has returned every ticket, or DRAIN_LIMIT has passed; the event is set in both cases
(DESIGN CHOICE, notes/assumptions/148). -/
def execHandoverDrainEnd (slot : Nat) (s : State) : Host.Outcome State Fault Refusal :=
  s.live (fun d =>
    match (d.slot slot).drainFrom, d.handoverTarget slot with
    | some n, some t =>
      let old := d.get R.GLEN_SLOT_PHYS 0 slot
      let clean := (d.glen old).dealt.isEmpty
      if !clean && decide (d.dial.notch < n + d.get R.GLEN_DRAIN_LIMIT_NOTCHES) then d
      else
        let d1 := if clean then d else (d.loseTickets old).glenError 0 old slot
        let d2 := (d1.bumpEpoch slot).restGlen old glSpare
        let sl := d2.slot slot
        let im := sl.staged.getD sl.current
        let d3 := (d2.modSlot slot (fun s => { s with current := im, staged := none, drainFrom := none })).put
          R.GSLOT_PROG_CRC_CUR (if sl.staged.isSome then d2.get R.GSLOT_PROG_CRC_STAGED slot
            else d2.get R.GSLOT_PROG_CRC_CUR slot) slot
        let d4 := (d3.put R.GSLOT_PROG_CRC_STAGED 0 slot).put R.GSLOT_PROG_INFO_STAGED 0 slot
        (((d4.enterService t slot im).raiseBit R.GLEN_EVENTS 4).cmdFinish R.GLEN_CMD_STATUS (if clean then 0 else 8)).slotReasons
    | _, _ => d)

/-! ### The GLEN commands (R148, R167 to R170, R630) -/

/-- The readback of GLEN.CMD. -/
def Dev.glenStatus (d : Dev) (code slot phys core st : Nat) : Dev :=
  ((((d.put R.GLEN_CMD_CODE code).put R.GLEN_CMD_ARG_SLOT slot).put R.GLEN_CMD_ARG_PHYS phys).put R.GLEN_CMD_ARG_CORE
    core).put R.GLEN_CMD_STATUS st

/-- The place of GLEN.CMD. -/
def glenCmdKey : Key := ⟨.GLEN, 0, 8⟩

/-- A GLEN command: BUSY while one is in progress, whatever its ARG_SLOT (DESIGN CHOICE, notes/assumptions/149), and otherwise `f`,
which answers a status; PENDING goes on. -/
def Dev.glenCommand (d : Dev) (path : Path) (code slot phys core : Nat) (f : Dev → Dev × Nat) : Dev :=
  let st := fun (d : Dev) (x : Nat) => d.glenStatus code slot phys core x
  d.command path pgGLEN 0x40 glenCmdKey (fun d => st d 1) (fun d =>
    if d.cmdBusy glenCmdKey then st d 1
    else
      let r := f d
      let d1 := st r.1 r.2
      if r.2 = 2 then d1.cmdStart glenCmdKey else d1)

/-- The Glen that ARG_PHYS names for a fill, or the status that refuses it. -/
def Dev.fillSource (d : Dev) (phys : Nat) : Nat ⊕ Nat :=
  if phys = 0x1F then (match d.lowestSpare with | some g => .inl g | none => .inr 5)
  else if phys < d.variant.glensAll && d.glState phys == glSpare then .inl phys else .inr 3

/-- HANDOVER (R168, R630). -/
def execHandover (path : Path) (slot phys : Nat) (s : State) : Host.Outcome State Fault Refusal :=
  s.act (fun d => d.glenCommand path 2 slot phys 0 (fun d =>
    if d.variant.glensActive ≤ slot then (d, 3)
    else if d.slState slot != slService then (d, 3)
    else match d.fillSource phys with
      | .inl g => (d.startFill g slot .handover, 2)
      | .inr st => (d, st)))

/-- ADMIT (R169, R630); without a spare for it the device sets GLEN.EVENTS.NO_SPARE (R162). -/
def execAdmitGlen (path : Path) (slot phys : Nat) (s : State) : Host.Outcome State Fault Refusal :=
  s.act (fun d => d.glenCommand path 3 slot phys 0 (fun d =>
    if d.variant.glensActive ≤ slot then (d, 3)
    else if d.slState slot != slVacant then (d, 3)
    else match d.fillSource phys with
      | .inl g => (d.startFill g slot .intake, 2)
      | .inr st => (if st = 5 then d.raiseBit R.GLEN_EVENTS 3 else d, st)))

/-- SELFTEST (R167): a DEAD, ISOLATED or FAILED Glen is held off the fabric and tested; any other reads BAD_STATE (DESIGN CHOICE,
notes/assumptions/147). -/
def execSelftest (path : Path) (phys : Nat) (s : State) : Host.Outcome State Fault Refusal :=
  s.act (fun d => d.glenCommand path 4 0 phys 0 (fun d =>
    let st := d.glState phys
    if phys < d.variant.glensAll && (st == glDead || st == glIsolated || st == glFailed) then
      (d.restGlen phys glSelftest, 2)
    else (d, 3)))

/-- SELFTEST_DONE (R167): a running self-test ends; the event is set after a failed one too (DESIGN CHOICE,
notes/assumptions/148). -/
def execSelftestDone (glen : Nat) (pass : Bool) (s : State) : Host.Outcome State Fault Refusal :=
  s.act (fun d =>
    match assoc d.cmds glenCmdKey with
    | some w =>
      if w.field 0 4 = 4 ∧ w.field 8 5 = glen ∧ d.glState glen = glSelftest then
        (((d.setGlState glen (if pass then glSpare else glFailed)).raiseBit R.GLEN_EVENTS 5).cmdFinish R.GLEN_CMD_STATUS
          (if pass then 0 else 7)).slotReasons
      else d
    | none => d)

/-- RESTART_CORE (R148). A core whose stop the device has not yet sampled (R147) reads BAD_STATE, as one that runs does
(DEDUCED, notes/assumptions/119). -/
def execRestartCore (path : Path) (phys core : Nat) (s : State) : Host.Outcome State Fault Refusal :=
  s.act (fun d => d.glenCommand path 5 0 phys core (fun d =>
    if phys < d.variant.glensAll && d.glHolds phys && decide (core < 32) && !d.coreRuns phys core &&
        !d.glens.stops.any (fun x => x.glen == phys && x.core == core) then
      (d.startCore phys core, 0)
    else (d, 3)))

/-- The Glens at start-up: each passing Glen in turn takes the next slot with the slot's current image, the rest become
spares, and failing ones become FAILED (R125). -/
def Dev.assignGlens (d : Dev) (failed : List Nat) : Dev :=
  let all := List.range d.variant.glensAll
  let good := all.filter (fun g => !failed.contains g)
  let d1 := d.each all (fun d g => d.restGlen g (if failed.contains g then glFailed else glSpare))
  let pairs := (List.range d.variant.glensActive).zip good
  (d1.each pairs (fun d x => d.enterService x.2 x.1 (d.slot x.1).current)).slotReasons

/-! ### The Notch's end -/

/-- Glens at the start of a Notch: a Glen due for isolation is ISOLATED, the stall counts follow, of a DEAD Glen too, and
thread-Notches are charged for the Notch that starts (R133, R151, R152, R166). -/
def Dev.tickGlens (d : Dev) : Dev :=
  let gs := d.glens.glens.map Prod.fst
  let d1 := d.each gs (fun d g =>
    if (d.glen g).isolateDue then (d.restGlen g glIsolated).raiseBit R.GLEN_EVENTS 2 else d)
  let d2 : Dev := { d1 with glens := { d1.glens with
    dispatched := [], paid := [], cycles := [], pointer := (d1.glens.pointer + 8 * d1.getStart R.HEALTH_STATUS_GLEN_CLK) % 16 } }
  let d3 := if d2.held then d2 else d2.each gs (fun d g => if d.glHolds g || d.glState g == glDead then d.watchGlen g else d)
  d3.each d3.glens.threads (fun d x =>
    match x.1, x.2.pkt with
    | .glen _ _ _, some p => d.payThread x.1 (p.tk.get T.INSTANCE)
    | .glen g c t, none => if d.mode g c t = 2 && d.coreRuns g c then d.payThread x.1 0 else d
    | .ctrl _, _ => d)

/-- GPHYS.DBG_STATE of a thread (R172). -/
def Dev.dbgWord (d : Dev) (id : ThreadId) : Word :=
  let t := d.thread id
  [(R.GPHYS_DBG_STATE_STATE, t.st.ctorIdx), (R.GPHYS_DBG_STATE_HALTED, bit t.halted), (R.GPHYS_DBG_STATE_PC, t.pc),
    (R.GPHYS_DBG_STATE_LOCKS, (d.locksHeld id).length), (R.GPHYS_DBG_STATE_STAGE_OPEN, bit t.stage.isSome),
    (R.GPHYS_DBG_STATE_STAGE_CHAN, t.stage.elim 0 Prod.fst),
    (R.GPHYS_DBG_STATE_STAGE_WORDS, t.stage.elim 0 (fun x => x.2.length)), (R.GPHYS_DBG_STATE_WAIT_OBJ, t.waitObj)].foldl
    (fun (w : Word) (x : Fld × Nat) => w.withField x.1.lo x.1.w x.2) 0

/-- The read-only registers that show threads and slots brought up to date (R171, R172). -/
def Dev.showGlens (d : Dev) : Dev :=
  let d1 := d.each (d.touched .GPHYS) (fun d g =>
    let d0 := d.put R.GPHYS_STATUS_HALTED (bit (d.anyHalted (ofGlen g) || (d.held && d.glHolds g))) g
    d0.putWord ⟨.GPHYS, g, 15⟩ (d0.dbgWord (.glen g (d.get R.GPHYS_DBG_SEL_CORE g) (d.get R.GPHYS_DBG_SEL_THREAD g))))
  d1.each (d1.touched .GSLOT) (fun d k =>
    let g := d.get R.GLEN_SLOT_PHYS 0 k
    let x := d.glen g
    let same := g == 0x1F || (x.entryPacket == d.get R.GSLOT_ENTRY_PACKET k && x.entryService == d.get R.GSLOT_ENTRY_SERVICE k
      && (List.range 32).all (fun c => nth x.modes c 0 == d.get R.GSLOT_CORE_CFG_MODE k c))
    d.put R.GSLOT_PROG_INFO_CFG_PENDING (bit (!same)) k)

end Sys2Proof.Machine
end

