-- ==== Sys2Proof/Machine/Defile.lean ====
section
/-! DEFINITION. The creation and dealing of tickets, dispatch, and the Defile (02 R65, R72 to R74; 04 R131;
06 R231 to R240). -/

namespace Sys2Proof.Machine

/-! ### Creation (02 R65) -/

/-- TICKET_CREATE (02 R65): the ticket of the oldest frame of an ingress whose header window was complete in an earlier
Notch is created and waits at the ingress's dealer. -/
def execTicketCreate (ingress : Nat) (s : State) : Host.Outcome State Fault Refusal :=
  s.live (fun d =>
    match d.basin.frames.find? (fun f => f.ingress == ingress && decide (f.stage = .arriving) &&
        f.winNotch.any (fun n => decide (n < d.dial.notch))) with
    | none => d
    | some f =>
      let p : Pkt := { tk := newTicket f, win := f.bytes.take 256 }
      let d1 := d.modFrame f.head (fun f => { f with stage := .ticketed, tk := p.tk })
      { d1 with defile := { d1.defile with waiting := d1.defile.waiting ++ [p] } })

/-! ### Errors of a ticket on its way (15 R494, R510) -/

/-- Cells of a frame that nobody can reach any more: leaked until a device-wide reset (15 R510). -/
def Dev.leakFrame (d : Dev) (head : Nat) : Dev :=
  match d.frame? head with
  | none => d
  | some f =>
    let d1 := (d.noteTx f none).rxGone head
    ({ d1 with basin := { d1.basin with
        frames := d1.basin.frames.filter (fun x => x.head != head)
        leaked := d1.basin.leaked ++ f.cells.map Prod.fst } }).count R.HEALTH_CELLS_LEAKED f.cells.length

/-- A ticket met by a FABRIC error: it is dropped, and the cells it named are leaked; its SEQ is left to R238 (15 R494, R510). -/
def Dev.loseFabric (d : Dev) (p : Pkt) : Dev :=
  (d.leakFrame (p.tk.get T.HEAD_CELL)).error pgHEALTH 16 0 (p.tk.get T.INGRESS)

/-- A ticket is received from a Glen, or lost on its way to it: it is no longer noted as dealt. -/
def Dev.undeal (d : Dev) (g : Nat) (p : Pkt) : Dev :=
  d.modGlen g (fun x => { x with
    dealt := x.dealt.filter (fun t => !(t.ingress == p.tk.get T.INGRESS && t.seq == p.tk.get T.SEQ)) })

/-! ### Dealing (R231 to R233; 02 R72) -/

/-- A slot may be dealt to: IN_SERVICE, and so since an earlier Notch, its queue not full, and a core of its Glen running
(R127, R128, R149, R163). -/
def Dev.slotOpen (d : Dev) (k : Nat) : Bool :=
  d.slState k == slService && d.getStart R.GLEN_SLOT_STATE 0 k == slService && decide ((d.slot k).queue.length < 1024) &&
    d.get R.GPHYS_STATUS_CORES_RUN (d.get R.GLEN_SLOT_PHYS 0 k) != 0

/-- The first open slot from the pointer onward. -/
def Dev.nextSlot (d : Dev) (ingress : Nat) : Option Nat :=
  let n := d.variant.glensActive
  let p := (assoc d.defile.turn ingress).getD 0
  ((List.range n).map (fun j => (p + j) % n)).find? d.slotOpen

/-- A ticket put into a slot's queue: those dealt in one Notch stand by ingress, and then by SEQ (R232). -/
def enqueue (now : Nat) (p : Pkt) : List (Nat × Pkt) → List (Nat × Pkt)
  | [] => [(now, p)]
  | x :: xs =>
    if x.1 = now ∧ p.tk.get T.INGRESS < x.2.tk.get T.INGRESS then (now, p) :: x :: xs else x :: enqueue now p xs

/-- SEQ that the dealer of an ingress stamps next, and whether it lies within the Defile's reorder window (R233). -/
def Dev.dealSeq (d : Dev) (i : Nat) : Nat := d.get R.DEFILE_ING_DEAL_SEQ 0 i
def Dev.seqFits (d : Dev) (i : Nat) : Bool :=
  decide ((d.dealSeq i + 2 ^ 32 - d.get R.DEFILE_ING_HEAD 0 i) % 2 ^ 32 < 65536)

/-- A ticket dealt into a slot: stamped, queued, and noted as dealt to the slot's Glen. -/
def Dev.dealTo (d : Dev) (i k : Nat) (p : Pkt) : Dev :=
  let seq := d.dealSeq i
  let g := d.get R.GLEN_SLOT_PHYS 0 k
  let tk := ((p.tk.put T.SEQ seq).put T.SLOT k).put T.EPOCH (d.get R.GLEN_SLOT_EPOCH 0 k)
  let d1 := (d.modSlot k (fun s => { s with queue := enqueue d.dial.notch { p with tk := tk } s.queue })).modGlen g
    (fun x => { x with dealt := x.dealt ++ [⟨i, seq, tk.get T.HEAD_CELL, tk.get T.INSTANCE⟩] })
  let d2 := d1.put R.DEFILE_ING_DEAL_SEQ (seq + 1) 0 i
  { d2 with defile := { d2.defile with
      waiting := d2.defile.waiting.erase p
      turn := assocSet d2.defile.turn i ((k + 1) % d2.variant.glensActive)
      dealtNow := assocSet d2.defile.dealtNow i ((assoc d2.defile.dealtNow i).getD 0 + 1) } }

/-- A ticket dealt that a FABRIC error meets: its SEQ is stamped, and it reaches no queue (15 R494, R510). -/
def Dev.dealLost (d : Dev) (i k : Nat) (p : Pkt) : Dev :=
  let d1 := (d.dealTo i k p).loseFabric p
  let stamped := fun (x : Pkt) => x.tk.get T.INGRESS == i && x.tk.get T.SEQ == d.dealSeq i
  (d1.modSlot k (fun s => { s with queue := s.queue.filter (fun x => !stamped x.2) })).undeal (d.get R.GLEN_SLOT_PHYS 0 k)
    { p with tk := p.tk.put T.SEQ (d.dealSeq i) }

/-- DEAL (R231 to R233): the dealer of an ingress deals the oldest of its tickets, if it may; else the ticket waits. -/
def execDeal (hop : Hop) (s : State) : Host.Outcome State Fault Refusal :=
  s.live (fun d =>
    match d.defile.waiting.find? (fun p => p.tk.get T.INGRESS == hop.num), d.nextSlot hop.num with
    | some p, some k =>
      if d.seqFits hop.num && decide ((assoc d.defile.dealtNow hop.num).getD 0 < 256) then
        (if hop.fabric then d.dealLost hop.num k p else d.dealTo hop.num k p)
      else d
    | _, _ => d)

/-! ### Dispatch (04 R131) -/

/-- Idle PACKET threads of a core of a Glen, lowest first. -/
def Dev.idleThreads (d : Dev) (g c : Nat) : List Nat := (List.range 8).filter (fun t => d.idleThread g c t)

/-- The first of the candidates with the largest count. -/
def mostOf (n : Nat → Nat) : List Nat → Option Nat
  | [] => none
  | x :: xs =>
    match mostOf n xs with
    | none => some x
    | some y => if n x < n y then some y else some x

/-- The core a Glen dispatches to: the one with the most idle PACKET threads among those not yet used in this Notch. -/
def Dev.dispatchCore (d : Dev) (g : Nat) : Option Nat :=
  mostOf (fun c => (d.idleThreads g c).length)
    ((List.range 32).filter (fun c => !(d.idleThreads g c).isEmpty && !d.glens.dispatched.contains (g, c)))

/-- DISPATCH (R131): the head ticket of a slot's input queue goes to an idle PACKET thread of the slot's Glen, its registers
cleared and its PC at the packet entry. One met by a FABRIC error is lost instead (15 R494, R510). -/
def execDispatch (hop : Hop) (s : State) : Host.Outcome State Fault Refusal :=
  s.live (fun d =>
    let slot := hop.num
    let g := d.get R.GLEN_SLOT_PHYS 0 slot
    match (d.slot slot).queue, d.dispatchCore g with
    | x :: rest, some c =>
      if !d.glHolds g then d
      else if hop.fabric then ((d.modSlot slot (fun s => { s with queue := rest })).undeal g x.2).loseFabric x.2
      else
        match (d.idleThreads g c).head? with
        | none => d
        | some t =>
          let id := ThreadId.glen g c t
          let old := d.thread id
          let d1 := (d.modSlot slot (fun s => { s with queue := rest })).setThread id
            { st := .ready, pc := (d.glen g).entryPacket, pkt := some x.2, halted := old.halted
              stepping := old.stepping }
          ({ d1 with glens := { d1.glens with dispatched := d1.glens.dispatched ++ [(g, c)] } }).payThread id
            (x.2.tk.get T.INSTANCE)
    | _, _ => d)

/-! ### The Defile (R235 to R239) -/

/-- How far a SEQ lies after the head of its ingress, and whether it lies before it. -/
def Dev.afterHead (d : Dev) (i seq : Nat) : Nat := (seq + 2 ^ 32 - d.get R.DEFILE_ING_HEAD 0 i) % 2 ^ 32
def Dev.beforeHead (d : Dev) (i seq : Nat) : Bool := decide (2 ^ 31 ≤ d.afterHead i seq)

/-- A ticket released to Basin admission. -/
def Dev.release (d : Dev) (p : Pkt) : Dev :=
  { d with defile := { d.defile with released := d.defile.released ++ [(d.dial.notch, p)] } }

/-- The held ticket with a SEQ of an ingress. -/
def Dev.heldAt (d : Dev) (i seq : Nat) : Option (Nat × Pkt) :=
  d.defile.held.find? (fun x => x.2.tk.get T.INGRESS == i && x.2.tk.get T.SEQ == seq)

/-- The head of an ingress advanced past held tickets, which are released, and skipped SEQs, looking at most `fuel`
times (R236). -/
def Dev.advance (d : Dev) (i : Nat) : Nat → Dev
  | 0 => d
  | fuel + 1 =>
    let h := d.get R.DEFILE_ING_HEAD 0 i
    match d.heldAt i h with
    | some x =>
      let d1 := (d.release x.2).put R.DEFILE_ING_HEAD (h + 1) 0 i
      ({ d1 with defile := { d1.defile with
          held := d1.defile.held.erase x, skipped := d1.defile.skipped.erase (i, h) } }).advance i fuel
    | none =>
      if d.defile.skipped.contains (i, h) then
        let d1 := d.put R.DEFILE_ING_HEAD (h + 1) 0 i
        ({ d1 with defile := { d1.defile with skipped := d1.defile.skipped.erase (i, h) } }).advance i fuel
      else d

/-- The head of an ingress advanced as far as it goes. -/
def Dev.advanceAll (d : Dev) (i : Nat) : Dev := d.advance i (d.defile.held.length + d.defile.skipped.length + 1)

/-- A ticket with a current epoch put into the Defile: released in sequence, held, or released at once when late
(R236, R239). -/
def Dev.intoDefile (d : Dev) (p : Pkt) : Dev :=
  let i := p.tk.get T.INGRESS
  if d.beforeHead i (p.tk.get T.SEQ) then
    ((d.release p).count R.DEFILE_LATE 1).raiseBit R.DEFILE_EVENTS 1
  else
    ({ d with defile := { d.defile with held := d.defile.held ++ [(d.dial.notch, p)] } }).advanceAll i

/-- DEFILE_ARRIVAL (R235, R236, R239; 04 R165): the ticket numbered `index` of those on a Glen's fabric path reaches the
Defile; one met by a FABRIC error is dropped, and its SEQ is left to R238 (15 R510). A stale ticket that meets one is not judged by
its epoch, and its cells, freed before, stay (DESIGN CHOICE, notes/assumptions/133). -/
def execDefileArrival (glen index : Nat) (fabric : Bool) (s : State) : Host.Outcome State Fault Refusal :=
  s.live (fun d =>
    let q := (d.glen glen).flying
    match q[index % max 1 q.length]? with
    | none => d
    | some p =>
      let d1 := (d.modGlen glen (fun x => { x with flying := x.flying.erase p })).undeal glen p
      let stale : Bool := d.get R.GLEN_SLOT_EPOCH 0 (p.tk.get T.SLOT) != p.tk.get T.EPOCH
      if fabric then (if stale then d1.error pgHEALTH 16 0 (p.tk.get T.INGRESS) else d1.loseFabric p)
      else if stale then (d1.count R.GLEN_STALE_DROP 1).staleFrom glen
      else d1.intoDefile p)

/-! ### Skips (R237, R238) -/

/-- A SEQ marked as skipped and counted for its ingress; one that the head has passed needs no mark. -/
def Dev.skip (d : Dev) (f : Fld) (i seq : Nat) : Dev :=
  let d1 := (d.count f 1).count R.DEFILE_ING_SKIPPED 1 0 i
  if d1.beforeHead i seq then d1 else { d1 with defile := { d1.defile with skipped := d1.defile.skipped ++ [(i, seq)] } }

/-- DEFILE_SKIP_LOST (R237): the SEQs counted lost in an earlier Notch are skipped. -/
def execDefileSkipLost (s : State) : Host.Outcome State Fault Refusal :=
  s.live (fun d =>
    let due := d.defile.lost.filter (fun x => decide (x.1 < d.dial.notch))
    let d1 : Dev := { d with defile := { d.defile with
      lost := d.defile.lost.filter (fun x => !decide (x.1 < d.dial.notch)) } }
    let d2 := d1.each due (fun d x => d.skip R.DEFILE_SKIP_LOST x.2.1 x.2.2)
    d2.each ((due.map (fun x => x.2.1)).eraseDups) (fun d i => d.advanceAll i))

/-- The missing SEQs of an ingress that lie before one of its held tickets, at most `fuel` after the head. -/
def Dev.holes (d : Dev) (i : Nat) : List Nat :=
  let dist := (d.defile.held.filter (fun x => x.2.tk.get T.INGRESS == i)).map (fun x => d.afterHead i (x.2.tk.get T.SEQ))
  let h := d.get R.DEFILE_ING_HEAD 0 i
  ((List.range (dist.foldl max 0)).map (fun n => (h + n) % 2 ^ 32)).filter
    (fun q => (d.heldAt i q).isNone && !d.defile.skipped.contains (i, q))

/-- The Notch in which a hole opened: the first in which a later ticket of the ingress was held (R238). -/
def Dev.holeOpened (d : Dev) (i seq : Nat) : Option Nat :=
  ((d.defile.held.filter (fun x => x.2.tk.get T.INGRESS == i &&
    decide (d.afterHead i seq < d.afterHead i (x.2.tk.get T.SEQ)))).map Prod.fst).min?

/-- A hole has been open for 4,096 Notches. -/
def Dev.holeDue (d : Dev) (i seq : Nat) : Bool :=
  match d.holeOpened i seq with
  | some n => decide (n + 4096 ≤ d.dial.notch)
  | none => false

/-- HOLE_SKIP (R238): when the hole at the head of an ingress has been open for 4,096 Notches, it and every other hole
of that age are skipped, and the tickets that follow are released. -/
def execHoleSkip (ingress : Nat) (s : State) : Host.Outcome State Fault Refusal :=
  s.live (fun d =>
    let hs := d.holes ingress
    if hs.head? = some (d.get R.DEFILE_ING_HEAD 0 ingress) && d.holeDue ingress (d.get R.DEFILE_ING_HEAD 0 ingress) then
      ((d.each (hs.filter (d.holeDue ingress)) (fun d q => d.skip R.DEFILE_SKIP_TIMEOUT ingress q)).raiseBit
        R.DEFILE_EVENTS 0).advanceAll ingress
    else d)

/-! ### The Notch's end -/

/-- Dealers at the start of a Notch. -/
def Dev.tickDefile (d : Dev) : Dev := { d with defile := { d.defile with dealtNow := [] } }

/-- The read-only registers of the DEFILE page brought up to date (R244). -/
def Dev.showDefile (d : Dev) : Dev :=
  d.each (List.range 20) (fun d i =>
    let held := (d.defile.held.filter (fun x => x.2.tk.get T.INGRESS == i)).length
    let wait := (d.defile.waiting.filter (fun p => p.tk.get T.INGRESS == i)).length
    let h := d.get R.DEFILE_ING_HEAD 0 i
    let age := if held = 0 ∨ d.defile.skipped.contains (i, h) then 0
      else (d.holeOpened i h).elim 0 (fun n => min 4096 (d.dial.notch - n))
    ((d.put R.DEFILE_ING_HELD held 0 i).put R.DEFILE_ING_WAIT wait 0 i).put R.DEFILE_ING_HOLE_AGE age 0 i)

end Sys2Proof.Machine
end

