-- ==== Sys2Proof/Machine/Host.lean ====
section
/-! DEFINITION. Rings: doorbells, transmit chains, completions, receive buffers and holds, vectors, and the marking of
dirty pages (spec/10_host_rings.md R359 to R387; 11 R409). -/

namespace Sys2Proof.Machine

/-! ### Rings (R359, R364) -/

/-- A ring beyond its context registers, and the device with it changed. -/
def Dev.ring (d : Dev) (r : Nat) : Ring := (assoc d.host.rings r).getD { }
def Dev.modRing (d : Dev) (r : Nat) (g : Ring → Ring) : Dev :=
  { d with host := { d.host with rings := assocSet d.host.rings r (g (d.ring r)) } }

/-- The instance that holds the queue pair of a ring (R359). -/
def Dev.ringOwner (d : Dev) (r : Nat) : Option Nat :=
  (d.touched .INST).find? (fun i =>
    decide (d.get R.INST_RING_RANGE_QP_BASE i ≤ r / 2) &&
      decide (r / 2 < d.get R.INST_RING_RANGE_QP_BASE i + d.get R.INST_RING_RANGE_QP_COUNT i))

/-- N of a ring, and the positions of its producer and consumer (R364). -/
def Dev.ringN (d : Dev) (r : Nat) : Nat := 2 ^ d.get R.RCTX_CFG_SIZE_LOG2 r
def Dev.prodPos (d : Dev) (r : Nat) : Nat := d.get R.RCTX_IDX_PROD_WRAP r * d.ringN r + d.get R.RCTX_IDX_PROD r
def Dev.consPos (d : Dev) (r : Nat) : Nat := d.get R.RCTX_IDX_CONS_WRAP r * d.ringN r + d.get R.RCTX_IDX_CONS r

/-- Entries from CONS up to a position. -/
def Dev.ringDist (d : Dev) (r pos : Nat) : Nat := (pos + 2 * d.ringN r - d.consPos r) % (2 * d.ringN r)

/-- The producer or the consumer set to a position. -/
def Dev.setProd (d : Dev) (r pos : Nat) : Dev :=
  (d.put R.RCTX_IDX_PROD (pos % d.ringN r) r).put R.RCTX_IDX_PROD_WRAP (pos / d.ringN r) r
def Dev.setCons (d : Dev) (r pos : Nat) : Dev :=
  (d.put R.RCTX_IDX_CONS (pos % d.ringN r) r).put R.RCTX_IDX_CONS_WRAP (pos / d.ringN r) r

/-- A ring serves entries: it is enabled, its context is sound (15 R511), and its port may issue DMA. -/
def Dev.ringServes (d : Dev) (r : Nat) : Bool :=
  d.flag R.RCTX_CFG_EN r && !(d.ring r).bad && ((d.ringOwner r).bind d.instPort).any d.dmaOk

/-! ### Writes to host memory for an instance (11 R409) -/

/-- The pages of the log that a write touches are marked; bytes outside the range are counted. -/
def Dev.markDirty (d : Dev) (i addr len : Nat) : Dev :=
  if !d.flag R.INST_DIRTY_CFG_EN i || len == 0 then d
  else
    let base := d.get R.INST_DIRTY_BASE_ADDR i
    let end_ := base + 4096 * d.get R.INST_DIRTY_PAGES_PAGES i
    let lo := max addr base
    let hi := min (addr + len) end_
    let pages := if lo < hi then
        (List.range ((hi - 1 - base) / 4096 - (lo - base) / 4096 + 1)).map (fun k => (lo - base) / 4096 + k)
      else []
    let new := pages.filter (fun p => !(d.inst i).dirty.contains p)
    let d1 := d.modInst i (fun x => { x with dirty := x.dirty ++ new })
    let d2 := d1.put R.INST_DIRTY_STAT_MARKED (d1.inst i).dirty.length i
    if addr < base ∨ end_ < addr + len then
      (d2.count R.INST_DIRTY_STAT_OUT 1 i).raiseBit R.INST_EVENTS 5 i
    else d2

/-- Bytes written to host memory for an instance, as its own function: frame data, with Relaxed Ordering, or a completion
(R349, R386). -/
def Dev.hostStore (d : Dev) (i addr : Nat) (bs : List Byte) (data : Bool := false) : Dev :=
  (d.hostPut ((d.instPort i).getD 0) { fn := vfFn i, addr := addr, bytes := bs, relaxed := data }).markDirty i addr bs.length

/-! ### Events and errors of an instance (R387; 15 R494) -/

/-- An instance event: its bit is set, and the event vector is raised when it is enabled (R358, R387). -/
def Dev.ringEvent (d : Dev) (i b : Nat) : Dev :=
  let d1 := d.raiseBit R.INST_RING_EVENTS b i
  let v := d1.get R.INST_EVT_VEC_VEC i
  if d1.flag R.INST_EVT_VEC_EN i && decide (v < d1.get R.INST_VEC_RANGE_VEC_COUNT i) then d1.raiseVec (vfFn i) v else d1

/-- A read on the link for an entry of an instance's ring failed (R381, R382). -/
def Dev.dmaError (d : Dev) (i addr : Nat) : Dev :=
  ((d.readFailed ((d.instPort i).getD 0)).ringEvent i 3).error (pgINST i) 5 0x20 addr (some i)

/-! ### Descriptors (R369, R374) -/

/-- A quadword of a descriptor. -/
def descWord (b : List Byte) (k : Nat) : Nat := leNat ((b.drop (8 * k)).take 8)

/-- ADDR, and the fields at 0x08 of a transmit descriptor. -/
def descAddr (b : List Byte) : Nat := descWord b 0
def descLen (b : List Byte) : Nat := descWord b 1 % 2 ^ 16
def descFirst (b : List Byte) : Bool := (descWord b 1).testBit 16
def descLast (b : List Byte) : Bool := (descWord b 1).testBit 17
def descTs (b : List Byte) : Bool := (descWord b 1).testBit 18

/-- A reserved field of a transmit or of a receive descriptor is not 0. -/
def descRsvd (tx : Bool) (b : List Byte) : Bool :=
  decide (0 < descWord b 1 / 2 ^ (if tx then 19 else 16)) || decide (0 < descWord b 2) ||
    decide (0 < descWord b 3 % 2 ^ 63)

/-- Status codes (R383). -/
def csOk : Nat := 0x00
def csFrameErr : Nat := 0x01
def csMalLen : Nat := 0x10
def csMalRsvd : Nat := 0x11
def csMalChain : Nat := 0x12
def csDmaErr : Nat := 0x20
def csAborted : Nat := 0x21

/-! ### Completions (R364, R368, R384) -/

/-- The completion of the entry at CONS, its first three quadwords given: written with PHASE, CONS advanced, and counted
toward the ring's interrupt. -/
def Dev.writeCompletion (d : Dev) (r q0 q1 q2 : Nat) : Dev :=
  let n := d.ringN r
  let pos := d.consPos r
  let bs := leBytes 8 q0 ++ leBytes 8 q1 ++ leBytes 8 q2 ++ leBytes 8 ((1 - pos / n) * 2 ^ 63)
  let d1 := match d.ringOwner r with
    | some i => d.hostStore i (d.get R.RCTX_BASE_ADDR r + 32 * (pos % n)) bs
    | none => d
  (d1.setCons r ((pos + 1) % (2 * n))).modRing r (fun x => { x with
    entries := x.entries.tail, pend := x.pend + 1, first := if x.pend = 0 then (d.dial.notch : Int) else x.first })

/-- INTERRUPT_RAISE (R384, R358): a ring's vector is raised when its completions or their age ask for it. -/
def execInterruptRaise (ring : Nat) (s : State) : Host.Outcome State Fault Refusal :=
  s.live (fun d =>
    let x := d.ring ring
    match d.ringOwner ring with
    | none => d
    | some i =>
      if d.flag R.RCTX_CFG_INT_EN ring && !x.bad && !d.instHeld i && decide (1 ≤ x.pend) &&
          (decide (d.get R.RCTX_MOD_CNT ring ≤ x.pend) ||
            decide (x.first + (d.get R.RCTX_MOD_TIME ring : Int) ≤ (d.dial.notch : Int))) then
        (d.modRing ring (fun x => { x with pend := 0 })).raiseVec (vfFn i) (d.get R.RCTX_CFG_VEC ring)
      else d)

/-! ### Doorbells (R365 to R367) -/

/-- A doorbell discarded under R365. -/
def Dev.doorbellBad (d : Dev) (i : Nat) : Dev :=
  if d.instState i = stFrozen then d else (d.count R.INST_DB_CNT_DB_BAD 1 i).ringEvent i 1

/-- DOORBELL (R364 to R367; 11 R393; 15 R511): a write of `size` bits to the doorbell of local ring `ring` of an instance;
`descs` are the descriptors it posts as the device reads them, none where the read fails on the link, and `ecc` marks an
uncorrectable error in the ring's context. -/
def execDoorbell (inst ring size value : Nat) (descs : List (Option (List Byte))) (ecc : Bool) (s : State) :
    Host.Outcome State Fault Refusal :=
  s.live (fun d =>
    let r := 2 * d.get R.INST_RING_RANGE_QP_BASE inst + ring
    let n := d.ringN r
    let index := value % 2 ^ 16
    if size ≠ 32 ∨ 2 * d.get R.INST_RING_RANGE_QP_COUNT inst ≤ ring then d.doorbellBad inst
    else if (d.ring r).bad then d
    else if ecc then
      (d.modRing r (fun x => { x with bad := true })).error (pgINST inst) 15 1 r (some inst)
    else if 2 ^ 17 ≤ value ∨ n ≤ index ∨ !d.flag R.RCTX_CFG_EN r ∨ d.instState inst ≠ stRunning then d.doorbellBad inst
    else
      let pos := value / 2 ^ 16 * n + index
      let new := d.ringDist r pos
      let old := d.ringDist r (d.prodPos r)
      if old ≤ new ∧ new ≤ n then
        let posted := (List.range (new - old)).map (fun k =>
          ({ desc := (nth descs k (some [])).map (fun b => (b ++ List.replicate 32 0).take 32) } : RingEntry))
        (d.setProd r pos).modRing r (fun x => { x with entries := x.entries ++ posted })
      else (d.count R.INST_DB_CNT_DB_LAP 1 inst).ringEvent inst 0)

/-! ### Transmit chains (R369 to R372, R381) -/

/-- What the walk over the unread entries of a transmit ring has found: the entries judged, oldest first, each with its
status where it is completed in error, the open chain, and the chain to serve. -/
structure TxWalk where
  judged : List RingEntry := []
  chain : List RingEntry := []
  found : Bool := false
  /-- Addresses of the descriptors whose read failed, by their place in the ring's order. -/
  failed : List Nat := []
deriving DecidableEq, Repr

/-- Entries completed with a status in error. -/
def markAll (st : Nat) (es : List RingEntry) : List RingEntry := es.map (fun e => { e with done := some st })

/-- One descriptor judged as it is read (R381); the first row that applies decides. -/
def TxWalk.judge (w : TxWalk) (e : RingEntry) : TxWalk :=
  if w.found || e.done.isSome then w
  else
    let close := fun (st : Nat) (es : List RingEntry) => { w with judged := w.judged ++ markAll st es, chain := [] }
    match e.desc with
    | none =>
      { w with judged := w.judged ++ markAll csMalChain w.chain ++ markAll csDmaErr [e], chain := []
               failed := w.failed ++ [w.judged.length + w.chain.length] }
    | some b =>
      if descRsvd true b then close csMalRsvd (w.chain ++ [e])
      else if descLen b = 0 then close csMalLen (w.chain ++ [e])
      else if !descFirst b && w.chain.isEmpty then close csMalChain [e]
      else
        let w1 : TxWalk := if descFirst b && !w.chain.isEmpty then
            { w with judged := w.judged ++ markAll csMalChain w.chain, chain := [] } else w
        let c := w1.chain ++ [e]
        let total : Nat := (c.map (fun e => e.desc.elim 0 descLen)).sum
        if 16 < c.length then { w1 with judged := w1.judged ++ markAll csMalChain c, chain := [] }
        else if !descLast b then { w1 with chain := c }
        else if total < 64 ∨ 16383 < total then { w1 with judged := w1.judged ++ markAll csMalLen c, chain := [] }
        else { w1 with chain := c, found := true }

/-- Entries of a transmit ring that have been read and served or completed in error; the rest are unread. -/
def RingEntry.read (e : RingEntry) : Bool := e.chain.isSome || e.done.isSome

/-- An entry that ends a chain as the device finds it: LAST is set, or its read fails. -/
def RingEntry.ends (e : RingEntry) : Bool := e.desc.elim true descLast

/-- The unread entries of a ring up to the last of them that ends a chain: a chain whose LAST is not posted is not read
(R371). -/
def Ring.unread (x : Ring) : List RingEntry :=
  (((x.entries.dropWhile RingEntry.read).filter (fun e => !e.read)).reverse.dropWhile (fun e => !e.ends)).reverse

/-- The walk over the unread entries of a ring. -/
def Ring.walk (x : Ring) : TxWalk := x.unread.foldl TxWalk.judge { }

/-- A transmit ring whose turn has something to do: a chain to serve, or descriptors to complete in error. -/
def Dev.txReady (d : Dev) (p r : Nat) : Bool :=
  r % 2 == 1 && d.ringServes r && ((d.ringOwner r).bind d.instPort) == some p &&
    (d.ringOwner r).any (fun i => d.instState i == stRunning || d.instState i == stQuiescing) &&
    (let w := (d.ring r).walk; w.found || !w.judged.isEmpty)

/-- The next transmit ring in turn on a host port (R371). -/
def Dev.txNext (d : Dev) (p : Nat) : Option Nat :=
  let rs := (d.host.rings.map Prod.fst).filter (d.txReady p)
  let after := rs.filter (fun r => decide ((d.link p).turn < r))
  (if after.isEmpty then rs else after).min?

/-- The frame's bytes as read, each buffer's from its own read. -/
def chainBytes (chain : List RingEntry) (data : List (Option (List Byte))) : List Byte :=
  ((List.range chain.length).map (fun k =>
    let n := (nth chain k { desc := none }).desc.elim 0 descLen
    (((nth data k (some [])).getD []) ++ List.replicate n 0).take n)).flatten

/-- TX_CHAIN_SERVE (R371, R372, R381): one turn of a host port's transmit rings. Descriptors that are malformed are marked
for their completions; the chain found is read, `data` giving what each of its buffers' reads returned (none where it
failed), and its frame placed in cells granted to ingress 16 or 17, where enough are granted. -/
def execTxChainServe (port : HostPort) (data : List (Option (List Byte))) (s : State) :
    Host.Outcome State Fault Refusal :=
  s.live (fun d =>
    let p := port.num
    match d.txNext p with
    | none => d
    | some r =>
      let i := (d.ringOwner r).getD 0
      let x := d.ring r
      let done := x.entries.takeWhile RingEntry.read
      let w := x.walk
      let rest := (x.entries.drop (done.length + w.judged.length + w.chain.length))
      let addr := fun (k : Nat) => d.get R.RCTX_BASE_ADDR r + 32 * ((d.consPos r + done.length + k) % d.ringN r)
      let judged := fun (d : Dev) (chain : List RingEntry) =>
        (d.each w.failed (fun d k => d.dmaError i (addr k))).modRing r (fun x => { x with
          entries := done ++ w.judged ++ chain ++ rest })
      let d0 := d.modLink p (fun l => { l with turn := r })
      if !w.found then judged d0 w.chain
      else if (List.range w.chain.length).any (fun k => (nth data k (some [])).isNone) then
        (judged d0 (markAll csDmaErr w.chain)).each ((List.range w.chain.length).filter (fun k => (nth data k (some [])).isNone))
          (fun d k => d.dmaError i ((nth w.chain k { desc := none }).desc.elim 0 descAddr))
      else
        let bs := chainBytes w.chain data
        let ts := (w.chain.head?.bind RingEntry.desc).elim false descTs
        let n := x.nextChain
        match d0.placeFrame (16 + p) (d0.get R.RCTX_CFG_DEF_CLASS r) bs (fun f => { f with
            tx := if ts then some (r, n) else none, origin := some i }) with
        | none => d
        | some d1 =>
          (judged d1 (w.chain.map (fun e => { e with
            chain := some n, done := if ts then none else some csOk }))).modRing r
            (fun x => { x with nextChain := n + 1 }))

/-! ### Transmit completions (R372, R373) -/

/-- The transmit completion of the entry at CONS, with its status. -/
def Dev.completeTx (d0 : Dev) (r : Nat) (e : RingEntry) (st : Nat) : Dev :=
  let unread := d0.free
  let d := if e.desc.isSome then d0 else unread.2
  let low := match e.desc with
    | some b => descWord b 1 % 2 ^ 19
    | none => unread.1.toNat % 2 ^ 19
  let last := e.desc.elim false descLast
  let ts := if last then e.ts else none
  let q0 := match ts with
    | some (port, t) => t.2 + t.1 % 2 ^ 16 * 2 ^ 32 + port % 16 * 2 ^ 48
    | none => 0
  let q1 := low + bit ts.isSome * 2 ^ 19 + st * 2 ^ 48
  let d1 := d.writeCompletion r q0 q1 0
  let i := (d.ringOwner r).getD 0
  if st = csOk then
    (if last then d1.count R.RCTX_FRAMES 1 r else d1).count R.RCTX_OCTETS (e.desc.elim 0 descLen) r
  else if st = csAborted then d1.count R.INST_TX_ABORTED 1 i
  else (d1.count R.RCTX_ERR_DESC 1 r).ringEvent i 2

/-- The completions at the front of a ring whose status is known, written in ring order, at most `fuel`. -/
def Dev.completeFront (d : Dev) (r : Nat) : Nat → Dev
  | 0 => d
  | fuel + 1 =>
    match (d.ring r).entries.head? with
    | none => d
    | some e =>
      match e.done with
      | none => d
      | some st => (d.completeTx r e st).completeFront r fuel

/-- All completions at the front of a transmit ring; a ring whose context is in error writes none (15 R511). -/
def Dev.completeAll (d : Dev) (r : Nat) : Dev :=
  if (d.ring r).bad then d else d.completeFront r (d.ring r).entries.length

/-- What became of the frames that asked for a timestamp, noted on their descriptors. -/
def Dev.takeTxEvents (d : Dev) (r : Nat) : Dev :=
  let evs := d.basin.txEvents.filter (fun e => e.1.1 == r)
  let d1 : Dev := { d with basin := { d.basin with txEvents := d.basin.txEvents.filter (fun e => e.1.1 != r) } }
  d1.each evs (fun d e => d.modRing r (fun x => { x with
    entries := x.entries.map (fun y =>
      if y.chain = some e.1.2 ∧ y.done = none then
        { y with done := some csOk, ts := e.2.2.map (fun t => (e.2.1, t)) } else y) }))

/-- TX_COMPLETION (R372, R373): the transmit completions of a ring that are due are written in ring order. -/
def execTxCompletion (ring : Nat) (s : State) : Host.Outcome State Fault Refusal :=
  s.live (fun d =>
    let st := (d.ringOwner ring).elim stFree d.instState
    if ring % 2 = 1 && d.ringServes ring && (st == stRunning || st == stQuiescing) then
      (d.takeTxEvents ring).completeAll ring
    else d)

/-! ### Receive buffers (R374 to R379, R382) -/

/-- The status a posted receive descriptor fails with; none where it is valid. -/
def rxFault (e : RingEntry) : Option Nat :=
  match e.desc with
  | none => some csDmaErr
  | some b =>
    if descRsvd false b then some csMalRsvd
    else if descLen b % 64 = 0 ∧ 64 ≤ descLen b ∧ descLen b ≤ 16384 then none else some csMalLen

/-- Bytes that the posted valid buffers of a ring hold. -/
def Ring.room (x : Ring) : Nat :=
  (x.entries.map (fun e => if (rxFault e).isNone then e.desc.elim 0 descLen else 0)).sum

/-- The buffers of R377 suffice for a frame. -/
def Dev.rxFits (d : Dev) (r : Nat) (f : Frame) : Bool :=
  if f.ct then decide (0 < (d.ring r).room) else decide (f.bytes.length ≤ (d.ring r).room)

/-- How a frame's bytes fall on the posted entries: for each entry used, its address and bytes, or the status it fails
with. -/
def fillRx : List RingEntry → List Byte → List (Nat × List Byte × Option Nat)
  | [], _ => []
  | e :: es, bs =>
    if bs.isEmpty then []
    else
      match rxFault e with
      | some st => (0, [], some st) :: fillRx es bs
      | none =>
        let n := e.desc.elim 0 descLen
        (e.desc.elim 0 descAddr, bs.take n, none) :: fillRx es (bs.drop n)

/-- One receive completion (R376): of buffer `k` of those a frame used, `last` being the number of the last. -/
def Dev.completeRx (d : Dev) (r : Nat) (f : Frame) (x : Nat × List Byte × Option Nat) (first last trunc : Bool)
    (total st : Nat) : Dev :=
  let t := f.tk
  let i := (d.ringOwner r).getD 0
  match x.2.2 with
  | some bad =>
    let addr := d.get R.RCTX_BASE_ADDR r + 32 * d.get R.RCTX_IDX_CONS r
    let d1 := (d.writeCompletion r 0 (bad * 2 ^ 48) 0).count R.RCTX_ERR_DESC 1 r
    if bad = csDmaErr then (d1.ringEvent i 2).dmaError i addr else d1.ringEvent i 2
  | none =>
    let q1 := x.2.1.length + (if last then total else 0) * 2 ^ 16 + t.get T.CLASS * 2 ^ 32 + t.get T.COLOUR * 2 ^ 35 +
      bit first * 2 ^ 40 + bit last * 2 ^ 41 + bit trunc * 2 ^ 42 + t.get T.TS_VALID * 2 ^ 43 + t.get T.TUNNEL * 2 ^ 44 +
      t.get T.FRAG * 2 ^ 45 + t.get T.DEEP * 2 ^ 46 + st * 2 ^ 48
    let q2 := t.get T.RX_TS_NS + t.get T.RX_TS_SEC * 2 ^ 32 + t.get T.INGRESS * 2 ^ 40 + t.get T.INSTANCE * 2 ^ 45
    d.writeCompletion r (t.get T.TAG) q1 q2

/-- A frame's bytes written into the posted buffers of a ring and completed in ring order: `bs` is what is delivered, cut
short or not (R375, R376, R379); to a ring whose context is in error nothing is written (15 R511). -/
def Dev.deliverRx (d : Dev) (r : Nat) (f : Frame) (bs : List Byte) (trunc : Bool) : Dev :=
  if (d.ring r).bad then d else
  let i := (d.ringOwner r).getD 0
  let used := fillRx (d.ring r).entries bs
  let good := (List.range used.length).filter (fun k => (nth used k (0, [], some 0)).2.2.isNone)
  let total := (used.map (fun x => x.2.1.length)).sum
  let d1 := d.each (used.filter (fun x => x.2.2.isNone)) (fun d x => d.hostStore i x.1 x.2.1 true)
  let d2 := d1.each (List.range used.length) (fun d k =>
    let last := good.getLast? == some k
    let st := if trunc then (if last then csFrameErr else csOk) else if f.errored then csFrameErr else csOk
    d.completeRx r f (nth used k (0, [], none)) (good.head? == some k) last trunc total st)
  if trunc then (d2.count R.RCTX_RX_TRUNC 1 r).ringEvent i 5
  else if f.errored then d2
  else (d2.count R.RCTX_FRAMES 1 r).count R.RCTX_OCTETS total r

/-- The Ethernet FCS of the bytes before the FCS position, or one that is invalid (R375; 06 R211). -/
def withFcs (bs : List Byte) (good : Bool) : List Byte :=
  let body := bs.take (bs.length - 4)
  body ++ leBytes 4 (if good then crc32 body else crc32 body ^^^ 0xFFFFFFFF)

/-- An outgoing frame on a port: padded to 64 bytes before the FCS (06 R211). -/
def portBytes (bs : List Byte) (good : Bool) : List Byte :=
  let body := bs.take (bs.length - 4)
  withFcs (body ++ List.replicate (60 - body.length) 0 ++ [0, 0, 0, 0]) good

/-- The direction of a frame for the Ledger: 0 from a host transmit ring, else 1 (11 R415). -/
def Frame.dir (f : Frame) : Nat := if f.origin.isSome then 0 else 1

/-- A frame charged at its completion (11 R415). -/
def Dev.chargeDone (d : Dev) (f : Frame) (n : Nat) : Dev := d.chargeFrame (f.tk.get T.INSTANCE) f.dir (f.tk.get T.CLASS) n

/-- A frame cut short on its ring: what its buffers held is completed, the rest is discarded (R379; 11 R399). It is charged with
its outgoing length (11 R415), one that still arrives when its last byte has (DEDUCED, notes/assumptions/71). -/
def Dev.truncRx (d : Dev) (r : Nat) (f : Frame) : Dev :=
  let d1 := d.deliverRx r f (f.bytes.take (d.ring r).room) true
  let d2 := if f.complete then d1.chargeDone f f.bytes.length
    else { d1 with ports := { d1.ports with
      owed := assocSet d1.ports.owed f.ingress (f.tk.get T.INSTANCE, f.dir, f.tk.get T.CLASS, f.tk.delta) } }
  d2.leave f none

/-- A frame fills every posted buffer of its ring, and bytes of it remain (R379). -/
def Dev.rxExhausted (d : Dev) (r : Nat) (f : Frame) : Bool :=
  if f.complete then decide ((d.ring r).room < f.bytes.length) else decide ((d.ring r).room ≤ f.bytes.length)

/-- The instance that owns a ring is RUNNING. -/
def Dev.ownerRuns (d : Dev) (r : Nat) : Bool := (d.ringOwner r).any (fun i => d.instState i == stRunning)

/-- Frames whose write to a ring is in progress. -/
def Dev.writing (d : Dev) (r : Nat) : List Frame :=
  d.basin.frames.filter (fun f => f.stage == .egress && (f.egress == 16 || f.egress == 17) && f.tk.get T.DEST == r &&
    !(d.ring r).hold.contains f.head)

/-! ### Holds (R377, R378; 11 R395) -/

/-- A frame that its ring's owner or a full ring turns away is dropped and counted (11 R395). -/
def Dev.dropState (d : Dev) (r : Nat) (f : Frame) : Dev :=
  let d1 := d.count R.BASIN_INST_DROP 1
  ((match d1.ringOwner r with
    | some i => d1.count R.INST_STATE_DROP 1 i
    | none => d1).leave f none)

/-- A frame that waited RX_WAIT Notches at the head of a hold, or that RX_WAIT 0 lets in nowhere, is dropped (R378). -/
def Dev.dropNobuf (d : Dev) (r : Nat) (f : Frame) : Dev :=
  ((d.count R.RCTX_RX_NOBUF 1 r).ringEvent ((d.ringOwner r).getD 0) 4).leave f none

/-- The frame at the head of a ring's hold taken from it; the next becomes head. -/
def Dev.popHold (d : Dev) (r : Nat) : Dev :=
  d.modRing r (fun x => { x with hold := x.hold.tail, headFrom := d.dial.notch })

/-- Every frame in the hold of a ring dropped (11 R395). -/
def Dev.dropHold (d : Dev) (r : Nat) : Dev :=
  let fs := (d.ring r).hold.filterMap d.frame?
  (d.each fs (fun d f => d.dropState r f)).modRing r (fun x => { x with hold := [] })

/-- A frame whose write to its ring starts: counted when it is cut-through, and cut short at once when what is present of
it already fills every posted buffer (R379, R380; 08 R303). -/
def Dev.startRx (d : Dev) (r : Nat) (f : Frame) : Dev :=
  let d1 := if f.complete then d else d.count R.BASIN_CT_STARTS 1
  if d1.rxExhausted r f then d1.truncRx r f else d1

/-- The arriving frame with head `h` cut short where it is being written to its ring and now fills every posted buffer (R379,
R380). -/
def Dev.cutArriving (d : Dev) (h : Nat) : Dev :=
  match d.frame? h with
  | none => d
  | some f =>
    let r := f.tk.get T.DEST
    if f.stage == .egress && within 16 17 f.egress && !(d.ring r).hold.contains h && d.dmaOk (f.egress - 16) &&
        d.rxExhausted r f then d.truncRx r f
    else d

/-- FRAME_RECEIVE (03 R91, R98 to R102, R112; 02 R66 to R68): the next bytes of the frame that arrives on a port; `sub` is
the instant of its SFD in ns into the ended Notch, `last` marks its last bytes and `fcsGood` its FCS. A cut-through frame that
its ring does not hold is cut short (R379). -/
def execFrameReceive (port sub : Nat) (chunk : List Byte) (last fcsGood : Bool) (s : State) :
    Host.Outcome State Fault Refusal :=
  s.live (fun d =>
    let e := d.receive port sub chunk last fcsGood
    match assoc d.ports.rx port with
    | some (.basin h _ _, _) => e.cutArriving h
    | _ => e)

/-- RX_HOLD_START (R378): the frame at the head of a ring's hold starts when the ring's buffers suffice. -/
def execRxHoldStart (ring : Nat) (s : State) : Host.Outcome State Fault Refusal :=
  s.live (fun d =>
    match (d.ring ring).hold.head?.bind d.frame? with
    | none => d
    | some f =>
      if d.ringServes ring && (d.writing ring).isEmpty && d.rxFits ring f then (d.popHold ring).startRx ring f else d)

/-- RX_NOBUF (R378): the head of a hold has stood there for RX_WAIT Notches. -/
def execRxNobuf (ring : Nat) (s : State) : Host.Outcome State Fault Refusal :=
  s.live (fun d =>
    match (d.ring ring).hold.head?.bind d.frame? with
    | none => d
    | some f =>
      if (d.ring ring).headFrom + d.get R.RCTX_CFG_RX_WAIT ring ≤ d.dial.notch then (d.popHold ring).dropNobuf ring f
      else d)

/-- The registers of rings and instances that show a state kept elsewhere brought up to date (R390; 11 R424). -/
def Dev.showHost (d : Dev) : Dev :=
  let d1 := d.each d.host.rings (fun d x =>
    (d.put R.RCTX_HOLD_FRAMES (saturate 16 x.2.hold.length) x.1).put R.RCTX_HOLD_WAIT
      (if x.2.hold.isEmpty then 0 else saturate 16 (d.dial.notch - x.2.headFrom)) x.1)
  (d1.put R.INSTCTL_DIRTY_USE_COUNT d1.dirtyUse).put R.INSTCTL_LEDGER_BACKLOG_RECORDS d1.ledger.backlog.length

end Sys2Proof.Machine
end

