-- ==== Sys2Proof/Machine/Control.lean ====
section
/-! DEFINITION. The control cores' exceptions, stops and control registers, and the internal address space
(spec/14_control_events.md R471 to R476). -/

namespace Sys2Proof.Machine

/-! ### Control cores -/

/-- A control core, and the device with it changed. -/
def Dev.ctrl (d : Dev) (c : Nat) : CtrlCore := (assoc d.control.cores c).getD { }
def Dev.modCtrl (d : Dev) (c : Nat) (f : CtrlCore → CtrlCore) : Dev :=
  { d with control := { d.control with cores := assocSet d.control.cores c (f (d.ctrl c)) } }

/-- How many control cores are stopped, and reason CTRL_CORES follows (15 R513). -/
def Dev.coreReason (d : Dev) : Dev :=
  d.followReason 9 (decide (4 ≤ (d.control.cores.filter (fun x => x.2.stopped)).length))

/-- A completion of a source is sampled at the end of the running Notch (R486). -/
def Dev.complete (d : Dev) (src : Nat) : Dev :=
  { d with control := { d.control with done := d.control.done ++ [(src, d.dial.notch)] } }

/-- An outstanding presentation withdrawn: the source is IDLE with PEND as it was before (R474, R490). -/
def Dev.withdraw (d : Dev) (src : Nat) : Dev :=
  let d1 := d.put R.SRC_W1_SERVICE 0 src
  let d2 := if d.flag R.SRC_W0_TRIGGER src then d1.put R.SRC_W1_PEND 1 src else d1
  { d2 with control := { d2.control with withdrawn := d2.control.withdrawn ++ [src] } }

/-- A control core stops (R474): its stop is recorded, every source ACTIVE on it is completed, and a presentation that
is outstanding is withdrawn. -/
def Dev.stopCtrl (d : Dev) (c code pc : Nat) : Dev :=
  let x := d.ctrl c
  let d1 := d.modCtrl c (fun x => { x with stopped := true, cause := code, outst := none, wfi := false, stack := [] })
  let active := (x.stack.filter (fun e => !e.exc && e.vec != 2047)).map CtrlEntry.vec
  let d2 := d1.each active Dev.complete
  let d3 := match x.outst with | some (s, _) => d2.withdraw s | none => d2
  let d4 := (d3.put R.CTRLCORE_STOPPED_MAP (d3.get R.CTRLCORE_STOPPED_MAP ||| 2 ^ c)).raiseBit R.CTRLCORE_EVENTS 0
  let d5 := ((d4.put R.CTRLCORE_CORE_STOPPED 1 0 c).put R.CTRLCORE_CORE_CAUSE code 0 c).put R.CTRLCORE_CORE_EPC pc 0 c
  ((d5.modThread (.ctrl c) (fun t => { t with st := .stopped })).error pgCTRLCORE 10 code c).coreReason

/-- An entry pushed; a push onto a full stack stops the core (R474). -/
def Dev.pushEntry (d : Dev) (c code : Nat) (e : CtrlEntry) (g : Dev → Dev) : Dev :=
  if 64 ≤ (d.ctrl c).stack.length then d.stopCtrl c code e.pc
  else g (d.modCtrl c (fun x => { x with stack := e :: x.stack }))

/-- An exception of a control core at the instruction at `pc` (R474). -/
def Dev.exception (d : Dev) (c code pc : Nat) : Dev :=
  let x := d.ctrl c
  if x.exc then d.stopCtrl c code pc
  else
    d.pushEntry c code { pc := pc, prio := x.runPrio, vec := 0, exc := true, trap := code == 0x0D } (fun d =>
      (d.modCtrl c (fun x => { x with exc := true, cause := code })).modThread (.ctrl c)
        (fun t => { t with pc := x.excEntry }))

/-! ### The internal address space (R476) -/

/-- Bytes of HBM in the internal address space: 11,904 regions of 2 MiB a stack (15 R507). -/
def Dev.hbmSize (d : Dev) : Nat := d.variant.stacks * 11904 * 0x200000

/-- The address of HBM and of a control core's local memory. -/
def hbmBase : Nat := 0x000100000000
def localBase (c : Nat) : Nat := 0x000200000000 + 0x100000 * c

/-- `n` bytes from an address lie within HBM, within one local memory, or within the register pages. -/
def Dev.inHbm (d : Dev) (a n : Nat) : Bool := decide (hbmBase ≤ a) && decide (a + n ≤ hbmBase + d.hbmSize)
def inLocal (a n : Nat) : Bool :=
  decide (localBase 0 ≤ a) && decide (a < localBase 16) && decide ((a - localBase 0) % 0x100000 + n ≤ 0x80000)
def inPages (a n : Nat) : Bool := decide (a + n ≤ 0x1000000)

/-- `n` bytes from an address lie within a region of R476. -/
def Dev.internalOk (d : Dev) (a n : Nat) : Bool := d.inHbm a n || inLocal a n || inPages a n

/-- Bytes read through the internal address space without side effects: memory, or register words as firmware reads
them. -/
def Dev.internalBytes (d : Dev) (a n : Nat) : List Byte :=
  if inPages a n then
    (List.range n).map (fun j =>
      BitVec.ofNat 8 ((d.readWord .firmware ((a + j) / 4096) ((a + j) % 4096 / 8)).toNat / 256 ^ ((a + j) % 8)))
  else d.mem.bytes a n

/-- What reading them does besides: DIAL.NOTCH_COUNT among them loads the latch (01 R57). -/
def Dev.internalRead (d : Dev) (a n : Nat) : Dev :=
  let at_ := 4096 * pgDIAL + 0x60
  if inPages a n ∧ a < at_ + 8 ∧ at_ < a + n then d.loadLatch else d

/-- A word marked uncorrectable lies in `n` bytes from an address (15 R507). -/
def Dev.marks (d : Dev) (a n : Nat) : Bool := d.health.marked.any (fun w => decide (w < a + n) && decide (a < w + 8))

/-- Bytes written to memory of the internal address space; a marked word written whole is marked no more (15 R507). -/
def Dev.writeMem (d : Dev) (a : Nat) (bs : List Byte) : Dev :=
  let d1 : Dev := if d.health.marked.isEmpty then d
    else { d with health := { d.health with
      marked := d.health.marked.filter (fun w => !(decide (a ≤ w) && decide (w + 8 ≤ a + bs.length))) } }
  { d1 with mem := d1.mem.setBytes a bs }

/-- Bytes written through the internal address space by control firmware: to memory at once, or to a register page at the end
of the Notch, as configuration writes of 64 or 32 bits with the device role (R476; 01 R51). -/
def Dev.internalStore (d : Dev) (a : Nat) (bs : List Byte) : Dev :=
  if inPages a bs.length then { d with acc := { d.acc with stores := d.acc.stores ++ [⟨a, bs⟩] } } else d.writeMem a bs

/-! ### Control registers (R475) -/

/-- What CSRR reads; none for a number that R475 does not name. -/
def Dev.csr (d : Dev) (c n : Nat) : Option Nat :=
  let x := d.ctrl c
  match n with
  | 0x000 => some c
  | 0x001 => some (bit x.ie + 2 * bit x.exc)
  | 0x002 => some x.runPrio
  | 0x003 => some x.vecBase
  | 0x004 => some x.excEntry
  | 0x005 => some x.cause
  | 0x006 => some (x.stack.head?.elim 0 CtrlEntry.pc % 2 ^ 19)
  | 0x007 => some (x.stack.head?.elim 0 (fun e => e.vec + 2048 * bit e.exc))
  | 0x008 => some x.stack.length
  | 0x009 => some (d.dial.notch % 2 ^ 32)
  | 0x00A => some x.timer
  | 0x00B => some (x.swint + 256 * bit x.swintOpen)
  | 0x00C => some x.mreq
  | _ => none

/-- What CSRW does for the registers other than SWINT and MREQ; a write to a read-only field is discarded. -/
def CtrlCore.csrWrite (x : CtrlCore) (n : Nat) (v : Word) : CtrlCore :=
  match n with
  | 0x001 => { x with ie := v.getLsbD 0 }
  | 0x002 => { x with runPrio := v.toNat % 64 }
  | 0x003 => if v.toNat % 2 ^ 19 % 0x20000 = 0 then { x with vecBase := v.toNat % 2 ^ 19 } else x
  | 0x004 => { x with excEntry := v.toNat % 2 ^ 19 / 64 * 64 }
  | 0x00A => { x with timer := v.toNat }
  | _ => x

end Sys2Proof.Machine
end

