-- ==== Sys2Proof/Machine/Repair.lean ====
section
/-! DEFINITION. The repair of HBM: remapping a region to the stack's reserve (spec/15_faults.md R507, R508). -/

namespace Sys2Proof.Machine

/-- Visible regions of a stack, and regions of its reserve. -/
def visibleRegions : Nat := 11904
def reserveRegions : Nat := 384

/-- The index of a visible region in the HEALTH window (R520). -/
def regionIndex (stack region : Nat) : Nat := 16384 * stack + region

/-- States of a region (R520). -/
def hrNormal : Nat := 0
def hrCopying : Nat := 1
def hrRemapped : Nat := 2
def hrFailed : Nat := 3

def Dev.regionState (d : Dev) (stack region : Nat) : Nat := d.get R.HBMREG_W0_STATE (regionIndex stack region)

/-- Regions of a stack's reserve taken. -/
def Dev.reserveUsed (d : Dev) (stack : Nat) : Nat := (assoc d.health.reserve stack).getD 0

/-- The copy of a region to the next reserve region starts (R507). -/
def Dev.startRemap (d : Dev) (stack region : Nat) : Dev :=
  let n := d.reserveUsed stack
  ({ d with health := { d.health with
      reserve := assocSet d.health.reserve stack (n + 1)
      remaps := d.health.remaps ++ [(stack, region, visibleRegions + n)]
      remapFrom := assocSet d.health.remapFrom (regionIndex stack region) d.dial.notch } }).put R.HBMREG_W0_STATE hrCopying
    (regionIndex stack region)

/-- A region that cannot be remapped is FAILED (R508). -/
def Dev.failRegion (d : Dev) (stack region : Nat) : Dev :=
  (((d.put R.HBMREG_W0_STATE hrFailed (regionIndex stack region)).count R.HEALTH_HBM_FAILED 1 0 stack).error pgHEALTH 14 0
    (stack * 2 ^ 16 + region)).setReason 4

/-- A region that meets R507 is remapped, or FAILED when the reserve is empty (R507, R508). -/
def Dev.repairRegion (d : Dev) (stack region : Nat) : Dev :=
  if d.regionState stack region ≠ hrNormal then d
  else if d.reserveUsed stack < reserveRegions then d.startRemap stack region
  else d.failRegion stack region

/-- Stack and region of an address of HBM. -/
def hbmRegion (a : Nat) : Nat × Nat := ((a - hbmBase) / 0x200000 / visibleRegions, (a - hbmBase) / 0x200000 % visibleRegions)

/-- An uncorrectable error is read at an address of the internal address space: where it lies in HBM, its region is
repaired. -/
def Dev.hbmFault (d : Dev) (a : Nat) : Dev :=
  if !d.inHbm a 1 then d else d.repairRegion (hbmRegion a).1 (hbmRegion a).2

/-! ### Corrected errors (R507, R509, R520) -/

/-- A corrected error counted in the present window of a region or bank, whose count the field is; the first one opens the
window. -/
def Dev.countCorrected (d : Dev) (f : Fld) (u : Nat) : Dev :=
  let k := fldKey f u 0
  if (assoc d.health.corrFrom k).isSome then d.count f 1 u
  else ({ d with health := { d.health with corrFrom := assocSet d.health.corrFrom k d.dial.notch } }).put f 1 u

/-- Windows of WINDOW Notches that are over: their counts start again. -/
def Dev.closeWindows (d : Dev) : Dev :=
  let done := d.health.corrFrom.filter (fun x => decide (x.2 + d.get R.HEALTH_HBM_CFG_WINDOW ≤ d.dial.notch))
  done.foldl
    (fun d x =>
      let d1 := if x.1.sp = .BANK then d.put R.BANK_W0_CORR 0 x.1.idx else d.put R.HBMREG_W0_CORR 0 x.1.idx
      { d1 with health := { d1.health with corrFrom := assocDel d1.health.corrFrom x.1 } })
    d

/-- A corrected error read at an address of HBM: the region is repaired when its errors reach CORR_LIMIT. -/
def Dev.hbmCorrected (d : Dev) (a : Nat) : Dev :=
  if !d.inHbm a 1 then d
  else
    let x := hbmRegion a
    let d1 := d.countCorrected R.HBMREG_W0_CORR (regionIndex x.1 x.2)
    if d1.get R.HEALTH_HBM_CFG_CORR_LIMIT ≤ d1.get R.HBMREG_W0_CORR (regionIndex x.1 x.2) then d1.repairRegion x.1 x.2 else d1

/-- The spaces of objects that lie in HBM: of the tables (07 R252), and security associations (12). -/
def inHbmSpace (sp : Space) : Bool := [Space.FLOW, .FLOWBKT, .ROUTE, .ROUTEBKT, .SA].contains sp

/-- The address of a word of such an object, which the implementation fixes (DESIGN CHOICE, notes/assumptions/51). -/
def Dev.homeOf (d : Dev) (k : Key) : Nat := hbmBase + 8 * (Config.hbmHome k % (d.hbmSize / 8))

/-- An uncorrectable error, and a corrected one, read in a word of an object: where the object lies in HBM its region is repaired, or
the error counted (R507). -/
def Dev.objectFault (d : Dev) (k : Key) : Dev := if inHbmSpace k.sp then d.hbmFault (d.homeOf k) else d
def Dev.objectCorrected (d : Dev) (k : Key) : Dev := if inHbmSpace k.sp then d.hbmCorrected (d.homeOf k) else d

/-- The words of a beat read uncorrectable at an address of HBM are marked until they are written again (R507; DESIGN CHOICE,
notes/assumptions/51: all words of the beat). -/
def Dev.markWords (d : Dev) (a : Nat) : Dev :=
  if !d.inHbm a 1 then d
  else { d with health := { d.health with
    marked := (d.health.marked ++ (List.range 8).map (fun k => a / 8 * 8 + 8 * k)).eraseDups } }

/-- The copy of a region completes, and its addresses go to the reserve region (R507, R513). -/
def Dev.remapDone (d : Dev) (stack region : Nat) : Dev :=
    match d.health.remaps.find? (fun x => x.1 == stack && x.2.1 == region) with
    | none => d
    | some x =>
      let k := regionIndex stack region
      let d1 : Dev := { d with health := { d.health with
        remaps := d.health.remaps.filter (fun y => !(y.1 == stack && y.2.1 == region))
        remapFrom := assocDel d.health.remapFrom k } }
      let d2 := ((((d1.put R.HBMREG_W0_STATE hrRemapped k).put R.HBMREG_W0_PHYS x.2.2 k).count R.HEALTH_HBM_REMAPPED 1 0
        stack).raiseBit R.HEALTH_EVENTS 2).error pgHEALTH 13 0 (stack * 2 ^ 16 + region)
      let d3 := if 246 ≤ d2.get R.HEALTH_HBM_REMAPPED 0 stack then d2.setReason 3 else d2
      match assoc d3.cmds (fldKey R.HEALTH_CMD_CODE 0 0) with
      | some w => if w.field 4 1 = stack ∧ w.field 8 14 = region then d3.cmdFinish R.HEALTH_CMD_STATUS 0 else d3
      | none => d3

/-- HBM_REMAP_DONE (R507). -/
def execHbmRemapDone (stack region : Nat) (s : State) : Host.Outcome State Fault Refusal :=
  s.act (fun d => d.remapDone stack region)

/-- Copies that have run 4,096 Notches are complete (R507). -/
def Dev.remapsDue (d : Dev) : Dev :=
  d.each (d.health.remaps.filter (fun x =>
      (assoc d.health.remapFrom (regionIndex x.1 x.2.1)).any (fun n => decide (n + 4096 ≤ d.dial.notch))))
    (fun d x => d.remapDone x.1 x.2.1)

end Sys2Proof.Machine
end

