-- ==== Sys2Proof/Machine/Admission.lean ====
section
/-! DEFINITION. Basin admission: the checks, policing, limits with push-out, the write-back of the window and the link onto
a leaf; ageing; and the retirement of banks (spec/08_basin.md R294 to R309). -/

namespace Sys2Proof.Machine

/-! ### Destinations (R295 steps 1 to 5, R296) -/

/-- Where a ticket goes: an egress, or the reason it is dropped. -/
inductive Dest where
  | egress (e : Nat)
  | portDown (p : Nat)
  | bad
deriving DecidableEq, Repr

/-- The destination of a ticket with DEST_TYPE 1 to 4, its leaf not yet looked at (R296). -/
def Dev.destOf (d : Dev) (t : Ticket) : Dest :=
  let x := t.get T.DEST
  if t.get T.DEST_TYPE = 1 then
    (if 16 ≤ x then .bad
     else if d.portInService x && d.flag R.PORT_CTRL_ADMIN x then .egress x else .portDown x)
  else if t.get T.DEST_TYPE = 2 then
    (if x % 2 = 0 ∧ d.flag R.RCTX_CFG_EN x then
      (match (d.ringOwner x).bind d.instPort with | some p => .egress (16 + p) | none => .bad)
     else .bad)
  else if t.get T.DEST_TYPE = 3 then .egress 18
  else if x < 131072 then .egress 19
  else .bad

/-- The owner of the ring that a ticket with DEST_TYPE 2 names, where that instance is not RUNNING (11 R394). -/
def Dev.idleOwner (d : Dev) (t : Ticket) : Option Nat :=
  if t.get T.DEST_TYPE = 2 then
    (d.ringOwner (t.get T.DEST)).bind (fun i => if d.instState i = stRunning then none else some i)
  else none

/-- Whether the INSTANCE of a ticket accepts it in its present state (11 R394). -/
def Dev.instAccepts (d : Dev) (t : Ticket) (f : Frame) : Bool :=
  let i := t.get T.INSTANCE
  let st := d.instState i
  st == stRunning || (f.origin == some i && (st == stQuiescing || st == stQuiesced || st == stFrozen))

/-- A unit that the variant lacks is named as destination or next destination (02 R77). -/
def Dev.absentUnit (d : Dev) (t : Ticket) : Bool :=
  let u := fun (n : Nat) => n == 3 || n == 4
  !d.variant.hasCrypto && (u (t.get T.DEST_TYPE) || u (t.get T.NEXT_TYPE))

/-- A ticket dropped at a step from 3 to 8, counted in `c` and against its instance (R295). -/
def Dev.admitDrop (d : Dev) (t : Ticket) (f : Frame) (c : Fld) : Dev :=
  ((d.count c 1).count R.INST_ADMIT_DROP 1 (t.get T.INSTANCE)).discard f.head

/-! ### Limits and push-out (R298, R299) -/

/-- Cells of frames of an egress class that have started. -/
def Dev.occStarted (d : Dev) (e c : Nat) : Nat :=
  (((d.classQueue e c).filter Frame.started).map (fun f => f.cells.length)).sum

/-- Shared cells that eviction could free from the classes of an egress below class `c`. -/
def Dev.avail (d : Dev) (e c : Nat) : Nat :=
  ((List.range c).map (fun k =>
    let q := 8 * e + k
    d.overGmin q (d.get R.BASIN_Q_AGE_OCC 0 q) - d.overGmin q (d.occStarted e k))).sum

/-- One frame evicted, and the shared cells that it released. -/
def Dev.evict (d : Dev) (v : Frame) : Dev × Nat :=
  let q := 8 * v.egress + v.cls
  let occ := d.get R.BASIN_Q_AGE_OCC 0 q
  let released := d.overGmin q occ - d.overGmin q (occ - v.cells.length)
  let old := (d.leafHead v.leaf).map Frame.head
  let d1 := (((d.count R.BASIN_PUSHOUT 1).count R.ECSTAT_PUSHED_OUT 1 q).raiseBit R.BASIN_EVENTS 0).raiseBit R.BASIN_EVENTS 3
  ((d1.leave v none).restampFrom v.leaf (if old = some v.head then none else old), released)

/-- Frames of class `k` of an egress evicted, the latest admitted first, while `short` cells are wanted. -/
def Dev.evictFrom (d : Dev) (e k : Nat) (short : Int) : Nat → Dev × Int
  | 0 => (d, short)
  | fuel + 1 =>
    let q := 8 * e + k
    if 0 < short ∧ d.get R.BASIN_Q_CFG_GMIN 0 q < d.get R.BASIN_Q_AGE_OCC 0 q then
      match ((d.classQueue e k).filter (fun f => !f.started)).getLast? with
      | none => (d, short)
      | some v =>
        let r := d.evict v
        Dev.evictFrom r.1 e k (short - r.2) fuel
    else (d, short)

/-- Push-out from the classes below `c` of an egress, the lowest first. -/
def Dev.pushOut (d : Dev) (e c : Nat) (short : Int) : Dev :=
  ((List.range c).foldl (fun (x : Dev × Int) k => Dev.evictFrom x.1 e k x.2 (x.1.classQueue e k).length) (d, short)).1

/-- Step 7 for a frame of `n` cells: the device after any push-out, or none where the frame is dropped; and whether it
is dropped for want of shared room (R298). -/
def Dev.limits (d : Dev) (e c leaf colour n : Nat) : Option Dev × Bool :=
  let q := 8 * e + c
  let occ := d.get R.BASIN_Q_AGE_OCC 0 q
  if d.get R.LEAFREC_W0_MAX_CELLS leaf < d.leafCells leaf + n then (none, false)
  else if d.get R.BASIN_Q_CFG_QMAX 0 q < occ + n then (none, false)
  else
    let need := d.overGmin q (occ + n) - d.overGmin q occ
    let short : Int := (d.get R.BASIN_SHARED_USED_USED : Int) + need - d.colourLimit q colour
    if short ≤ 0 then (some d, false)
    else if !d.flag R.BASIN_Q_CFG_PUSHOUT_EN 0 q then (none, true)
    else if (d.avail e c : Int) < short then (none, true)
    else (some (d.pushOut e c short), false)

/-! ### Write-back and forwarding start (R297, R301; 02 R75; 06 R213) -/

/-- A frame whose first `n` bytes are replaced by an edited window; `extra` is the cell granted where the window exceeds
256 bytes (R297). -/
def Frame.writeBack (f : Frame) (n : Nat) (win : List Byte) (extra : Option Nat) : Frame :=
  let head := (f.head, min 256 win.length)
  let more := match extra with | some c => [(c, win.length - 256)] | none => []
  let cells := head :: more ++ f.cells.tail
  ({ f with bytes := win ++ f.bytes.drop n, cells := cells, room := if f.cells.length ≤ 1 then 0 else f.room }).clamp

/-- Rate of an Ethernet port at the start of the Notch, in tenths of Gb/s (03 R86). -/
def Dev.portRateStart (d : Dev) (p : Nat) : Nat :=
  d.getStart R.PORT_STATUS_LANES p * (if d.variant.laneRate = 1 then 2000 else 1000)

/-- Rate of an egress at the start of the Notch, in tenths of Gb/s (R301). -/
def Dev.egressRate (d : Dev) (e : Nat) : Nat :=
  if e < 16 then d.portRateStart e
  else nth [16, 8, 4] (d.getStart R.HOST_LINK_STATUS_WIDTH (e - 16)) 4 *
    nth [640, 320, 160, 80, 50, 25] (d.getStart R.HOST_LINK_STATUS_SPEED (e - 16)) 25

/-- The forwarding choice made at admission: cut-through or not, and whether its rates alone forbid cut-through (R301,
R303). -/
def Dev.ctChoice (d : Dev) (f : Frame) (e c : Nat) : Bool × Bool :=
  let want := d.getStart R.BASIN_Q_CFG_CT_EN 0 (8 * e + c) != 0 && decide (f.ingress < 16) && decide (e < 18)
  let fast := decide (d.egressRate e ≤ d.portRateStart f.ingress)
  (want && fast, want && !fast)

/-- Step 9: the window is written back and the frame linked at the tail of its leaf and of its egress class. -/
def Dev.link9 (d : Dev) (f : Frame) (p : Pkt) (t : Ticket) (e : Nat) (extra : Option Nat)
    (policed : Option (Nat × Bool × Bool)) : Dev :=
  let c := t.get T.CLASS
  let leaf := t.get T.LEAF
  let q := 8 * e + c
  let ct := d.ctChoice f e c
  let idle := (d.leafQueue leaf).isEmpty
  let g := { f.writeBack (t.get T.WIN_LEN) p.win extra with
    stage := .queued, tk := t, egress := e, cls := c, leaf := leaf, admitted := d.dial.notch, ct := ct.1, order := d.units.admits
    policed := if f.complete then none else policed }
  let d1 : Dev := { d with
    basin := { d.basin with frames := d.basin.frames.filter (fun x => x.head != f.head) ++ [g] }
    units := { d.units with admits := d.units.admits + 1 } }
  let d2 := (d1.setOcc q (d1.get R.BASIN_Q_AGE_OCC 0 q + g.cells.length)).count R.ECSTAT_ADMITTED 1 q
  let d3 := if ct.2 && t.flag T.PARTIAL then d2.count R.BASIN_CT_FALLBACK 1 else d2
  let d4 := if f.complete then d3.policeRemainder { g with policed := policed } else d3
  let d5 := if idle then d4.stampLeaf leaf else d4
  d5.flowCheck g.ingress g.cls0

/-! ### Admission (R294, R295) -/

/-- Steps 7 to 9 for a policed ticket; `pick` is the row of the bank looked at first for the cell of a grown window. -/
def Dev.admitTail (d : Dev) (f : Frame) (p : Pkt) (t : Ticket) (e pick : Nat)
    (policed : Option (Nat × Bool × Bool)) : Dev :=
  let grow := decide (256 < p.win.length)
  let r := d.limits e (t.get T.CLASS) (t.get T.LEAF) (t.get T.COLOUR) (f.cells.length + bit grow)
  match r.1 with
  | none =>
    let d1 := (d.count R.ECSTAT_TAIL_DROP 1 (8 * e + t.get T.CLASS)).admitDrop t f R.BASIN_TAIL_DROP
    if r.2 then d1.raiseBit R.BASIN_EVENTS 0 else d1
  | some d1 =>
    if grow then
      let room := decide (d1.get R.BASIN_ING_HELD_CELLS 0 f.ingress < d1.get R.BASIN_ING_CFG_MAX 0 f.ingress)
      match (if room then d1.cellAfter ((f.cells.getLast?.elim f.head Prod.fst) % 32) pick else none) with
      | none => d1.admitDrop t f R.BASIN_NOCELL_ADMIT
      | some c => (d1.chargeCell f.ingress).link9 f p t e (some c) policed
    else d1.link9 f p t e none policed

/-- Step 6 and what follows for a ticket whose destination is good. -/
def Dev.admitPolice (d : Dev) (f : Frame) (p : Pkt) (t : Ticket) (e pick : Nat) : Dev :=
  if t.flag T.POL_VALID then
    let len := if t.flag T.PARTIAL then t.get T.WIN_LEN else t.get T.LEN
    let b : Int := ((len : Int) + t.delta) * 8000
    let pol := t.get T.POLICER
    let r := d.police pol (t.get T.COLOUR) b
    if r.2.2.2 then
      (r.1.count R.INST_ADMIT_DROP 1 (t.get T.INSTANCE)).discard f.head
    else
      r.1.admitTail f p (t.put T.COLOUR r.2.1) e pick
        (if t.flag T.PARTIAL then some (pol, r.2.2.1.1, r.2.2.1.2) else none)
  else d.admitTail f p t e pick none

/-- The checks of R295 for one ticket and its frame. -/
def Dev.admitTicket (d : Dev) (f : Frame) (p : Pkt) (pick : Nat) : Dev :=
  let t := p.tk
  let type := t.get T.DEST_TYPE
  match d.idleOwner t with
  | some i => ((d.count R.BASIN_INST_DROP 1).count R.INST_STATE_DROP 1 i).discard f.head
  | none =>
    if !d.instAccepts t f then
      ((d.count R.BASIN_INST_DROP 1).count R.INST_STATE_DROP 1 (t.get T.INSTANCE)).discard f.head
    else if ((type = 3 ∨ type = 4) ∧ t.get T.RECIRC = 3) ∨ d.absentUnit t then d.admitDrop t f R.BASIN_RECIRC_DROP
    else if type = 5 then d.admitDrop t f R.BASIN_PROG_DROP
    else if type = 0 ∨ 6 ≤ type then d.admitDrop t f R.BASIN_UNRESOLVED_DROP
    else
      match d.destOf t with
      | .bad => d.admitDrop t f R.BASIN_BAD_DEST
      | .portDown q =>
        ((d.count R.PORT_TX_DOWN_DROP 1 q).count R.INST_ADMIT_DROP 1 (t.get T.INSTANCE)).discard f.head
      | .egress e =>
        match d.leafClass (t.get T.LEAF) with
        | none => d.admitDrop t f R.BASIN_BAD_DEST
        | some k =>
          if k / 8 ≠ e then d.admitDrop t f R.BASIN_BAD_DEST
          else if k % 8 = t.get T.CLASS then d.admitPolice f p t e pick
          else (d.count R.SCHED_CLASS_MISMATCH 1).admitPolice f p (t.put T.CLASS (k % 8)) e pick

/-- ADMISSION (R294, R295): the oldest ticket that the Defile released in an earlier Notch is admitted or dropped, at most
512 in a Notch. A ticket whose cells were freed when its Glen was declared dead leaves nothing to take in (R165). One met by a
FABRIC error on its way from the Defile is lost (15 R494, R510); its SEQ has been passed. -/
def execAdmission (hop : Hop) (s : State) : Host.Outcome State Fault Refusal :=
  s.live (fun d =>
    match d.defile.released.find? (fun x => decide (x.1 < d.dial.notch)) with
    | none => d
    | some x =>
      if 512 ≤ d.basin.served then d
      else
        let d1 : Dev := { d with
          defile := { d.defile with released := d.defile.released.erase x }
          basin := { d.basin with served := d.basin.served + 1 } }
        match d1.frame? (x.2.tk.get T.HEAD_CELL) with
        | none => d1
        | some f => if hop.fabric then d1.loseFabric x.2 else d1.admitTicket f x.2 hop.num)

/-! ### Ageing (R305 to R307) -/

/-- Expired frames at the head of a leaf dropped, at most `fuel`. -/
def Dev.ageLeaf (d : Dev) (l : Nat) : Nat → Dev
  | 0 => d
  | fuel + 1 =>
    match d.leafHead l with
    | none => d
    | some f =>
      if d.expired f then
        let d1 := ((d.count R.BASIN_AGED 1).count R.ECSTAT_AGED 1 (8 * f.egress + f.cls)).raiseBit R.BASIN_EVENTS 2
        ((d1.leave f none).stampLeaf l).ageLeaf l fuel
      else d

/-- AGE_DROP (R306): the expired frames at the head of a leaf that the scheduler examined in this Notch are dropped. -/
def execAgeDrop (leaf : Nat) (s : State) : Host.Outcome State Fault Refusal :=
  s.live (fun d => if d.basin.examined.contains leaf then d.ageLeaf leaf (d.leafQueue leaf).length else d)

/-- BASIN_AGE_SWEEP (R307): the sweep visits its next 64 leaves. -/
def execBasinAgeSweep (s : State) : Host.Outcome State Fault Refusal :=
  s.live (fun d =>
    let from_ := d.basin.sweep
    let busy := (d.basin.frames.filter (fun f => f.stage == .queued)).map Frame.leaf
    let ls := ((List.range 64).map (fun k => (from_ + k) % 131072)).filter busy.contains
    let d1 := d.each ls (fun d l => d.ageLeaf l 4)
    { d1 with basin := { d1.basin with sweep := (from_ + 64) % 131072 } })

/-! ### Retired banks (R309; 15 R509) -/

/-- Whether retirement of a bank may start: enough cells remain beyond every guarantee (15 R509). -/
def Dev.mayRetire (d : Dev) (b : Nat) : Bool :=
  d.bankInService b &&
    decide (d.get R.BASIN_GMIN_SUM_CELLS + 32768 + 12288 ≤ d.get R.BASIN_CELLS_TOTAL_TOTAL)

/-- Cells of a bank that are not free. -/
def Dev.usedInBank (d : Dev) (b : Nat) : Nat := (d.usedCells.filter (fun c => c % 32 == b)).length

/-- Retirement of a bank starts (R309). -/
def Dev.startRetire (d : Dev) (b : Nat) : Dev :=
  let free := 12288 - d.usedInBank b
  let d1 := (d.put R.BASIN_CELLS_TOTAL_TOTAL (d.get R.BASIN_CELLS_TOTAL_TOTAL - 12288)).put R.BASIN_CELLS_TOTAL_BANKS_OUT
    (d.get R.BASIN_CELLS_TOTAL_BANKS_OUT ||| 2 ^ b)
  (((d1.less R.BASIN_CELL_FREE_FREE free).checkLow.put R.BANK_W0_STATE 1 b).raiseBit R.HEALTH_EVENTS 3).setEffLimit

/-- Banks retired or retiring. -/
def Dev.banksOut (d : Dev) : Nat := ((List.range 32).filter (fun b => !d.bankInService b)).length

/-- An automatic retirement of a bank, where one may start. -/
def Dev.autoRetire (d : Dev) (b : Nat) : Dev :=
  if decide (d.banksOut < d.get R.HEALTH_BASIN_HCFG_AUTO_MAX) && d.mayRetire b then d.startRetire b else d

/-- A corrected error of a bank: its retirement starts when its errors reach CORR_LIMIT (15 R509). -/
def Dev.bankCorrected (d : Dev) (b : Nat) : Dev :=
  let d1 := d.countCorrected R.BANK_W0_CORR b
  if d1.get R.HEALTH_BASIN_HCFG_CORR_LIMIT ≤ d1.get R.BANK_W0_CORR b then d1.autoRetire b else d1

/-- BANK_RETIRED (R309; 15 R513): the last cell of a retiring bank has been freed. -/
def execBankRetired (bank : Nat) (s : State) : Host.Outcome State Fault Refusal :=
  s.act (fun d =>
    if d.get R.BANK_W0_STATE bank = 1 ∧ d.usedInBank bank = 0 then
      ((d.put R.BANK_W0_STATE 2 bank).raiseBit R.BASIN_EVENTS 4).setReason 5
    else d)

end Sys2Proof.Machine
end

