-- ==== Sys2Proof/Machine/Issue.lean ====
section
/-! DEFINITION. How a thread issues an instruction: readiness, fetch, encoding and profile checks, faults, and the operand
forms (spec/05_aqgil.md R173 to R180; 04 R135, R145, R146; 14 R473). -/

namespace Sys2Proof.Machine

/-! ### The instruction word (R179) -/

/-- An instruction word. -/
def insWord (opc : Nat) (rd ra rb mod cnt imm : Nat := 0) : Word :=
  BitVec.ofNat 64 (opc + rd % 32 * 2 ^ 8 + ra % 32 * 2 ^ 13 + rb % 32 * 2 ^ 18 + mod % 16 * 2 ^ 23 + cnt % 32 * 2 ^ 27 +
    imm % 2 ^ 32 * 2 ^ 32)

/-- The 32-bit immediate sign-extended to 64 bits. -/
def immS (imm : Nat) : Word := (BitVec.ofNat 32 imm).signExtend 64

/-- Bytes of the access size that MOD encodes (R180). -/
def accessSize (mod : Nat) : Nat := 2 ^ mod

/-! ### The fields an opcode uses (R179, R181 to R205) -/

/-- The bits of RD, RA, RB, MOD, CNT and IMM in an instruction word. -/
def mRd : Nat := 0x1F * 2 ^ 8
def mRa : Nat := 0x1F * 2 ^ 13
def mRb : Nat := 0x1F * 2 ^ 18
def mMod : Nat := 0xF * 2 ^ 23
def mCnt : Nat := 0x1F * 2 ^ 27
def mImm : Nat := 0xFFFFFFFF * 2 ^ 32

/-- The fields that an opcode uses, as bits of its word; none for an opcode that the instruction set does not have. -/
def usedBits (opc : Nat) : Option Nat :=
  if [0x01, 0x71, 0x7D, 0x90, 0xC2, 0xC3, 0xC6].contains opc then some 0
  else if within 0x10 0x1D opc || opc == 0x83 then some (mRd + mRa + mRb)
  else if within 0x20 0x26 opc || [0x29, 0x2A, 0x52, 0x54, 0x7A].contains opc then some (mRd + mRa + mImm)
  else if [0x27, 0x28, 0x32, 0x60, 0x62, 0xC0].contains opc then some (mRd + mImm)
  else if [0x30, 0x41, 0xC5].contains opc then some (mRa + mRb + mMod + mImm)
  else if [0x31, 0x7C, 0x9F].contains opc then some mImm
  else if opc = 0x33 then some mRa
  else if [0x40, 0x50, 0xC4].contains opc then some (mRd + mRa + mMod + mImm)
  else if opc = 0x51 then some (mRd + mRa + mRb + mMod + mImm)
  else if [0x42, 0x53, 0x55].contains opc then some (mRd + mRa + mRb + mImm)
  else if [0x61, 0x78, 0x79, 0xC1].contains opc then some (mRa + mImm)
  else if opc = 0x63 then some mRd
  else if opc = 0x70 then some (mRb + mImm)
  else if opc = 0x72 ∨ opc = 0x73 then some (mRd + mCnt + mImm)
  else if opc = 0x80 ∨ opc = 0x84 then some (mRd + mRa + mCnt + mImm)
  else if opc = 0x81 then some (mRd + mRa + mMod)
  else if opc = 0x82 then some (mRd + mRa)
  else none

/-- A word has an opcode of the instruction set and no bit in a field that its opcode does not use; AMOADD has MOD = 3
(R179, R186). -/
def formed (w : Word) : Bool :=
  match usedBits (w.field 0 8) with
  | none => false
  | some m =>
    let rest := w &&& ~~~(BitVec.ofNat 64 (255 + m))
    rest == (if w.field 0 8 = 0x42 then BitVec.ofNat 64 (3 * 2 ^ 23) else 0)

/-- The registers an instruction reads: RA and RB where its opcode uses them, RD where the opcode keeps part of it, and the
further words of a key (R181, R200). -/
def readRegs (w : Word) : List Nat :=
  let opc := w.field 0 8
  let m := (usedBits opc).getD 0
  let ra := w.field 13 5
  (if opc = 0x28 ∨ opc = 0x2A then [w.field 8 5] else []) ++
    (if opc = 0x80 ∨ opc = 0x84 then (List.range (w.field 27 5)).map (fun k => ra + k)
      else if opc = 0x81 ∧ w.field 23 4 = 1 then [ra, ra + 1]
      else if m / 2 ^ 13 % 2 = 1 then [ra] else []) ++
    (if m / 2 ^ 18 % 2 = 1 then [w.field 18 5] else [])

/-- The scratch or local-memory address that an instruction reads (R186, R190). -/
def Thread.readAddr (t : Thread) (w : Word) : Option Nat :=
  let opc := w.field 0 8
  if opc = 0x40 ∨ opc = 0x42 then some (t.reg (w.field 13 5) + immS (w.field 32 32)).toNat
  else if opc = 0x53 ∨ opc = 0x55 then some (t.reg (w.field 18 5)).toNat
  else none

/-- The DETAIL of an error in a register or in a memory that the instruction reads; none where it reads none of them (R204). -/
def Thread.eccRegister (_t : Thread) (w : Word) (e : Option EccSite) : Option Nat :=
  match e with
  | some (.registers rs) => ((readRegs w).filter (fun r => r != 0 && rs.contains r)).min?
  | _ => none
def Thread.eccMemory (t : Thread) (w : Word) (e : Option EccSite) : Option Nat :=
  match e with
  | some .memory => t.readAddr w
  | _ => none

/-- Fault codes of R145. -/
def fIllegal : Nat := 0x01
def fProfile : Nat := 0x02
def fPcRange : Nat := 0x03
def fScratch : Nat := 0x04
def fAlign : Nat := 0x05
def fWindow : Nat := 0x06
def fEcc : Nat := 0x07
def fLockMisuse : Nat := 0x08
def fLockLimit : Nat := 0x09
def fChan : Nat := 0x0A
def fEmitHolding : Nat := 0x0B
def fEmitService : Nat := 0x0C
def fTrap : Nat := 0x0D

/-- An opcode of the packet profile only (14 R473), and one of the control profile only (R174). -/
def packetOnly (opc : Nat) : Bool :=
  within 0x50 0x55 opc || within 0x60 0x63 opc || within 0x70 0x73 opc || within 0x78 0x7A opc || within 0x80 0x84 opc ||
    opc == 0x90
def controlOnly (opc : Nat) : Bool := within 0xC0 0xDF opc

/-- An opcode that a SERVICE thread may not use: TLD, TST, TLDQ and the window opcodes (R196). -/
def ticketOnly (opc : Nat) : Bool := within 0x50 0x55 opc || within 0x60 0x62 opc

/-! ### Issue -/

/-- A thread may issue as soon as its last result is available: not OFF, idle, blocked, stopped or halted, its core running,
and no breakpoint before it (04 R135, R155; 14 R471). A control core that holds a presentation acknowledges it first (14
R483). -/
def Dev.mayIssue (d : Dev) (id : ThreadId) : Bool :=
  let t := d.thread id
  decide (t.st = .ready) && !t.halted &&
    match id with
    | .glen g c _ => d.flows && d.coreRuns g c && (t.passed || !d.breakAt g c t.pc)
    | .ctrl c => decide (c < 16) && (c == 0 || d.coresStarted) && !(d.ctrl c).stopped && !(d.ctrl c).halted && !(d.ctrl c).wfi &&
        (d.ctrl c).outst.isNone

/-- Cycles of a physical Glen in a Notch: 2.0 GHz × GLEN_CLK ÷ 16 for 64 ns (19 R622). -/
def Dev.glenCycles (d : Dev) : Nat := 8 * d.getStart R.HEALTH_STATUS_GLEN_CLK

/-- Cycle `c` of the running Notch, of `n` cycles, as `pace` counts: in later Notches where it lies past this one's end. -/
def Dev.paceAt (d : Dev) (n c : Nat) : Nat := if c < n then 128 * d.dial.notch + c else 128 * (d.dial.notch + 1) + (c - n)

/-- From when the result of a thread's last instruction is available (04 R135). -/
def Dev.available (d : Dev) (id : ThreadId) : Nat := (assoc d.glens.pace id).getD 0

/-- The first cycle of the Notch in which a core has not yet issued. -/
def Dev.nextCycle (d : Dev) (g c : Nat) : Nat := (assoc d.glens.cycles (g, c)).getD 0

/-- The thread that a core's issue table names in cycle `s` of the Notch: the table of the Glen's slot at the start of the
Notch, its pointer moved on by one slot a cycle (04 R134, R136). -/
def Dev.issueSlot (d : Dev) (g c s : Nat) : Nat :=
  d.getStart R.GSLOT_CORE_CFG_ISSUE (d.get R.GPHYS_STATUS_SLOT g) c / 8 ^ ((d.glens.pointer + s) % 16) % 8

/-- The cycle of the Notch in which a core next issues, and the thread whose turn it is: the first cycle in which a thread
that the table names is ready, and from that cycle's slot on, in table order and wrapping, the first thread that is
(04 R129, R134; 19 R622; DEDUCED, notes/assumptions/29). -/
def Dev.turn (d : Dev) (g c : Nat) : Option (Nat × Nat) :=
  let can := (List.range 8).filter (fun t => d.mayIssue (.glen g c t) && (List.range 16).any (fun s => d.issueSlot g c s == t))
  let ready := fun (n t : Nat) => can.contains t && decide (d.available (.glen g c t) ≤ 128 * d.dial.notch + n)
  match (can.map (fun t => d.available (.glen g c t) - 128 * d.dial.notch)).min? with
  | none => none
  | some first =>
    let n := max first (d.nextCycle g c)
    if d.glenCycles ≤ n then none
    else (((List.range 16).map (fun s => d.issueSlot g c (n + s))).find? (ready n)).map (fun t => (n, t))

/-- The cycle of the Notch in which a control core next issues; from 128 on it issues no more in the Notch (14 R471). -/
def Dev.ctrlCycle (d : Dev) (c : Nat) : Nat := d.available (.ctrl c) - 128 * d.dial.notch

/-- A thread issues next on its core (04 R134, R135; 14 R471). -/
def Dev.ready (d : Dev) (id : ThreadId) : Bool :=
  d.mayIssue id && match id with
    | .glen g c t => (d.turn g c).any (fun x => x.2 == t)
    | .ctrl c => decide (d.ctrlCycle c < 128)

/-- Cycles after which the result of an opcode is available, but for what a taken branch adds (R177). -/
def latency (opc : Nat) : Nat :=
  if opc = 0x18 then 3 else if opc = 0x1B ∨ within 0x50 0x55 opc ∨ opc = 0x73 ∨ opc = 0x7A then 2 else 1

/-- A thread's turn used by an instruction whose result takes `n` cycles. -/
def Dev.spendCycle (d : Dev) (id : ThreadId) (n : Nat) : Dev :=
  match id with
  | .glen g c _ =>
    match d.turn g c with
    | some x => { d with glens := { d.glens with
        cycles := assocSet d.glens.cycles (g, c) (x.1 + 1)
        pace := assocSet d.glens.pace id (d.paceAt d.glenCycles (x.1 + n)) } }
    | none => d
  | .ctrl c => { d with glens := { d.glens with pace := assocSet d.glens.pace id (d.paceAt 128 (d.ctrlCycle c + n)) } }

/-- The length of the code a thread fetches from (R178; 14 R473). -/
def Dev.codeLen (d : Dev) (id : ThreadId) : Nat :=
  match id with
  | .glen g _ _ => (d.glen g).code.length
  | .ctrl _ => 0x80000

/-- The thread's core stops, or its control core takes an exception, for a fault at `pc` (04 R146; 14 R474). -/
def Dev.faultAt (d : Dev) (id : ThreadId) (pc code detail : Nat) : Dev :=
  match id with
  | .glen g c t => d.stopCore g c t code pc detail
  | .ctrl c => (d.spendCycle id 1).exception c code pc

/-- The word a Glen's thread fetches at its PC from its program store. Of a control core none: the spec gives no layout of a
firmware image, so what its local memory holds is what the row says it issues (DESIGN CHOICE, notes/assumptions/131). -/
def Dev.fetched (d : Dev) (id : ThreadId) : Option Word :=
  match id with
  | .glen g _ _ => some (BitVec.ofNat 64 (leNat (((d.glen g).code.drop (d.thread id).pc).take 8)))
  | .ctrl _ => none

/-- What an instruction comes to: the device after it, or a fault with its code and DETAIL. -/
abbrev Effect := Sum Dev (Nat × Nat)

/-- The encoding and profile faults of an instruction word for a thread, if it has one; `ok` says that the fields the
opcode uses are in their ranges. -/
def Dev.encodingFault (d : Dev) (id : ThreadId) (w : Word) (ok : Bool) : Option Nat :=
  let opc := w.field 0 8
  match id with
  | .glen g c t =>
    if controlOnly opc then some fProfile
    else if !ok || (ticketOnly opc && d.mode g c t == 2) then some fIllegal
    else none
  | .ctrl _ =>
    if packetOnly opc then some fProfile else if !ok then some fIllegal else none

/-- A thread issues an instruction: nothing when it is not ready, or when the word in its program store is another
instruction; a fault of its fetch, of an undefined encoding there, of a memory error met, of its encoding or its own ends it
without effect; otherwise its PC moves on and `f` is its effect. A taken branch keeps the thread from issuing for `extra` more
cycles (R177 to R179). -/
def Dev.issue (d : Dev) (at_ : Issue) (w : Word) (ok : Bool) (f : Dev → ThreadId → Thread → Effect) (extra : Nat := 0) : Dev :=
  let id := at_.thread
  if !d.ready id then d
  else
    let t := d.thread id
    if t.pc % 8 ≠ 0 ∨ d.codeLen id ≤ t.pc then d.faultAt id t.pc fPcRange t.pc
    else if at_.ecc = some .program then d.faultAt id t.pc fEcc t.pc
    else
      let x := (d.fetched id).getD w
      if x ≠ w then (if formed x then d else d.faultAt id t.pc fIllegal x.toNat)
      else
        match d.encodingFault id w ok with
        | some code => d.faultAt id t.pc code w.toNat
        | none =>
          match t.eccRegister w at_.ecc with
          | some a => d.faultAt id t.pc fEcc a
          | none =>
            let t' : Thread := { t with pc := t.pc + 8, passed := false, stepping := false, stepped := t.stepping }
            match f ((d.spendCycle id (latency (w.field 0 8) + extra)).setThread id t') id t', t.eccMemory w at_.ecc with
            | .inr x, _ => d.faultAt id t.pc x.1 x.2
            | .inl _, some a => d.faultAt id t.pc fEcc a
            | .inl d1, none => d1.modThread id (fun t => match t.st with | .ready | .idle => t.finish | _ => t)

/-- An instruction whose whole effect is on its own thread. -/
def Dev.issueThread (d : Dev) (at_ : Issue) (w : Word) (ok : Bool) (f : Thread → Thread) (extra : Nat := 0) : Dev :=
  d.issue at_ w ok (fun d id t => .inl (d.setThread id (f t))) extra

/-- An instruction that writes one register from the registers. -/
def Dev.alu (d : Dev) (at_ : Issue) (w : Word) (ok : Bool) (rd : Nat) (f : Thread → Word) : Dev :=
  d.issueThread at_ w ok (fun t => t.setReg rd (f t))

/-- A class R instruction. -/
def Dev.aluR (d : Dev) (at_ : Issue) (opc rd ra rb : Nat) (f : Word → Word → Word) : Dev :=
  d.alu at_ (insWord opc rd ra rb) true rd (fun t => f (t.reg ra) (t.reg rb))

/-- A class I instruction whose immediate `ok` accepts. -/
def Dev.aluI (d : Dev) (at_ : Issue) (opc rd ra imm : Nat) (ok : Bool) (f : Word → Word) : Dev :=
  d.alu at_ (insWord opc rd ra 0 0 0 imm) ok rd (fun t => f (t.reg ra))

/-! ### Blocking -/

/-- A thread blocks until a reply that writes registers, and perhaps the flow hash (R177). -/
def Thread.await (t : Thread) (scratch : Bool) (l : List (Nat × Word)) (hash : Option Nat := none) : Thread :=
  { t with st := .blkReply, scratchReply := scratch, reply := l, replyHash := hash }

/-- A reply reaches a thread in BLK_REPLY: its registers and its ticket's FLOW_HASH are written. -/
def Thread.replied (t : Thread) : Thread :=
  let p := match t.replyHash, t.pkt with
    | some h, some p => some { p with tk := p.tk.put T.FLOW_HASH h }
    | _, p => p
  ({ (t.setRegs t.reply) with pkt := p, reply := [], replyHash := none }).wake

/-- A reply of one kind reaches a thread; to a stopped core's thread it is discarded (R202). -/
def Dev.reply (d : Dev) (id : ThreadId) (scratch : Bool) : Dev :=
  let t := d.thread id
  if t.st = .blkReply && t.scratchReply == scratch then d.setThread id t.replied else d

/-- SCRATCH_REPLY (R177). -/
def execScratchReply (thread : ThreadId) (s : State) : Host.Outcome State Fault Refusal :=
  s.live (fun d => d.reply thread true)

/-- A thread's lookup is still with the table engine: an MLEARN not yet served or whose insertion has not ended, or an FLOOK
that waits for HBM. -/
def Dev.engineHolds (d : Dev) (thread : ThreadId) : Bool :=
  (d.tables.learns ++ d.tables.asked).any (fun j => j.who.any (fun w => w.1 == thread)) ||
    d.tables.waiting.any (fun x => x.who == some thread)

/-- TABLE_REPLY (R177, R201, R202): the reply to a lookup comes when the engine has served it. -/
def execTableReply (thread : ThreadId) (s : State) : Host.Outcome State Fault Refusal :=
  s.live (fun d => if d.engineHolds thread then d else d.reply thread false)

end Sys2Proof.Machine
end

