-- ==== Sys2Proof/Machine/Aqgil.lean ====
section
/-! DEFINITION. The meanings of the Aqgil instructions: arithmetic, logic, branches, memory, window, ticket, channels,
locks, events, EMIT and TRAP (spec/05_aqgil.md R181 to R203). -/

namespace Sys2Proof.Machine

/-! ### Arithmetic, logic and bit fields (R181 to R183) -/

/-- NOP. -/
def execNop (at_ : Issue) (s : State) : Host.Outcome State Fault Refusal :=
  s.act (fun d => d.issueThread at_ (insWord 0x01) true id)
/-- ADD. -/
def execAdd (at_ : Issue) (rd ra rb : Nat) (s : State) : Host.Outcome State Fault Refusal :=
  s.act (fun d => d.aluR at_ 0x10 rd ra rb (fun a b => a + b))
/-- SUB. -/
def execSub (at_ : Issue) (rd ra rb : Nat) (s : State) : Host.Outcome State Fault Refusal :=
  s.act (fun d => d.aluR at_ 0x11 rd ra rb (fun a b => a - b))
/-- AND. -/
def execAnd (at_ : Issue) (rd ra rb : Nat) (s : State) : Host.Outcome State Fault Refusal :=
  s.act (fun d => d.aluR at_ 0x12 rd ra rb (fun a b => a &&& b))
/-- OR. -/
def execOr (at_ : Issue) (rd ra rb : Nat) (s : State) : Host.Outcome State Fault Refusal :=
  s.act (fun d => d.aluR at_ 0x13 rd ra rb (fun a b => a ||| b))
/-- XOR. -/
def execXor (at_ : Issue) (rd ra rb : Nat) (s : State) : Host.Outcome State Fault Refusal :=
  s.act (fun d => d.aluR at_ 0x14 rd ra rb (fun a b => a ^^^ b))
/-- SHL: by rb[5:0]. -/
def execShl (at_ : Issue) (rd ra rb : Nat) (s : State) : Host.Outcome State Fault Refusal :=
  s.act (fun d => d.aluR at_ 0x15 rd ra rb (fun a b => a <<< (b.toNat % 64)))
/-- SHR: by rb[5:0], zero-filled. -/
def execShr (at_ : Issue) (rd ra rb : Nat) (s : State) : Host.Outcome State Fault Refusal :=
  s.act (fun d => d.aluR at_ 0x16 rd ra rb (fun a b => a >>> (b.toNat % 64)))
/-- SAR: by rb[5:0], sign-filled. -/
def execSar (at_ : Issue) (rd ra rb : Nat) (s : State) : Host.Outcome State Fault Refusal :=
  s.act (fun d => d.aluR at_ 0x17 rd ra rb (fun a b => a.sshiftRight (b.toNat % 64)))
/-- MUL: the low 64 bits. -/
def execMul (at_ : Issue) (rd ra rb : Nat) (s : State) : Host.Outcome State Fault Refusal :=
  s.act (fun d => d.aluR at_ 0x18 rd ra rb (fun a b => a * b))
/-- SLTU. -/
def execSltu (at_ : Issue) (rd ra rb : Nat) (s : State) : Host.Outcome State Fault Refusal :=
  s.act (fun d => d.aluR at_ 0x19 rd ra rb (fun a b => if a.ult b then 1 else 0))
/-- SLT. -/
def execSlt (at_ : Issue) (rd ra rb : Nat) (s : State) : Host.Outcome State Fault Refusal :=
  s.act (fun d => d.aluR at_ 0x1A rd ra rb (fun a b => if a.slt b then 1 else 0))
/-- CRC32C (R183). -/
def execCrc32c (at_ : Issue) (rd ra rb : Nat) (s : State) : Host.Outcome State Fault Refusal :=
  s.act (fun d => d.aluR at_ 0x1B rd ra rb (fun a b =>
    BitVec.ofNat 64 ((crc32cStep (a.toNat % 2 ^ 32 ^^^ 0xFFFFFFFF) (leBytes 8 b.toNat)) ^^^ 0xFFFFFFFF)))
/-- MINU. -/
def execMinu (at_ : Issue) (rd ra rb : Nat) (s : State) : Host.Outcome State Fault Refusal :=
  s.act (fun d => d.aluR at_ 0x1C rd ra rb (fun a b => if b.ult a then b else a))
/-- MAXU. -/
def execMaxu (at_ : Issue) (rd ra rb : Nat) (s : State) : Host.Outcome State Fault Refusal :=
  s.act (fun d => d.aluR at_ 0x1D rd ra rb (fun a b => if a.ult b then b else a))
/-- ADDI. -/
def execAddi (at_ : Issue) (rd ra imm : Nat) (s : State) : Host.Outcome State Fault Refusal :=
  s.act (fun d => d.aluI at_ 0x20 rd ra imm true (fun a => a + immS imm))
/-- ANDI. -/
def execAndi (at_ : Issue) (rd ra imm : Nat) (s : State) : Host.Outcome State Fault Refusal :=
  s.act (fun d => d.aluI at_ 0x21 rd ra imm true (fun a => a &&& immS imm))
/-- ORI. -/
def execOri (at_ : Issue) (rd ra imm : Nat) (s : State) : Host.Outcome State Fault Refusal :=
  s.act (fun d => d.aluI at_ 0x22 rd ra imm true (fun a => a ||| immS imm))
/-- XORI. -/
def execXori (at_ : Issue) (rd ra imm : Nat) (s : State) : Host.Outcome State Fault Refusal :=
  s.act (fun d => d.aluI at_ 0x23 rd ra imm true (fun a => a ^^^ immS imm))

/-- The immediate as its 32 bits. -/
def immU (imm : Nat) : Nat := imm % 2 ^ 32

/-- SHLI: by 0 to 63; more is an undefined encoding (R182). -/
def execShli (at_ : Issue) (rd ra imm : Nat) (s : State) : Host.Outcome State Fault Refusal :=
  s.act (fun d => d.aluI at_ 0x24 rd ra imm (decide (immU imm < 64)) (fun a => a <<< immU imm))
/-- SHRI. -/
def execShri (at_ : Issue) (rd ra imm : Nat) (s : State) : Host.Outcome State Fault Refusal :=
  s.act (fun d => d.aluI at_ 0x25 rd ra imm (decide (immU imm < 64)) (fun a => a >>> immU imm))
/-- SARI. -/
def execSari (at_ : Issue) (rd ra imm : Nat) (s : State) : Host.Outcome State Fault Refusal :=
  s.act (fun d => d.aluI at_ 0x26 rd ra imm (decide (immU imm < 64)) (fun a => a.sshiftRight (immU imm)))
/-- MOVI. -/
def execMovi (at_ : Issue) (rd imm : Nat) (s : State) : Host.Outcome State Fault Refusal :=
  s.act (fun d => d.aluI at_ 0x27 rd 0 imm true (fun _ => immS imm))
/-- MOVHI: the high half replaced, the low half unchanged. -/
def execMovhi (at_ : Issue) (rd imm : Nat) (s : State) : Host.Outcome State Fault Refusal :=
  s.act (fun d => d.alu at_ (insWord 0x28 rd 0 0 0 0 imm) true rd (fun t => (t.reg rd).withField 32 32 (immU imm)))

/-- Position and length of a bit field in the immediate, and whether the immediate is a defined one (R182). -/
def fieldPos (imm : Nat) : Nat := imm % 64
def fieldLen (imm : Nat) : Nat := imm / 256 % 128
def fieldOkImm (imm : Nat) : Bool :=
  immU imm == fieldPos imm + 256 * fieldLen imm && within 1 64 (fieldLen imm) && decide (fieldPos imm + fieldLen imm ≤ 64)

/-- EXT. -/
def execExt (at_ : Issue) (rd ra imm : Nat) (s : State) : Host.Outcome State Fault Refusal :=
  s.act (fun d => d.aluI at_ 0x29 rd ra imm (fieldOkImm imm)
    (fun a => BitVec.ofNat 64 (a.field (fieldPos imm) (fieldLen imm))))
/-- INS. -/
def execIns (at_ : Issue) (rd ra imm : Nat) (s : State) : Host.Outcome State Fault Refusal :=
  s.act (fun d => d.alu at_ (insWord 0x2A rd ra 0 0 0 imm) (fieldOkImm imm) rd
    (fun t => (t.reg rd).withField (fieldPos imm) (fieldLen imm) (t.reg ra).toNat))

/-! ### Branches (R184, R185) -/

/-- The target of a branch at the instruction before `t`'s PC: `imm` instructions from the branch itself. -/
def Thread.target (t : Thread) (imm : Nat) : Nat := (BitVec.ofNat 64 (t.pc - 8) + immS imm * 8).toNat

/-- The condition of BCC (R185). -/
def bccHolds (mod : Nat) (a b : Word) : Bool :=
  match mod with
  | 0 => a == b
  | 1 => a != b
  | 2 => a.ult b
  | 3 => !a.ult b
  | 4 => a.slt b
  | _ => !a.slt b

/-- BCC. -/
def execBcc (at_ : Issue) (ra rb mod imm : Nat) (s : State) : Host.Outcome State Fault Refusal :=
  s.act (fun d => d.issueThread at_ (insWord 0x30 0 ra rb mod 0 imm) (decide (mod % 16 < 6)) (fun t =>
    if bccHolds (mod % 16) (t.reg ra) (t.reg rb) then { t with pc := t.target imm } else t)
    (if bccHolds (mod % 16) ((d.thread at_.thread).reg ra) ((d.thread at_.thread).reg rb) then 2 else 0))
/-- JMP. -/
def execJmp (at_ : Issue) (imm : Nat) (s : State) : Host.Outcome State Fault Refusal :=
  s.act (fun d => d.issueThread at_ (insWord 0x31 0 0 0 0 0 imm) true (fun t => { t with pc := t.target imm }) 2)
/-- CALL: rd receives the address after the branch. -/
def execCall (at_ : Issue) (rd imm : Nat) (s : State) : Host.Outcome State Fault Refusal :=
  s.act (fun d => d.issueThread at_ (insWord 0x32 rd 0 0 0 0 imm) true (fun t =>
    { (t.setReg rd (BitVec.ofNat 64 t.pc)) with pc := t.target imm }) 2)
/-- JR. -/
def execJr (at_ : Issue) (ra : Nat) (s : State) : Host.Outcome State Fault Refusal :=
  s.act (fun d => d.issueThread at_ (insWord 0x33 0 ra) true (fun t => { t with pc := (t.reg ra).toNat }) 2)

/-! ### Scratch and local memory (R186 to R188, R205) -/

/-- The place in the byte memory of offset 0 of a thread's data memory. -/
def dataBase : ThreadId → Nat
  | .glen g _ _ => scratchBase g
  | .ctrl c => localBase c

/-- The address of a memory access, and the fault of a range or an alignment, range first (R187). -/
def Thread.addr (t : Thread) (ra imm : Nat) : Nat := (t.reg ra + immS imm).toNat
def memFault (a n : Nat) : Option (Nat × Nat) :=
  if 524288 < a + n then some (fScratch, a) else if a % n ≠ 0 then some (fAlign, a) else none

/-- A value read by a thread reaches its register: a Glen's thread waits for the scratch reply. -/
def Dev.loaded (d : Dev) (id : ThreadId) (t : Thread) (rd : Nat) (v : Word) : Dev :=
  match id with
  | .glen _ _ _ => d.setThread id (t.await true [(rd, v)])
  | .ctrl _ => d.setThread id (t.setReg rd v)

/-- LD. -/
def execLd (at_ : Issue) (rd ra mod imm : Nat) (s : State) : Host.Outcome State Fault Refusal :=
  s.act (fun d => d.issue at_ (insWord 0x40 rd ra 0 mod 0 imm) (decide (mod % 16 < 4)) (fun d id t =>
    let a := t.addr ra imm
    let n := accessSize (mod % 16)
    match memFault a n with
    | some x => .inr x
    | none => .inl (d.loaded id t rd (BitVec.ofNat 64 (leNat (d.mem.bytes (dataBase id + a) n))))))
/-- ST. -/
def execSt (at_ : Issue) (ra rb mod imm : Nat) (s : State) : Host.Outcome State Fault Refusal :=
  s.act (fun d => d.issue at_ (insWord 0x41 0 ra rb mod 0 imm) (decide (mod % 16 < 4)) (fun d id t =>
    let a := t.addr ra imm
    let n := accessSize (mod % 16)
    match memFault a n with
    | some x => .inr x
    | none => .inl (d.writeMem (dataBase id + a) (leBytes n (t.reg rb).toNat))))
/-- AMOADD: rd receives the old 8-byte value, and memory the sum. -/
def execAmoadd (at_ : Issue) (rd ra rb imm : Nat) (s : State) : Host.Outcome State Fault Refusal :=
  s.act (fun d => d.issue at_ (insWord 0x42 rd ra rb 3 0 imm) true (fun d id t =>
    let a := t.addr ra imm
    match memFault a 8 with
    | some x => .inr x
    | none =>
      let old : Word := BitVec.ofNat 64 (leNat (d.mem.bytes (dataBase id + a) 8))
      .inl ((d.writeMem (dataBase id + a) (leBytes 8 (old + t.reg rb).toNat)).loaded id t rd old)))

/-! ### The header window (R190 to R193; 06 R214, R218) -/

/-- Offset of a window opcode other than WLD and WST, and its length n. -/
def Thread.winOffset (t : Thread) (ra imm : Nat) : Nat := (t.reg ra + BitVec.ofNat 64 (imm % 65536)).toNat
def winCount (imm : Nat) : Nat := immU imm / 65536

/-- The DETAIL of a WINDOW_RANGE stop (R204). -/
def winDetail (o n : Nat) : Nat := o % 65536 + n * 65536

/-- The ticket's window, with bytes at and beyond its length reading 0. -/
def winBytes (w : List Byte) (o n : Nat) : List Byte := (List.range n).map (fun j => nth w (o + j) 0)

/-- The window with bytes written at an offset, those beyond its length discarded (R192). -/
def winWrite (w : List Byte) (o : Nat) (bs : List Byte) : List Byte :=
  w.zipIdx.map (fun x => if o ≤ x.2 ∧ x.2 < o + bs.length then nth bs (x.2 - o) 0 else x.1)

/-- Whether the frame continues beyond its window, and the offset D of R218. -/
def Ticket.continues (t : Ticket) : Bool := decide (t.get T.WIN_LEN < t.get T.LEN) || t.flag T.PARTIAL
def winD (w : List Byte) : Nat := min w.length 256 - 1

/-- An edit performed: counted on the ticket with its pushed and popped bytes, the new window kept, and 0 written to rd
(R193). -/
def Thread.edited (t : Thread) (p : Pkt) (rd push pop : Nat) (w : List Byte) : Thread :=
  let tk := p.tk
  let tk1 := ((tk.put T.EDITS (tk.get T.EDITS + 1)).put T.PUSH_BYTES (tk.get T.PUSH_BYTES + push)).put T.POP_BYTES
    (tk.get T.POP_BYTES + pop)
  let tk2 := tk1.put T.WIN_DELTA (unsigned 9 (tk.delta + push - pop))
  ({ t with pkt := some { tk := tk2, win := w } }).setReg rd 0

/-- An edit refused: ERR and rd receive the code (06 R214). -/
def Thread.refused (t : Thread) (p : Pkt) (rd code : Nat) : Thread :=
  ({ t with pkt := some { p with tk := p.tk.put T.ERR code } }).setReg rd (BitVec.ofNat 64 code)

/-- The limits of R214 in order: the edit count, the bytes pushed or popped, and the end of the window. -/
def editCode (p : Pkt) (push pop : Nat) (pastEnd : Bool) : Nat :=
  if 8 ≤ p.tk.get T.EDITS then 0x01
  else if push ≠ 0 ∧ 96 < p.tk.get T.PUSH_BYTES + push then 0x02
  else if pop ≠ 0 ∧ 128 < p.tk.get T.POP_BYTES + pop then 0x03
  else if pastEnd then (if push ≠ 0 then 0x04 else 0x05)
  else 0

/-- An edit judged and performed. -/
def Thread.edit (t : Thread) (p : Pkt) (rd push pop : Nat) (pastEnd : Bool) (w : List Byte) : Thread :=
  let c := editCode p push pop pastEnd
  if c = 0 then t.edited p rd push pop w else t.refused p rd c

/-- An instruction on the window of the thread's ticket. -/
def Dev.winIssue (d : Dev) (at_ : Issue) (w : Word) (ok : Bool) (f : Dev → ThreadId → Thread → Pkt → Effect) : Dev :=
  d.issue at_ w ok (fun d id t => match t.pkt with | some p => f d id t p | none => .inl d)

/-- WLD. -/
def execWld (at_ : Issue) (rd ra mod imm : Nat) (s : State) : Host.Outcome State Fault Refusal :=
  s.act (fun d => d.winIssue at_ (insWord 0x50 rd ra 0 mod 0 imm) (decide (mod % 16 < 4)) (fun d id t p =>
    let o := t.addr ra imm
    let n := accessSize (mod % 16)
    if 256 < o + n then .inr (fWindow, winDetail o n)
    else
      let deep := p.tk.continues && decide (winD p.win < o + n)
      let p1 : Pkt := if deep then { p with tk := p.tk.put T.DEEP 1 } else p
      .inl (d.setThread id (({ t with pkt := some p1 }).setReg rd (BitVec.ofNat 64 (beNat (winBytes p.win o n)))))))
/-- WST. -/
def execWst (at_ : Issue) (rd ra rb mod imm : Nat) (s : State) : Host.Outcome State Fault Refusal :=
  s.act (fun d => d.winIssue at_ (insWord 0x51 rd ra rb mod 0 imm) (decide (mod % 16 < 4)) (fun d id t p =>
    let o := t.addr ra imm
    let n := accessSize (mod % 16)
    if 256 < o + n then .inr (fWindow, winDetail o n)
    else .inl (d.setThread id (t.edit p rd 0 0 false (winWrite p.win o (beBytes n (t.reg rb).toNat))))))
/-- WPUSH. -/
def execWpush (at_ : Issue) (rd ra imm : Nat) (s : State) : Host.Outcome State Fault Refusal :=
  s.act (fun d =>
    let n := winCount imm
    d.winIssue at_ (insWord 0x52 rd ra 0 0 0 imm) (within 1 96 n) (fun d id t p =>
      let o := t.winOffset ra imm
      if 255 < o then .inr (fWindow, winDetail o n)
      else .inl (d.setThread id (t.edit p rd n 0 (decide (p.win.length < o))
        (p.win.take o ++ List.replicate n 0 ++ p.win.drop o)))))
/-- WPUSHS: the inserted bytes come from scratch. -/
def execWpushs (at_ : Issue) (rd ra rb imm : Nat) (s : State) : Host.Outcome State Fault Refusal :=
  s.act (fun d =>
    let n := winCount imm
    d.winIssue at_ (insWord 0x53 rd ra rb 0 0 imm) (within 1 96 n) (fun d id t p =>
      let o := t.winOffset ra imm
      let a := (t.reg rb).toNat
      if 255 < o then .inr (fWindow, winDetail o n)
      else if 524288 < a + n then .inr (fScratch, a)
      else .inl (d.setThread id (t.edit p rd n 0 (decide (p.win.length < o))
        (p.win.take o ++ d.mem.bytes (dataBase id + a) n ++ p.win.drop o)))))
/-- WPOP. -/
def execWpop (at_ : Issue) (rd ra imm : Nat) (s : State) : Host.Outcome State Fault Refusal :=
  s.act (fun d =>
    let n := winCount imm
    d.winIssue at_ (insWord 0x54 rd ra 0 0 0 imm) (within 1 128 n) (fun d id t p =>
      let o := t.winOffset ra imm
      if 256 < o + n then .inr (fWindow, winDetail o n)
      else .inl (d.setThread id (t.edit p rd 0 n (decide (p.win.length < o + n)) (p.win.take o ++ p.win.drop (o + n))))))
/-- WCPY. -/
def execWcpy (at_ : Issue) (rd ra rb imm : Nat) (s : State) : Host.Outcome State Fault Refusal :=
  s.act (fun d =>
    let n := winCount imm
    d.winIssue at_ (insWord 0x55 rd ra rb 0 0 imm) (within 1 128 n) (fun d id t p =>
      let o := t.winOffset ra imm
      let a := (t.reg rb).toNat
      if 256 < o + n then .inr (fWindow, winDetail o n)
      else if 524288 < a + n then .inr (fScratch, a)
      else .inl (d.setThread id (t.edit p rd 0 0 false (winWrite p.win o (d.mem.bytes (dataBase id + a) n))))))

/-! ### The ticket (R194 to R196) -/

/-- The field of a selector. -/
def selector (imm : Nat) : Option TF := ticketFields[immU imm]?

/-- TLD: WIN_DELTA sign-extended. -/
def execTld (at_ : Issue) (rd imm : Nat) (s : State) : Host.Outcome State Fault Refusal :=
  s.act (fun d => d.winIssue at_ (insWord 0x60 rd 0 0 0 0 imm) (selector imm).isSome (fun d id t p =>
    let v : Word := match selector imm with
      | some f => if f = T.WIN_DELTA then BitVec.ofInt 64 p.tk.delta else BitVec.ofNat 64 (p.tk.get f)
      | none => 0
    .inl (d.setThread id (t.setReg rd v))))
/-- TST: a read-only selector is an undefined encoding; INSTANCE of ingress 16 and 17 is left alone (02 R70). -/
def execTst (at_ : Issue) (ra imm : Nat) (s : State) : Host.Outcome State Fault Refusal :=
  s.act (fun d => d.winIssue at_ (insWord 0x61 0 ra 0 0 0 imm) ((selector imm).any TF.prog) (fun d id t p =>
    match selector imm with
    | some f =>
      if p.tk.programMay f then .inl (d.setThread id { t with pkt := some { p with tk := p.tk.put f (t.reg ra).toNat } })
      else .inl d
    | none => .inl d))
/-- TLDQ. -/
def execTldq (at_ : Issue) (rd imm : Nat) (s : State) : Host.Outcome State Fault Refusal :=
  s.act (fun d => d.winIssue at_ (insWord 0x62 rd 0 0 0 0 imm) (decide (immU imm < 8)) (fun d id t p =>
    .inl (d.setThread id (t.setReg rd (p.tk.quad (immU imm))))))

/-- The thread status word (R196). -/
def Dev.statusWord (d : Dev) (id : ThreadId) (t : Thread) : Word :=
  BitVec.ofNat 64 (bit t.lockBroken + t.events * 2 + (d.locksHeld id).length * 2 ^ 4 + id.coreNo * 2 ^ 8 +
    id.threadNo * 2 ^ 13 + d.get R.GPHYS_STATUS_SLOT id.glenNo * 2 ^ 16 + id.glenNo * 2 ^ 24 +
    d.dial.notch % 2 ^ 32 * 2 ^ 32)

/-- STAT: the lock-broken condition is cleared. -/
def execStat (at_ : Issue) (rd : Nat) (s : State) : Host.Outcome State Fault Refusal :=
  s.act (fun d => d.issue at_ (insWord 0x63 rd) true (fun d id t =>
    .inl (d.setThread id (({ t with lockBroken := false }).setReg rd (d.statusWord id t)))))

/-! ### Channels (R198, R199; 04 R138 to R141) -/

/-- A channel number of an instruction is defined. -/
def chanOk (imm : Nat) : Bool := decide (immU imm < 64)

/-- The DETAIL of a CHAN_MISUSE stop (R204). -/
def chanDetail (c : Nat) (stage : Option (Nat × List Word)) : Nat :=
  c + (stage.elim 0 Prod.fst) * 2 ^ 8 + (if stage.isNone then 2 ^ 16 else 0)

/-- CHWR. -/
def execChwr (at_ : Issue) (rb imm : Nat) (s : State) : Host.Outcome State Fault Refusal :=
  s.act (fun d => d.issue at_ (insWord 0x70 0 0 rb 0 0 imm) (chanOk imm) (fun d id t =>
    let c := immU imm
    let k := (id.glenNo, c)
    match t.stage with
    | some (c', ws) =>
      if c' ≠ c ∨ 16 ≤ ws.length then .inr (fChan, chanDetail c t.stage)
      else .inl (d.setThread id { t with stage := some (c, ws ++ [t.reg rb]) })
    | none =>
      let ch := d.chan k
      if ch.writer.isSome then
        .inl ((d.setChan k { ch with writers := ch.writers ++ [id] }).setThread id
          { t with st := .blkChwr, waitObj := c, waitWord := t.reg rb })
      else .inl ((d.setChan k { ch with writer := some id }).setThread id { t with stage := some (c, [t.reg rb]) })))
/-- CHCOMMIT. -/
def execChcommit (at_ : Issue) (s : State) : Host.Outcome State Fault Refusal :=
  s.act (fun d => d.issue at_ (insWord 0x71) true (fun d id t =>
    match t.stage with
    | none => .inr (fChan, chanDetail 0 none)
    | some (c, ws) =>
      let k := (id.glenNo, c)
      if (d.chan k).fits ws.length then .inl (d.commit k id ws)
      else .inl (d.setThread id { t with st := .blkChfull, waitObj := c })))

/-- CHRD and CHTRY have a defined encoding (R199). -/
def chrdOk (rd cnt imm : Nat) : Bool := chanOk imm && within 1 16 (cnt % 32) && decide (rd % 32 + cnt % 32 ≤ 31)

/-- The oldest message of a channel given to a thread, room then serving a commit that waits (04 R140, R141). -/
def Dev.takeMsg (d : Dev) (k : Nat × Nat) (id : ThreadId) (rd n : Nat) (m : List Word) (rest : List (List Word)) : Dev :=
  ((d.setChan k { d.chan k with msgs := rest }).modThread id (fun t => t.receive rd n m)).retryCommit k

/-- CHRD. -/
def execChrd (at_ : Issue) (rd cnt imm : Nat) (s : State) : Host.Outcome State Fault Refusal :=
  s.act (fun d => d.issue at_ (insWord 0x72 rd 0 0 0 cnt imm) (chrdOk rd cnt imm) (fun d id t =>
    let k := (id.glenNo, immU imm)
    match (d.chan k).msgs with
    | m :: rest => .inl (d.takeMsg k id (rd % 32) (cnt % 32) m rest)
    | [] => .inl ((d.setChan k { d.chan k with readers := (d.chan k).readers ++ [id] }).setThread id
        { t with st := .blkChrd, waitObj := immU imm, waitRd := rd % 32, waitK := cnt % 32 })))
/-- CHTRY: an empty channel gives 0 at once. -/
def execChtry (at_ : Issue) (rd cnt imm : Nat) (s : State) : Host.Outcome State Fault Refusal :=
  s.act (fun d => d.issue at_ (insWord 0x73 rd 0 0 0 cnt imm) (chrdOk rd cnt imm) (fun d id t =>
    let k := (id.glenNo, immU imm)
    match (d.chan k).msgs with
    | m :: rest => .inl (d.takeMsg k id (rd % 32) (cnt % 32) m rest)
    | [] => .inl (d.setThread id (t.setReg rd 0))))

/-! ### Locks (04 R142, R143) -/

/-- The lock number of an instruction. -/
def Thread.lockNo (t : Thread) (ra imm : Nat) : Nat := (t.reg ra + immS imm).toNat

/-- The fault of acquiring a lock: a number that names none, a lock already held, or a ninth. -/
def Dev.acquireFault (d : Dev) (id : ThreadId) (n : Nat) : Option (Nat × Nat) :=
  if 5119 < n then some (fLockMisuse, n)
  else if (d.lock (lockKey id.glenNo n)).holder = some id then some (fLockMisuse, n)
  else if 8 ≤ (d.locksHeld id).length then some (fLockLimit, n)
  else none

/-- LKACQ. -/
def execLkacq (at_ : Issue) (ra imm : Nat) (s : State) : Host.Outcome State Fault Refusal :=
  s.act (fun d => d.issue at_ (insWord 0x78 0 ra 0 0 0 imm) true (fun d id t =>
    let n := t.lockNo ra imm
    let k := lockKey id.glenNo n
    match d.acquireFault id n with
    | some x => .inr x
    | none =>
      if (d.lock k).holder.isNone then .inl (d.grantLock k id)
      else .inl ((d.putLock k { d.lock k with waiters := (d.lock k).waiters ++ [id] }).setThread id
        { t with st := .blkLock, waitObj := n })))
/-- LKREL. -/
def execLkrel (at_ : Issue) (ra imm : Nat) (s : State) : Host.Outcome State Fault Refusal :=
  s.act (fun d => d.issue at_ (insWord 0x79 0 ra 0 0 0 imm) true (fun d id t =>
    let n := t.lockNo ra imm
    let k := lockKey id.glenNo n
    if 5119 < n ∨ (d.lock k).holder ≠ some id then .inr (fLockMisuse, n) else .inl (d.passLock k)))
/-- LKTRY. -/
def execLktry (at_ : Issue) (rd ra imm : Nat) (s : State) : Host.Outcome State Fault Refusal :=
  s.act (fun d => d.issue at_ (insWord 0x7A rd ra 0 0 0 imm) true (fun d id t =>
    let n := t.lockNo ra imm
    let k := lockKey id.glenNo n
    match d.acquireFault id n with
    | some x => .inr x
    | none =>
      if (d.lock k).holder.isNone then .inl ((d.grantLock k id).modThread id (fun t => t.setReg rd 1))
      else .inl (d.setThread id (t.setReg rd 0))))

/-! ### Thread events (04 R144; 14 R472) -/

/-- A post to a thread: one that waits takes it and goes on, else its count rises to at most 7. -/
def Dev.post (d : Dev) (id : ThreadId) : Dev :=
  d.modThread id (fun t =>
    match t.st with
    | .blkEvwait => t.wake
    | _ => { t with events := min 7 (t.events + 1) })

/-- EVPOST. -/
def execEvpost (at_ : Issue) (imm : Nat) (s : State) : Host.Outcome State Fault Refusal :=
  s.act (fun d => d.issue at_ (insWord 0x7C 0 0 0 0 0 imm) (decide (immU imm < 256)) (fun d id _ =>
    match id with
    | .glen g c _ =>
      .inl (d.each ((List.range 8).filter (fun t => immU imm == 0 || (immU imm).testBit t))
        (fun d t => d.post (.glen g c t)))
    | .ctrl _ => .inl (d.post id)))
/-- EVWAIT. -/
def execEvwait (at_ : Issue) (s : State) : Host.Outcome State Fault Refusal :=
  s.act (fun d => d.issue at_ (insWord 0x7D) true (fun d id t =>
    if t.events = 0 then .inl (d.setThread id { t with st := .blkEvwait })
    else .inl (d.setThread id { t with events := t.events - 1 })))

/-! ### EMIT and TRAP (R203; 04 R132) -/

/-- EMIT. -/
def execEmit (at_ : Issue) (s : State) : Host.Outcome State Fault Refusal :=
  s.act (fun d => d.issue at_ (insWord 0x90) true (fun d id t =>
    let locks := (d.locksHeld id).length
    match t.pkt with
    | none => .inr (fEmitService, 0)
    | some p =>
      if locks ≠ 0 ∨ t.stage.isSome then .inr (fEmitHolding, locks + 16 * bit t.stage.isSome)
      else .inl ((d.setThread id { t with st := .idle, pkt := none }).sendOut id.glenNo p)))
/-- TRAP. -/
def execTrap (at_ : Issue) (imm : Nat) (s : State) : Host.Outcome State Fault Refusal :=
  s.act (fun d => d.issue at_ (insWord 0x9F 0 0 0 0 0 imm) true (fun _ _ _ => .inr (fTrap, (immS imm).toNat)))

end Sys2Proof.Machine
end

