-- ==== Sys2Proof/Machine/Egress.lean ====
section
/-! DEFINITION. Egresses: requests, starts and completions of frames on ports, host rings and the crypto and storage units
(spec/09_scheduling.md R319 to R326, R343 to R345; 03 R110, R111, R113; 10 R375 to R380; 08 R287, R303; 15 R510). -/

namespace Sys2Proof.Machine

/-! ### Starts -/

/-- A frame offered to an egress no longer is. -/
def Dev.clearOffer (d : Dev) (e : Nat) : Dev := { d with sched := { d.sched with offers := assocDel d.sched.offers e } }

/-- The offer of a frame that heads its leaf, with F of its node and leaf as they stand (09 R326). -/
def Dev.offerOf (d : Dev) (f : Frame) : Offer :=
  ⟨f.head, (d.leafNode f.leaf).elim 0 (fun n => d.get R.NODE_F n), d.get R.LEAF_F f.leaf⟩

/-- A frame offered to an egress. -/
def Dev.offer (d : Dev) (e : Nat) (f : Frame) : Dev :=
  { d with sched := { d.sched with offers := assocSet d.sched.offers e (d.offerOf f) } }

/-- A frame that starts: stamps, virtual times and tokens change, and the next head of its leaf is stamped (09 R326). -/
def Dev.beginFrame (d : Dev) (f : Frame) : Dev :=
  match d.leafNode f.leaf with
  | none => d
  | some n =>
    let d1 := (d.clearOffer f.egress).chargeStart f n (((assoc d.sched.offers f.egress).filter (fun o => o.head == f.head)).getD (d.offerOf f))
    let d2 := d1.modFrame f.head (fun g => { g with
      stage := .egress, started := true, debited := (d.flag R.LEAF_W0_SH_EN f.leaf, d.flag R.NODE_W0_SH_EN n)
      charged := if g.charged = 0 then g.bytes.length else g.charged })
    d2.stampLeaf f.leaf

/-! ### Memory errors met while a frame is read (15 R494, R509, R510) -/

/-- An uncorrectable error found in a bank: counted, and the bank retires where it may. -/
def Dev.bankError (d : Dev) (cell : Nat) : Dev :=
  (d.count R.BANK_W0_UNCORR 1 (cell % 32)).autoRetire (cell % 32)

/-- A frame taken out of the Basin with `keep` of its cells freed and the rest leaked. -/
def Dev.dropLeaking (d : Dev) (f : Frame) (keep : Nat) : Dev :=
  let bad := (f.cells.drop keep).map Prod.fst
  let d1 := ((if f.stage = .queued ∨ f.stage = .egress then d.leaveClass f else d).noteTx f none).rxGone f.head
  ({ d1 with basin := { d1.basin with
      frames := d1.basin.frames.filter (fun x => x.head != f.head)
      freeing := d1.basin.freeing ++ [{ f with cells := f.cells.take keep }]
      leaked := d1.basin.leaked ++ bad } }).count R.HEALTH_CELLS_LEAKED bad.length

/-- A frame as its read leaves it: as it was after corrected errors, marked errored by an error in its data; or the device without it, by an error in a
record. An error in the frame record of a frame that has not started loses the frames behind it on its leaf. -/
def Dev.readFrame (d : Dev) (f : Frame) (x : CellFault) : Dev × Option Frame :=
  let cell := fun (n : Nat) => (nth f.cells (n % max 1 f.cells.length) (f.head, 0)).1
  match x with
  | .none => (d, some f)
  | .corrected ns => (d.each ns (fun d n => d.bankCorrected (cell n % 32)), some f)
  | .data n =>
    let d1 := ((d.error pgBASIN 11 0 (cell n)).bankError (cell n)).modFrame f.head (fun g => { g with errored := true })
    (d1, some { f with errored := true })
  | .cell n =>
    let k := n % max 1 f.cells.length
    (((d.error pgBASIN 12 0 (cell n)).bankError (cell n)).dropLeaking f k, none)
  | .frame =>
    let behind := if f.started then [] else ((d.leafQueue f.leaf).dropWhile (fun g => g.head != f.head)).tail
    let d1 := ((d.error pgBASIN 12 0 f.head).bankError f.head).dropLeaking f f.cells.length
    (d1.each behind (fun d g => d.dropLeaking g 0), none)

/-- A read of a frame, after which the head of its leaf is stamped where the read has made another frame the head (09 R324). -/
def Dev.readFault (d : Dev) (f : Frame) (x : CellFault) : Dev × Option Frame :=
  let old := (d.leafHead f.leaf).map Frame.head
  let r := d.readFrame f x
  (if r.2.isNone && f.stage == .queued then r.1.restampFrom f.leaf old else r.1, r.2)

/-! ### Requests (09 R319 to R322) -/

/-- The offer of one class of a port: the chosen frame, where gate and Col let it start; a hold by the Col is counted once
a Notch (R343, R344). -/
def Dev.classOffer (d : Dev) (port c : Nat) : Dev × Option Frame :=
  let g := 8 * port + c
  let r := d.select g
  match r.2.bind (fun x => r.1.leafHead x.2) with
  | none => (r.1, none)
  | some f =>
    if !r.1.flag R.GATE_W0_OPEN_NOW g then (r.1, none)
    else if r.1.colAllows port c (r.1.chargeLen port f.bytes.length) then (r.1, some f)
    else if r.1.sched.colHeld.contains g then (r.1, none)
    else
      let d1 := (r.1.count R.GATE_COL_HOLDS 1 g).count R.SCHED_COL_HOLDS 1
      ({ d1 with sched := { d1.sched with colHeld := d1.sched.colHeld ++ [g] } }, none)

/-- A request of a port: one selection for each class that is not paused; the highest class with an offer is taken. -/
def Dev.portRequest (d : Dev) (p : Nat) : Dev :=
  let r := (List.range 8).foldl (fun (x : Dev × Option Frame) c =>
    if x.1.paused p c then x
    else
      let y := x.1.classOffer p c
      (y.1, y.2.orElse (fun _ => x.2))) (d, none)
  match r.2 with
  | none => r.1.clearOffer p
  | some f => r.1.offer p f

/-- The highest class of an egress whose selection returns a leaf, looking at classes below `n`. -/
def Dev.unitChoose (d : Dev) (e : Nat) : Nat → Dev × Option Frame
  | 0 => (d, none)
  | c + 1 =>
    let r := d.select (8 * e + c)
    match r.2.bind (fun x => r.1.leafHead x.2) with
    | some f => (r.1, some f)
    | none => Dev.unitChoose r.1 e c

/-- A frame given to a host egress: dropped where its ring's owner is not RUNNING, held where the ring has no room for it,
and otherwise offered (10 R377, R378; 11 R395). -/
def Dev.giveHost (d : Dev) (e : Nat) (f : Frame) : Dev :=
  let r := f.tk.get T.DEST
  if !d.ownerRuns r then (d.dropState r f).stampLeaf f.leaf
  else if (d.ring r).hold.isEmpty && d.ringServes r && (d.writing r).isEmpty && d.rxFits r f then
    d.offer e f
  else if (d.ring r).hold.isEmpty && d.get R.RCTX_CFG_RX_WAIT r == 0 then (d.dropNobuf r f).stampLeaf f.leaf
  else
    (d.beginFrame f).modRing r (fun x => { x with
      hold := x.hold ++ [f.head], headFrom := if x.hold.isEmpty then d.dial.notch else x.headFrom })

/-- Frames of an egress that are being read out, those in ring holds aside. -/
def Dev.inService (d : Dev) (e : Nat) : List Frame :=
  d.basin.frames.filter (fun f => f.stage == .egress && f.egress == e &&
    !d.host.rings.any (fun x => x.2.hold.contains f.head))

/-- The frame an egress has been offered in this Notch, where it still heads its leaf and may start. -/
def Dev.offered (d : Dev) (e : Nat) : Option Frame :=
  ((assoc d.sched.offers e).bind (fun o => d.frame? o.head)).bind (fun f =>
    if f.stage = .queued ∧ f.egress = e ∧ (d.leafHead f.leaf).map Frame.head = some f.head ∧ d.mayStart f ∧ !d.expired f
    then some f else none)

/-- EGRESS_REQUEST (09 R319 to R322; 10 R377): an egress asks for a frame. A port asks at its frame boundaries, the others
when they can take a frame: while none is being read out for them. -/
def execEgressRequest (egress : Nat) (s : State) : Host.Outcome State Fault Refusal :=
  s.live (fun d =>
    if egress < 16 then
      (if d.portInService egress && d.get R.PORT_STATUS_LINK egress == 2 && (d.txFrame egress).isNone then
        d.portRequest egress
      else d)
    else if egress < 20 && d.egressPresent egress && (d.inService egress).isEmpty &&
        (d.offered egress).isNone && (18 ≤ egress || d.dmaOk (egress - 16)) then
      let r := d.unitChoose egress 8
      match r.2 with
      | none => r.1
      | some f =>
        if egress < 18 then r.1.giveHost egress f
        else r.1.offer egress f
    else d)

/-! ### Frames on the wire -/

/-- The transmit timestamp of a frame whose first bit crosses `sub` ns into the running Notch (03 R113). -/
def Dev.txStamp (d : Dev) (p sub : Nat) : Nat × Nat :=
  let t : Int := (timeNs d.now : Int) + (sub % 64 : Nat) + d.getInt R.PORT_TS_CFG_TX_DELAY_NS p
  (t.toNat / nsPerSec, t.toNat % nsPerSec)

/-- A frame ended on a port with an invalid FCS because its next bytes were not in the Basin (03 R111). -/
def Dev.underrun (d : Dev) (p : Nat) (f : Frame) : Dev :=
  (((d.count R.PORT_TX_UNDERRUN 1 p).count R.PORT_TX_ERR_END 1 p).emit (.frame p (portBytes f.bytes false) false)).leave f
    f.txTs

/-- What the crypto and the storage unit take in a Notch on a module of two stacks, that of one half: 3.2 Tb/s and 2.4 G frames/s, and
800 Gb/s and 0.6 G frames/s, frames as whole ones spread evenly over the Notches (12 R440; 13 R466; DESIGN CHOICE,
notes/assumptions/135). -/
def Dev.unitBytes (d : Dev) (e : Nat) : Nat := (if e = 18 then 12800 else 3200) * d.variant.stacks
def Dev.unitFrames (d : Dev) (e : Nat) : Nat :=
  let fifths := (if e = 18 then 384 else 96) * d.variant.stacks
  fifths * (d.dial.notch + 1) / 5 - fifths * d.dial.notch / 5

/-- A frame more starts on a unit in the running Notch. -/
def Dev.unitRoom (d : Dev) (e : Nat) : Bool :=
  let t := (assoc d.units.taken e).getD (0, 0)
  decide (t.1 < d.unitFrames e) && decide (t.2 < d.unitBytes e)

/-- A unit takes a frame. -/
def Dev.unitTakes (d : Dev) (e bytes : Nat) : Dev :=
  let t := (assoc d.units.taken e).getD (0, 0)
  { d with units := { d.units with taken := assocSet d.units.taken e (t.1 + 1, t.2 + bytes) } }

/-- The rates of the units in the next Notch: bytes past a Notch's share are of the next. -/
def Dev.tickUnits (d : Dev) : Dev :=
  { d with units := { d.units with
      fetched := 0
      taken := (d.units.taken.map (fun x => (x.1, (0, x.2.2 - d.unitBytes x.1)))).filter (fun x => x.2.2 != 0) } }

/-- FRAME_START (09 R326; 03 R111, R113; 08 R303; 10 R379; 11 R395): the frame an egress was offered starts. On a port `sub` is the
instant at which it crosses, in ns into the Notch, and `short` says that its next bytes were not there when the port needed
them; `fault` is what errors its read meets. -/
def execFrameStart (egress sub : Nat) (short : Bool) (fault : CellFault) (s : State) : Host.Outcome State Fault Refusal :=
  s.live (fun d =>
    match d.offered egress with
    | none => d
    | some f0 =>
      let ring := f0.tk.get T.DEST
      if egress < 16 && ((d.dueFlow egress).isSome || d.get R.PORT_STATUS_LINK egress != 2 ||
          (d.txFrame egress).isSome || d.paused egress f0.cls) then d
      else if within 16 17 egress && !d.ownerRuns ring then ((d.dropState ring f0).clearOffer egress).stampLeaf f0.leaf
      else if within 16 17 egress && !d.dmaOk (egress - 16) then d
      else if 18 ≤ egress && !d.unitRoom egress then d
      else
        let r := d.readFault f0 fault
        match r.2 with
        | none => r.1.clearOffer egress
        | some f =>
          let d1 := r.1.beginFrame f
          if egress < 16 then
            let g := { f with started := true, txTs := some (d1.txStamp egress sub) }
            let d2 := (if f.complete then d1 else d1.count R.BASIN_CT_STARTS 1).modFrame f.head (fun x => { x with
              txTs := g.txTs })
            if short && !f.complete then d2.underrun egress ((d2.frame? f.head).getD g) else d2
          else if egress < 18 then d1.startRx ring ((d1.frame? f.head).getD f)
          else d1.unitTakes egress f.bytes.length)

/-! ### Completions (08 R287; 11 R415) -/

/-- The last byte of a frame leaves on a port: a frame whose bytes are not all there is ended as an underrun, an errored
one with an invalid FCS (02 R67; 03 R111; 06 R211). -/
def Dev.portDone (d : Dev) (p : Nat) (f : Frame) : Dev :=
  if !f.complete then d.underrun p f
  else
    let out := portBytes f.bytes (!f.errored)
    let d1 := d.emit (.frame p out (!f.errored))
    let d2 := if f.errored then d1.count R.PORT_TX_ERR_END 1 p
      else (d1.count R.PORT_TX_FRAMES 1 p).count R.PORT_TX_OCTETS out.length p
    (d2.chargeDone f f.bytes.length).leave f f.txTs

/-- The write of a frame to its receive ring ends: cut short where the ring's buffers do not hold it (10 R375, R379). A write that
has started is completed while its owner quiesces; nothing is written for an owner in another state (11 R393, R395). -/
def Dev.ringDone (d : Dev) (f : Frame) : Dev :=
  let r := f.tk.get T.DEST
  if !(d.ringOwner r).any (fun i => d.instState i == stRunning || d.instState i == stQuiescing) then d.dropState r f
  else if d.rxExhausted r f then d.truncRx r f
  else if !f.complete then d
  else ((d.deliverRx r f (withFcs f.bytes (!f.errored)) false).chargeDone f f.bytes.length).leave f none

/-- The crypto or storage unit has read a whole frame: it holds it, and the Basin's cells are freed. -/
def Dev.unitDone (d : Dev) (e : Nat) (f : Frame) : Dev :=
  let u : UnitFrame := { tk := f.tk, bytes := f.bytes, errored := f.errored, origin := f.origin, tx := f.tx, order := f.order }
  let d1 := (d.leaveClass f).freeFrame f.head
  if e = 18 then { d1 with units := { d1.units with cryptoIn := d1.units.cryptoIn ++ [u] } }
  else { d1 with units := { d1.units with storeIn := d1.units.storeIn ++ [u] } }

/-- FRAME_COMPLETE (08 R287; 11 R415): an egress completes the frame numbered `index` among those it reads out: its last
byte leaves on a port, its ring write completes, or the crypto or storage unit has read it; `fault` is what errors its
read met. -/
def execFrameComplete (egress index : Nat) (fault : CellFault) (s : State) : Host.Outcome State Fault Refusal :=
  s.live (fun d =>
    let fs := d.inService egress
    match fs[index % max 1 fs.length]? with
    | none => d
    | some f0 =>
      let r := d.readFault f0 fault
      let d1 :=
        match r.2 with
        | none =>
          if egress < 16 then
            (r.1.count R.PORT_TX_ERR_END 1 egress).emit (.frame egress (portBytes f0.bytes false) false)
          else r.1
        | some f =>
          if egress < 16 then r.1.portDone egress f
          else if egress < 18 then (if r.1.dmaOk (egress - 16) then r.1.ringDone f else r.1)
          else r.1.unitDone egress f
      if egress < 16 && d1.ports.closing.contains egress && (d1.txFrame egress).isNone then d1.closePort egress else d1)

end Sys2Proof.Machine
end

