-- ==== Sys2Proof/Machine/Channels.lean ====
section
/-! DEFINITION. The channels of the Block Mover: their states, their ends, and the channels that carry state images and harvests
(spec/13_block_mover_storage.md R444, R448, R453, R454, R468). -/

namespace Sys2Proof.Machine

/-- States of a channel (R468). -/
def msIdle : Nat := 0
def msArmed : Nat := 1
def msActive : Nat := 2
def msWaiting : Nat := 3
def msPreempted : Nat := 4
def msDone : Nat := 5
def msError : Nat := 6
def msDisabled : Nat := 7

/-- Codes of a descriptor (R454). -/
def meOk : Nat := 0
def meBadDesc : Nat := 1
def meRange : Nat := 2
def meDma : Nat := 3
def meMem : Nat := 4
def meCrc : Nat := 5
def meAbsent : Nat := 6
def meDenied : Nat := 7

/-- A channel, and the device with it changed. -/
def Dev.chn (d : Dev) (n : Nat) : MoverCh := (assoc d.mover.chans n).getD { }
def Dev.modChn (d : Dev) (n : Nat) (g : MoverCh → MoverCh) : Dev :=
  { d with mover := { d.mover with chans := assocSet d.mover.chans n (g (d.chn n)) } }

/-- Its state. -/
def Dev.chState (d : Dev) (n : Nat) : Nat := d.get R.MOVERCH_STATUS_STATE 0 n
def Dev.setChState (d : Dev) (n st : Nat) : Dev := d.put R.MOVERCH_STATUS_STATE st 0 n

/-- A field of the CFG that a channel runs with: of the register, or of the word with which it was armed (R453). -/
def Dev.chCfg (d : Dev) (f : Fld) (n : Nat) : Nat := (((d.chn n).cfg.getD (d.word (fldKey f 0 n)))).field f.lo f.w

/-- The CFG of the start of the Notch, where a write has changed it since other than in DISABLE: START arms with it (R453). -/
def Dev.armCfg (d : Dev) (n : Nat) : Option Word :=
  let k := fldKey R.MOVERCH_CFG_PRIO 0 n
  if (d.word k) >>> 1 = (d.start.word k) >>> 1 then none else some (d.start.word k)

/-- A channel that no longer runs reads its register again. -/
def Dev.endCfg (d : Dev) (n : Nat) : Dev := if (d.chn n).cfg.isSome then d.modChn n (fun c => { c with cfg := none }) else d

/-- A channel that fails: ERROR, with its code (R454). -/
def Dev.chFails (d : Dev) (n code : Nat) : Dev :=
  (((((d.endCfg n).setChState n msError).put R.MOVERCH_STATUS_ERR_CODE code 0 n).raiseBit R.MOVER_ERR_MAP n).raiseBit
    R.MOVER_EVENTS 1).put R.MOVERCH_STATUS_PEND_REQ 0 0 n

/-- A channel reaches DONE: those chained to it are due (R448, R449). -/
def Dev.chDone (d : Dev) (n : Nat) : Dev :=
  let d1 := ((d.endCfg n).setChState n msDone).put R.MOVERCH_STATUS_PEND_REQ 0 0 n
  let due := (List.range 64).filter (fun m => d1.chCfg R.MOVERCH_CFG_TRIG m == 4 && d1.chCfg R.MOVERCH_CFG_TRIG_ARG m == n &&
    !d1.mover.chainDue.contains m)
  { d1 with mover := { d1.mover with chainDue := d1.mover.chainDue ++ due } }

/-! ### SAVE, RESTORE and HARVEST (R444) -/

/-- The channel that carries a command of an instance: 63 for SAVE and RESTORE, 62 for HARVEST. -/
def carrier (code : Nat) : Nat := if code = 10 then 62 else 63

/-- A command of an instance that channel `n` carries is in progress. -/
def Dev.carries (d : Dev) (n : Nat) : Bool :=
  d.cmds.any (fun x => x.1.sp == .INST && carrier (x.2.field R.INST_CMD_CODE.lo R.INST_CMD_CODE.w) == n &&
    [6, 7, 10].contains (x.2.field R.INST_CMD_CODE.lo R.INST_CMD_CODE.w))

/-- The channel takes up a command of an instance: ACTIVE, with no descriptor. -/
def Dev.carry (d : Dev) (code : Nat) : Dev :=
  let n := carrier code
  if d.flag R.MOVERCH_CFG_DISABLE 0 n then d
  else
    ((({ d with mover := { d.mover with chans := assocDel d.mover.chans n } }).put R.MOVERCH_STATUS_ERR_CODE 0 0 n).put
      R.MOVERCH_STATUS_PEND_REQ 0 0 n).setChState n msActive

/-- The channel has carried a command out: `end_` says how it ends where it carries no other. -/
def Dev.carried (d : Dev) (code : Nat) (end_ : Dev → Nat → Dev) : Dev :=
  let n := carrier code
  if d.carries n || d.chState n != msActive || (assoc d.mover.chans n).isSome then d else end_ d n

/-- It ends in IDLE, the command having been taken back or stopped. -/
def Dev.chIdle (d : Dev) (n : Nat) : Dev := d.setChState n msIdle

/-- It ends in ERROR with DMA_ERR. -/
def Dev.chLost (d : Dev) (n : Nat) : Dev := d.chFails n meDma

end Sys2Proof.Machine
end

