-- ==== Sys2Proof/Machine/Instances.lean ====
section
/-! DEFINITION. Instances: commands, quiesce, function-wide reset, FLR of a VF, freeze and the state image, and the harvest
of the dirty-page log (spec/11_instances.md R391 to R411). -/

namespace Sys2Proof.Machine

/-- Statuses of INST.CMD (R423). -/
def isDone : Nat := 0
def isBusy : Nat := 1
def isPending : Nat := 2
def isBadState : Nat := 3
def isNoRoom : Nat := 5
def isBadImage : Nat := 6
def isBadCrc : Nat := 7
def isStepOld : Nat := 8
def isCapLow : Nat := 9
def isShape : Nat := 10
def isDmaErr : Nat := 11
def isPreempted : Nat := 12
def isForced : Nat := 13
def isNoLog : Nat := 14

/-- The state of an instance changed; while it is not FREE the Ledger makes records for it (R417), and while it is FROZEN
they say so (R418). -/
def Dev.setInst (d : Dev) (i st : Nat) : Dev :=
  let d1 := d.put R.INST_STATE_STATE st i
  let seen := if st = stFree ∨ d1.ledger.seen.contains i then d1.ledger.seen else d1.ledger.seen ++ [i]
  let frozen := if st ≠ stFrozen ∨ d1.ledger.frozen.contains i then d1.ledger.frozen else d1.ledger.frozen ++ [i]
  { d1 with ledger := { d1.ledger with seen := seen, frozen := frozen } }

/-- The open interval's record of an instance is PARTIAL (R418). -/
def Dev.markPartial (d : Dev) (i : Nat) : Dev :=
  if d.ledger.partials.contains i then d else { d with ledger := { d.ledger with partials := d.ledger.partials ++ [i] } }

/-- Rings of an instance that differ from their state after reset. -/
def Dev.instRings (d : Dev) (i : Nat) : List Nat :=
  let base := 2 * d.get R.INST_RING_RANGE_QP_BASE i
  let n := 2 * d.get R.INST_RING_RANGE_QP_COUNT i
  ((d.host.rings.map Prod.fst ++ d.touched .RCTX).eraseDups).filter (fun r => decide (base ≤ r) && decide (r < base + n))

/-- An instance event is set (R423). -/
def Dev.instEvent (d : Dev) (i b : Nat) : Dev := d.raiseBit R.INST_EVENTS b i

/-- Words set to their values after reset. -/
def Dev.resetWords (d : Dev) (ks : List Key) : Dev := d.each ks (fun d k => d.putWord k (resetWord k))

/-- USE counters of an instance cleared (R396, R408). -/
def Dev.clearUse (d : Dev) (i : Nat) : Dev := d.resetWords ((List.range 19).map (fun w => ⟨.INST, i, 32 + w⟩))

/-- The counters of an instance's page and of its rings cleared. -/
def Dev.clearCounts (d : Dev) (i : Nat) : Dev :=
  let d1 := (d.put R.INST_DIRTY_STAT_OUT 0 i).resetWords
    (([19, 20, 21, 22, 23].map (fun w => ⟨.INST, i, w⟩)) ++ [⟨.INST, i, 132⟩])
  d1.resetWords ((d1.instRings i).flatMap (fun r => [140, 141, 142, 143, 144].map (fun w => ⟨.RCTX, r, w⟩)))

/-- What ACTIVATE and REMOVE clear: counters, events, error fields and INST.USE counters (R396). -/
def Dev.clearInst (d : Dev) (i : Nat) : Dev :=
  let d1 := ((d.clearCounts i).clearUse i).resetWords ([24, 133].map (fun w => ⟨.INST, i, w⟩))
  let d2 := d1.resetWords ([3, 4, 5, 6].map (fun w => ⟨.HDR, pgINST i, w⟩))
  { d2 with errs := { d2.errs with
      acked := d2.errs.acked ++ [pgINST i], now := d2.errs.now.filter (fun e => e.page != pgINST i) } }

/-! ### Commands (R396) -/

/-- The place of INST.CMD, its readback, and the end of its command in progress. -/
def instCmdKey (i : Nat) : Key := fldKey R.INST_CMD_CODE i 0
def Dev.instStatus (d : Dev) (i code st : Nat) : Dev := (d.put R.INST_CMD_CODE code i).put R.INST_CMD_STATUS st i
def Dev.instFinish (d : Dev) (i st : Nat) : Dev := d.cmdFinish R.INST_CMD_STATUS st i

/-- Code of the command in progress on an instance. -/
def Dev.instBusyWith (d : Dev) (i : Nat) : Option Nat :=
  (assoc d.cmds (instCmdKey i)).map (fun w => w.field R.INST_CMD_CODE.lo R.INST_CMD_CODE.w)

/-- An instance command written: refused with `refusal`'s status, or to act in the next Notch. -/
def Dev.instCommand (d : Dev) (path : Path) (i code : Nat) (refusal : Dev → Option Nat) : Dev :=
  if 4096 ≤ i then d
  else
    d.command path (pgINST i) 0x48 (instCmdKey i) (fun d => d.instStatus i code isBusy) (fun d =>
      if d.cmdBusy (instCmdKey i) then d.instStatus i code isBusy
      else if code ≠ 10 ∧ (d.inst i).flr.isSome then d.instStatus i code isBadState
      else
        match refusal d with
        | some st => d.instStatus i code st
        | none => ((d.instStatus i code isPending).cmdStart (instCmdKey i)).modInst i (fun x => { x with due := some code }))

/-- The refusal of a command that is allowed from some states only. -/
def fromStates (i : Nat) (l : List Nat) (d : Dev) : Option Nat :=
  if l.contains (d.instState i) then none else some isBadState

/-- The refusal of a command that instance 0 never takes. -/
def notZero (i : Nat) (r : Dev → Option Nat) (d : Dev) : Option Nat := if i = 0 then some isBadState else r d

/-- A host address of a state image is not a multiple of 64 (R423). -/
def Dev.imageOff (d : Dev) (i : Nat) : Bool := d.get R.INST_MIG_ADDR_ADDR i % 64 != 0

/-- The length of an instance's state image (R405). -/
def Dev.imageLen (d : Dev) (i : Nat) : Nat :=
  let q := d.get R.INST_RING_RANGE_QP_COUNT i
  let v := d.get R.INST_VEC_RANGE_VEC_COUNT i
  376 + 192 * q + 16 * v + 8 * ((v + 63) / 64)

/-- ACTIVATE. -/
def execActivate (path : Path) (inst : Nat) (s : State) : Host.Outcome State Fault Refusal :=
  s.act (fun d => d.instCommand path inst 1 (notZero inst (fromStates inst [stFree])))
/-- QUIESCE. -/
def execQuiesce (path : Path) (inst : Nat) (s : State) : Host.Outcome State Fault Refusal :=
  s.act (fun d => d.instCommand path inst 2 (fromStates inst [stRunning]))
/-- RESUME. -/
def execResume (path : Path) (inst : Nat) (s : State) : Host.Outcome State Fault Refusal :=
  s.act (fun d => d.instCommand path inst 3 (fromStates inst [stQuiesced]))
/-- FREEZE. -/
def execFreeze (path : Path) (inst : Nat) (s : State) : Host.Outcome State Fault Refusal :=
  s.act (fun d => d.instCommand path inst 4 (fromStates inst [stQuiesced]))
/-- THAW. -/
def execThaw (path : Path) (inst : Nat) (s : State) : Host.Outcome State Fault Refusal :=
  s.act (fun d => d.instCommand path inst 5 (fromStates inst [stFrozen]))
/-- SAVE (R406). -/
def execSave (path : Path) (inst : Nat) (s : State) : Host.Outcome State Fault Refusal :=
  s.act (fun d => d.instCommand path inst 6 (fun d =>
    if d.instState inst ≠ stFrozen then some isBadState
    else if d.imageOff inst then some isBadImage
    else if d.get R.INST_MIG_SIZE_BYTES inst < d.imageLen inst then some isNoRoom else none))
/-- RESTORE (R407). -/
def execRestore (path : Path) (inst : Nat) (s : State) : Host.Outcome State Fault Refusal :=
  s.act (fun d => d.instCommand path inst 7 (notZero inst (fun d =>
    if d.instState inst ≠ stFree then some isBadState else if d.imageOff inst then some isBadImage else none)))
/-- RESET (R400). -/
def execReset (path : Path) (inst : Nat) (s : State) : Host.Outcome State Fault Refusal :=
  s.act (fun d => d.instCommand path inst 8 (fromStates inst [stQuiesced, stFrozen]))
/-- REMOVE. -/
def execRemove (path : Path) (inst : Nat) (s : State) : Host.Outcome State Fault Refusal :=
  s.act (fun d => d.instCommand path inst 9 (notZero inst (fromStates inst [stQuiesced, stFrozen])))
/-- HARVEST (R411). -/
def execHarvest (path : Path) (inst : Nat) (s : State) : Host.Outcome State Fault Refusal :=
  s.act (fun d => d.instCommand path inst 10 (fun d => if d.flag R.INST_DIRTY_CFG_EN inst then none else some isNoLog))

/-! ### Quiesce (R397 to R399) -/

/-- A posted descriptor that is read and is LAST, or is FIRST. -/
def RingEntry.isLast (e : RingEntry) : Bool := e.desc.elim false descLast
def RingEntry.isFirst (e : RingEntry) : Bool := e.desc.elim false descFirst

/-- The open chain at the end of a ring's posted entries: from the first FIRST behind the last LAST (R397). -/
def openChain (es : List RingEntry) : Nat :=
  (((es.reverse.takeWhile (fun e => !e.isLast && !e.read)).reverse).dropWhile (fun e => !e.isFirst)).length

/-- The descriptors of the open chain of a transmit ring completed with ABORTED; while its port retrains their completions
wait (10 R389; 17 R578). -/
def Dev.abortOpen (d : Dev) (r : Nat) : Dev :=
  (d.modRing r (fun x =>
    let k := x.entries.length - openChain x.entries
    { x with entries := x.entries.take k ++ markAll csAborted (x.entries.drop k) })) |> fun d =>
      if d.ringServes r then d.completeAll r else d

/-- Every posted descriptor of a transmit ring whose completion is not written completed with ABORTED. -/
def Dev.abortAll (d : Dev) (r : Nat) : Dev :=
  (d.modRing r (fun x => { x with entries := markAll csAborted x.entries })).completeAll r

/-- The start of a quiesce with its bound (R397). -/
def Dev.startQuiesce (d : Dev) (i bound : Nat) : Dev :=
  let d1 := (d.setInst i stQuiescing).modInst i (fun x => { x with drainFrom := d.dial.notch, bound := bound })
  let d2 := d1.each ((d1.instRings i).filter (fun r => r % 2 == 1)) Dev.abortOpen
  d2.each ((d2.instRings i).filter (fun r => r % 2 == 0)) Dev.dropHold

/-- The drain conditions as they held at the start of the Notch (R398): a chain is read within the command that serves it. -/
def Dev.drained (d0 : Dev) (i : Nat) : Bool :=
  let d := d0.atStart
  (d.instRings i).all (fun r =>
    if r % 2 = 1 then d.prodPos r == d.consPos r else (d.writing r).isEmpty)

/-- The vectors of an instance's rings that hold completions are raised (R398). -/
def Dev.raisePending (d : Dev) (i : Nat) : Dev :=
  d.each ((d.instRings i).filter (fun r => d.flag R.RCTX_CFG_INT_EN r && !(d.ring r).bad && decide (1 ≤ (d.ring r).pend))) (fun d r =>
    (d.modRing r (fun x => { x with pend := 0 })).raiseVec (vfFn i) (d.get R.RCTX_CFG_VEC r))

/-- The end of a quiesce: the instance is QUIESCED, and the command that asked for it reads its status, or the FLR goes on
to its reset (R398, R399, R401). -/
def Dev.endQuiesce (d : Dev) (i : Nat) (forced : Bool) : Dev :=
  let d1 := ((d.setInst i stQuiesced).put R.INST_STATE_FORCED (bit forced) i).instEvent i 0
  let d2 := if forced then (d1.instEvent i 1).count R.INST_FLR_CNT_FORCED 1 i else d1
  let d3 := d2.raisePending i
  if (d3.inst i).flr.isSome then d3.modInst i (fun x => { x with resetting := true })
  else d3.instFinish i (if forced then isForced else isDone)

/-- QUIESCE_DRAIN_DONE (R398): the drain of an instance is complete. -/
def execQuiesceDrainDone (inst : Nat) (s : State) : Host.Outcome State Fault Refusal :=
  s.live (fun d => if d.instState inst = stQuiescing ∧ d.drained inst then d.endQuiesce inst false else d)

/-- A drain ended by force: what is posted is ABORTED, and writes in progress are cut short (R399). -/
def Dev.forceQuiesce (d : Dev) (i : Nat) : Dev :=
  let d1 := d.each ((d.instRings i).filter (fun r => r % 2 == 1)) Dev.abortAll
  let d2 := d1.each ((d1.instRings i).filter (fun r => r % 2 == 0)) (fun d r =>
    d.each (d.writing r) (fun d f => d.truncRx r f))
  d2.endQuiesce i true

/-- QUIESCE_FORCED (R399): the drain of an instance has reached its bound. -/
def execQuiesceForced (inst : Nat) (s : State) : Host.Outcome State Fault Refusal :=
  s.live (fun d =>
    if d.instState inst = stQuiescing ∧ !d.drained inst ∧ (d.inst inst).drainFrom + (d.inst inst).bound ≤ d.dial.notch then
      d.forceQuiesce inst
    else d)

/-! ### Function-wide reset (R400, R401) -/

/-- What a function-wide reset of an instance sets to its values after reset. -/
def Dev.resetInst (d : Dev) (i : Nat) : Dev :=
  let d1 := d.each (d.instRings i) (fun d r =>
    ((d.dropHold r).resetWords ((List.range 10).map (fun w => ⟨.RCTX, r, 136 + w⟩))).modRing r
      (fun x => { nextChain := x.nextChain }))
  (d1.resetWords ([131, 132, 133, 134].map (fun w => ⟨.INST, i, w⟩))).resetMsix (vfFn i)

/-- What REMOVE does beyond the reset: counters, events and error fields cleared, and the log off. -/
def Dev.freeInst (d : Dev) (i : Nat) : Dev :=
  let d1 := ((d.clearInst i).put R.INST_DIRTY_CFG_EN 0 i).put R.INST_DIRTY_STAT_MARKED 0 i
  d1.modInst i (fun x => { x with dirty := [] })

/-- The function-wide reset of an instance finishes, under RESET, REMOVE or an FLR (R400, R401). -/
def Dev.completeReset (d : Dev) (i : Nat) : Dev :=
  let d1 := (d.resetInst i).modInst i (fun x => { x with
    resetting := false, resetBy := none, frozen := none, saving := false })
  match (d.inst i).flr with
  | some st =>
    let d2 := (((d1.modInst i (fun x => { x with flr := none })).put R.INST_STATE_FLR 0 i).markPartial i).resetConfig (vfFn i)
    d2.setInst i (if st = stRunning then stRunning else if st = stQuiesced ∨ st = stFrozen then stQuiesced else stFree)
  | none =>
    (if d1.instBusyWith i = some 9 then d1.freeInst i else d1).instFinish i isDone

/-- FUNCTION_WIDE_RESET_COMPLETE (R400, R401): the reset of an instance finishes. -/
def execFunctionWideResetComplete (inst : Nat) (s : State) : Host.Outcome State Fault Refusal :=
  s.live (fun d => if !(d.inst inst).resetting then d else d.completeReset inst)

/-- Resets that have reached their bound are complete: an FLR 1,560,000 Notches after it was sampled, and a reset by command
60,000 Notches after it took effect (01 R28; 10 R352; R400, R401). -/
def Dev.resetsDue (d : Dev) : Dev :=
  if !d.flows then d
  else
    d.each (d.insts.filterMap (fun x => if x.2.resetBy.any (fun n => decide (n ≤ d.dial.notch)) then some x.1 else none))
      (fun d i => (if d.instState i = stQuiescing then d.forceQuiesce i else d).completeReset i)

/-- Words of an instance's page that its commands' state changes write. -/
def undoPage (i : Nat) : List Key :=
  ([8, 9, 18, 19, 20, 21, 22, 23, 24, 132, 133] ++ (List.range 19).map (fun w => 32 + w)).map (fun w => ⟨.INST, i, w⟩) ++
    [3, 4, 5, 6].map (fun w => ⟨.HDR, pgINST i, w⟩)

/-- Words of an instance's page and rings that its commands' state changes write. -/
def Dev.undoKeys (d : Dev) (i : Nat) : List Key :=
  undoPage i ++ (d.instRings i).flatMap (fun r => [140, 141, 142, 143, 144].map (fun w => ⟨.RCTX, r, w⟩))

/-- An instance as it stands, kept while a command's state change acts in the running Notch (R396). -/
def Dev.noteUndo (d : Dev) (i : Nat) : Dev :=
  d.modInst i (fun x => { x with undo := some {
    notch := d.dial.notch, words := (d.undoKeys i).map (fun k => (k, d.word k)), frozen := x.frozen
    seen := d.ledger.seen.contains i, ice := d.ledger.frozen.contains i, part := d.ledger.partials.contains i } })

/-- A command's state change that acted in the running Notch taken back, the command still in progress: an FLR of the Notch, at
level 2, comes before it, at level 4 (R396, R401; 01 R50). -/
def Dev.takeBack (d : Dev) (i : Nat) : Dev :=
  match (d.inst i).undo with
  | none => d
  | some u =>
    if u.notch ≠ d.dial.notch then d
    else
      let keep := fun (was : Bool) (l : List Nat) => if was then l else l.filter (fun x => x != i)
      let mine := u.words.filter (fun x => (undoPage i).contains x.1 || x.1.sp == .RCTX)
      let d1 := (d.each mine (fun d x => d.putWord x.1 x.2)).modInst i (fun x => { x with
        undo := none, frozen := u.frozen, saving := false, resetting := false, resetBy := none })
      { d1 with
        cmds := assocSet d1.cmds (instCmdKey i) (d1.word (instCmdKey i))
        ledger := { d1.ledger with
          seen := keep u.seen d1.ledger.seen, frozen := keep u.ice d1.ledger.frozen
          partials := keep u.part d1.ledger.partials } }

/-- An FLR of a VF (R401; 15 R505): in Safe Hold it is counted, and only its PCIe part is done. -/
def Dev.vfFlr (d : Dev) (i : Nat) : Dev :=
  match d.instVf i with
  | none => d
  | some (p, _) =>
    if d.holding then (d.count R.INST_FLR_CNT_FLR 1 i).resetConfig (vfFn i)
    else
      let u := d.takeBack i
      let d0 := (if (u.inst i).resetting && u.instBusyWith i == some 9 then u.freeInst i else u).count R.INST_FLR_CNT_FLR 1 i
      let d1 := ((d0.instEvent i 2).raiseBit R.HOST_EVENTS 3 p).put R.INST_STATE_FLR 1 i
      let st := d0.instState i
      let busy := d0.instBusyWith i
      let d2 := if busy.isSome ∧ busy ≠ some 10 then
          ((d1.instFinish i isPreempted).modInst i (fun x => { x with due := none, saving := false })).carried 6 Dev.chIdle
        else d1
      let by_ := some (d.dial.notch + 1560000)
      if (d.inst i).resetting ∧ (d.inst i).flr.isSome then d2
      else if st = stRunning then
        (d2.modInst i (fun x => { x with flr := some stRunning, resetBy := by_ })).startQuiesce i 1500000
      else if st = stQuiescing then
        d2.modInst i (fun x => { x with flr := some stRunning, drainFrom := d.dial.notch, bound := 1500000, resetBy := by_ })
      else d2.modInst i (fun x => { x with flr := some st, resetting := true, resetBy := by_ })

/-- VF_FLR (R401): a host FLR of an instance's VF is sampled. -/
def execVfFlr (inst : Nat) (s : State) : Host.Outcome State Fault Refusal := s.act (fun d => d.vfFlr inst)

/-! ### The state image (R403 to R408) -/

/-- The meaning of a command that a device channel of the Block Mover carries out, which Safe Hold does not stop (15 R503). -/
def State.carrying (s : State) (f : Dev → Dev) : Host.Outcome State Fault Refusal :=
  s.act (fun d => if d.runs && d.wake.leaving.isNone then f d else d)

/-- The word of a place as little-endian bytes. -/
def Dev.wordBytes (d : Dev) (k : Key) : List Byte := leBytes 8 (d.word k).toNat

/-- The header of a section. -/
def sectionHead (type len : Nat) : List Byte := leBytes 2 type ++ leBytes 2 1 ++ leBytes 4 len ++ leBytes 8 0

/-- The record of a ring in the RINGS section (R405); its age ends at FREEZE. -/
def Dev.ringRecord (d : Dev) (z : Frozen) (r : Nat) : List Byte :=
  let x := d.ring r
  let age := if x.pend = 0 then 0 else saturate 32 ((z.notch : Int) - x.first).toNat
  ((List.range 9).flatMap (fun w => d.wordBytes ⟨.RCTX, r, 136 + w⟩)) ++
    leBytes 2 x.pend ++ leBytes 4 age ++ leBytes 2 0 ++ List.replicate 16 0

/-- The state image of a FROZEN instance (R404, R405). -/
def Dev.image (d : Dev) (i : Nat) (z : Frozen) : List Byte :=
  let q := d.get R.INST_RING_RANGE_QP_COUNT i
  let v := d.get R.INST_VEC_RANGE_VEC_COUNT i
  let base := 2 * d.get R.INST_RING_RANGE_QP_BASE i
  let head := leBytes 4 0x4D49584B ++ leBytes 2 1 ++ leBytes 2 3 ++ leBytes 8 (d.imageLen i) ++
    leBytes 8 (identWord d.variant).toNat ++ leBytes 8 (capWord d.variant).toNat ++
    leBytes 8 (i + q * 2 ^ 16 + v * 2 ^ 32) ++ leBytes 8 z.sec ++ leBytes 8 z.ns ++ leBytes 8 z.notch
  let s1 := sectionHead 1 256 ++ z.page.flatMap (fun w => leBytes 8 w.toNat)
  let s2 := sectionHead 2 (192 * q) ++ (List.range (2 * q)).flatMap (fun k => d.ringRecord z (base + k))
  let s3 := sectionHead 3 (16 * v + 8 * ((v + 63) / 64)) ++
    (List.range v).flatMap (fun k =>
      let e := (d.msixEntry (vfFn i) k).words
      leBytes 8 e.1.toNat ++ leBytes 8 e.2.toNat) ++
    (List.range ((v + 63) / 64)).flatMap (fun w =>
      leBytes 8 (((List.range 64).map (fun b =>
        if 64 * w + b < v ∧ (d.msixEntry (vfFn i) (64 * w + b)).pending then 2 ^ b else 0)).sum))
  let body := head ++ s1 ++ s2 ++ s3
  body ++ leBytes 8 (crc64 body)

/-- The port through whose operator PF the images and bitmaps of an instance go: the one that serves it, or port A for an instance
with no VF (13 R445). -/
def Dev.imagePort (d : Dev) (i : Nat) : Nat := (d.instPort i).getD 0

/-- SAVE_COMPLETE (R406): the image of an instance is written, or a write failed on the link. Safe Hold does not stop the channel
(15 R503). -/
def execSaveComplete (inst : Nat) (ok : Bool) (s : State) : Host.Outcome State Fault Refusal :=
  s.carrying (fun d =>
    match (d.inst inst).saving, (d.inst inst).frozen with
    | true, some z =>
      let d1 := d.modInst inst (fun x => { x with saving := false })
      let p := d.imagePort inst
      if d.retraining p then d
      else if ok && d.dmaOk p then
        (((d1.hostPut p { fn := pfFn p, addr := d.get R.INST_MIG_ADDR_ADDR inst, bytes := d.image inst z }).instEvent inst
          3).instFinish inst isDone).carried 6 Dev.chDone
      else (d1.instFinish inst isDmaErr).carried 6 Dev.chLost
    | _, _ => d)

/-- A number in an image: `n` bytes at an offset. -/
def imgNat (b : List Byte) (off n : Nat) : Nat := leNat ((b.drop off).take n)

/-- A field of the image's CAP is at most this device's (R407). -/
def capCovers (here image : Word) : Bool :=
  ([R.DEVICE_CAP_LANES, R.DEVICE_CAP_LANE_RATE, R.DEVICE_CAP_HOST_A, R.DEVICE_CAP_HOST_B, R.DEVICE_CAP_GLENS_ACTIVE,
    R.DEVICE_CAP_GLENS_SPARE, R.DEVICE_CAP_HBM_STACKS, R.DEVICE_CAP_CRYPTO, R.DEVICE_CAP_STORE, R.DEVICE_CAP_FLOW_LOG2,
    R.DEVICE_CAP_POWER_MAX] : List Fld).all
    (fun f => decide (image.field f.lo f.w ≤ here.field f.lo f.w))

/-- The status of the first check of R407 that an image fails; none where it passes them all. -/
def Dev.imageFault (d : Dev) (i : Nat) (b : List Byte) : Option Nat :=
  let n := d.get R.INST_MIG_SIZE_BYTES i
  let q := imgNat b 0x20 8 / 2 ^ 16 % 2 ^ 14
  let v := imgNat b 0x20 8 / 2 ^ 32 % 2 ^ 12
  let l3 := 16 * v + 8 * ((v + 63) / 64)
  let isSection := fun (off type len : Nat) => imgNat b off 2 == type && imgNat b (off + 2) 2 == 1 && imgNat b (off + 4) 4 == len
  if n < 72 ∨ imgNat b 8 4 ≠ n then some isBadImage
  else if imgNat b (n - 8) 8 ≠ crc64 (b.take (n - 8)) then some isBadCrc
  else if imgNat b 0 4 ≠ 0x4D49584B ∨ imgNat b 4 2 ≠ 1 ∨ imgNat b 6 2 ≠ 3 ∨ !isSection 64 1 256 ∨
      !isSection 336 2 (192 * q) ∨ !isSection (352 + 192 * q) 3 l3 ∨ n ≠ 376 + 192 * q + l3 then some isBadImage
  else if 0xB0 < imgNat b 0x12 1 then some isStepOld
  else if !capCovers (capWord d.variant) (BitVec.ofNat 64 (imgNat b 0x18 8)) then some isCapLow
  else if q ≠ d.get R.INST_RING_RANGE_QP_COUNT i ∨ v ≠ d.get R.INST_VEC_RANGE_VEC_COUNT i ∨ (d.instVf i).isNone then
    some isShape
  else none

/-- The fields of a register word loaded, those fixed by the device left as they are. -/
def Dev.loadWord (d : Dev) (k : Key) (w : Nat) : Dev :=
  d.each ((fieldsOf k.sp).filter (fun f => (fldInstance f k.word).isSome && f != R.RCTX_CFG_DIR)) (fun d f =>
    d.putWord k ((d.word k).withField f.lo f.w (w / 2 ^ f.lo)))

/-- An image that passed its checks loaded (R408); `descs` are, for each ring, the descriptors between its consumer and
its producer as the device reads them. -/
def Dev.loadImage (d : Dev) (i : Nat) (b : List Byte) (descs : List (List (Option (List Byte)))) : Dev :=
  let q := d.get R.INST_RING_RANGE_QP_COUNT i
  let v := d.get R.INST_VEC_RANGE_VEC_COUNT i
  let base := 2 * d.get R.INST_RING_RANGE_QP_BASE i
  let d0 := (d.clearCounts i).clearUse i
  let d1 := ([(131, 0x18), (132, 0x20), (133, 0x28), (134, 0x30)] : List (Nat × Nat)).foldl
    (fun d x => d.loadWord ⟨.INST, i, x.1⟩ (imgNat b (80 + x.2) 8)) d0
  let d2 := d1.each (List.range (2 * q)) (fun d k =>
    let r := base + k
    let off := 352 + 96 * k
    let e := d.each (List.range 9) (fun d w => d.loadWord ⟨.RCTX, r, 136 + w⟩ (imgNat b (off + 8 * w) 8))
    let posted := e.ringDist r (e.prodPos r)
    e.modRing r (fun x => { x with
      entries := (List.range posted).map (fun m =>
        { desc := (nth (nth descs k []) m (some [])).map (fun b => (b ++ List.replicate 32 0).take 32) })
      pend := imgNat b (off + 0x48) 2, first := (d.dial.notch : Int) - (imgNat b (off + 0x4A) 4 : Int) }))
  let m := 368 + 192 * q
  d2.each (List.range v) (fun d k =>
    let w := imgNat b (m + 16 * k + 8) 8
    d.setMsix (vfFn i) k { addr := imgNat b (m + 16 * k) 8, data := w % 2 ^ 32, masked := w.testBit 32
                           pending := (imgNat b (m + 16 * v + 8 * (k / 64)) 8).testBit (k % 64) })

/-- RESTORE_COMPLETE (R407, R408): the image is read, `data` giving its bytes or none where a read failed, checked and
loaded. -/
def execRestoreComplete (inst : Nat) (data : Option (List Byte)) (descs : List (List (Option (List Byte)))) (s : State) :
    Host.Outcome State Fault Refusal :=
  s.carrying (fun d =>
    if d.instState inst ≠ stRestoring ∨ d.instBusyWith inst ≠ some 7 ∨ d.retraining (d.imagePort inst) then d
    else
      let n := d.get R.INST_MIG_SIZE_BYTES inst
      let bad := fun (st : Nat) => ((d.setInst inst stFree).instFinish inst st).carried 7 Dev.chDone
      match data with
      | none =>
        (((d.readLost (d.imagePort inst) (d.get R.INST_MIG_ADDR_ADDR inst)).setInst inst stFree).instFinish inst isDmaErr).carried
          7 Dev.chLost
      | some b0 =>
        let b := (b0 ++ List.replicate n 0).take n
        match d.imageFault inst b with
        | some st => bad st
        | none =>
          (((((d.loadImage inst b descs).setInst inst stQuiesced).markPartial inst).instEvent inst 4).instFinish inst isDone).carried
            7 Dev.chDone)

/-! ### Harvest (R411) -/

/-- The taken bitmap as bytes: page p at bit p mod 8 of byte p / 8. -/
def bitmapBytes (pages : Nat) (marked : List Nat) : List Byte :=
  (List.range ((pages + 511) / 512 * 64)).map (fun k =>
    BitVec.ofNat 8 (((List.range 8).map (fun b => if marked.contains (8 * k + b) then 2 ^ b else 0)).sum))

/-- HARVEST_COMPLETE (R411): the taken bitmap is written, or a write failed on the link and it is merged back. -/
def execHarvestComplete (inst : Nat) (ok : Bool) (s : State) : Host.Outcome State Fault Refusal :=
  s.carrying (fun d =>
    match (d.inst inst).taken with
    | none => d
    | some l =>
      let d1 := d.modInst inst (fun x => { x with taken := none })
      let p := d.imagePort inst
      if d.retraining p then d
      else if ok && d.dmaOk p then
        (((d1.hostPut p { fn := pfFn p, addr := d.get R.INST_DIRTY_ADDR_ADDR inst
                          bytes := bitmapBytes (d.get R.INST_DIRTY_PAGES_PAGES inst) l }).instEvent inst 6).instFinish inst
          isDone).carried 10 Dev.chDone
      else
        let d2 := if d.flag R.INST_DIRTY_CFG_EN inst then
            d1.modInst inst (fun x => { x with dirty := x.dirty ++ l.filter (fun p => !x.dirty.contains p) })
          else d1
        ((d2.put R.INST_DIRTY_STAT_MARKED (d2.inst inst).dirty.length inst).instFinish inst isDmaErr).carried 10 Dev.chLost)

/-! ### The Notch after a command (R396) -/

/-- A command's state change acts. -/
def Dev.instDue (d0 : Dev) (i code : Nat) : Dev :=
  let d := (if code = 2 ∨ code = 10 then d0 else d0.noteUndo i).modInst i (fun x => { x with due := none })
  match code with
  | 1 => (((d.clearInst i).setInst i stRunning).markPartial i).instFinish i isDone
  | 2 => d.startQuiesce i (d.get R.INST_QUIESCE_LIMIT_NOTCHES i)
  | 3 => (d.setInst i stRunning).instFinish i isDone
  | 4 =>
    let z : Frozen := { sec := d.dial.sec, ns := d.dial.ns, notch := d.dial.notch
                        page := (List.range 32).map (fun w => d.readWord (.operator .a) (pgINST i) (128 + w)) }
    ((d.setInst i stFrozen).modInst i (fun x => { x with frozen := some z })).instFinish i isDone
  | 5 =>
    let wait := d.dial.notch - ((d.inst i).frozen.elim d.dial.notch Frozen.notch)
    let d1 := d.each (d.instRings i) (fun d r => d.modRing r (fun x => { x with first := x.first + (wait : Int) }))
    ((d1.setInst i stQuiesced).modInst i (fun x => { x with frozen := none })).instFinish i isDone
  | 6 => (d.modInst i (fun x => { x with saving := true })).carry code
  | 7 => (d.setInst i stRestoring).carry code
  | 10 =>
    ((d.modInst i (fun x => { x with taken := some x.dirty, dirty := [] })).put R.INST_DIRTY_STAT_MARKED 0 i).carry code
  | _ =>
    let d1 := d.modInst i (fun x => { x with frozen := none, resetting := true, resetBy := some (d.dial.notch + 60000) })
    if code = 9 then (d1.setInst i stFree).markPartial i else d1.setInst i stQuiesced

/-- The state changes of the commands written in the Notch that ended. From the entry of Safe Hold on only those act that a device
channel of the Block Mover carries (15 R503, R505; DESIGN CHOICE, notes/assumptions/134). -/
def Dev.stepInsts (d : Dev) : Dev :=
  d.each (d.insts.filterMap (fun x => x.2.due.map (fun c => (x.1, c)))) (fun d x =>
    if d.holding && !([6, 7, 10].contains x.2) then d else d.instDue x.1 x.2)

end Sys2Proof.Machine
end

