-- ==== Sys2Proof/Machine/Links.lean ====
section
/-! DEFINITION. Sessions as they end, and host links: training, PERST#, configuration requests and the FLR of a PF
(spec/10_host_rings.md R349 to R354, R388, R389; 16 R533; 17 R562, R563; 18 R593, R595). -/

namespace Sys2Proof.Machine

/-! ### Sessions that end (16 R533 to R535) -/

/-- Role, slot and status as a session record holds them (R535). -/
def sessionWord (role slot status : Nat) : Word := BitVec.ofNat 64 (role + slot * 2 ^ 8 + status * 2 ^ 16)

/-- The session open on a bank ends, and its end is journaled. -/
def Dev.endSession (d : Dev) (bank : Nat) : Dev :=
  match d.session bank with
  | none => d
  | some x =>
    let d1 := d.journalOwn (d.recordOf (d.role x.path) (d.sessionNo x.path) x.path 5 pgROLE 0x40 (sessionWord x.role x.slot 0) 0)
    { d1 with roles := { d1.roles with sessions := d1.roles.sessions.filter (fun y => y.bank != bank) } }

/-- Window banks of a path set to their values after reset, and its held writes discarded (18 R593, R595). -/
def Dev.resetBanks (d : Dev) (bank : Nat) : Dev :=
  { d with acc := { d.acc with
      holds := d.acc.holds.filter (fun x => x.1.1 != bank)
      wins := d.acc.wins.filter (fun x => x.1.1 != bank)
      low := d.acc.low.filter (fun x => x.1.1 != bank) } }

/-- The outstanding challenge of a path is gone (16 R554). -/
def Dev.dropChallenge (d : Dev) (bank : Nat) : Dev :=
  { d with roles := { d.roles with challenges := d.roles.challenges.filter (fun c => c.bank != bank) } }

/-! ### The WAKE# pin (03 R117) -/

/-- WAKE# released, where the device drives it low. -/
def Dev.releaseWake (d : Dev) : Dev :=
  if d.wake.pinLow then
    ({ d with wake := { d.wake with pinLow := false, serviceAt := none } }).emit (.pin "WAKE#" true)
  else d

/-! ### Functions -/

/-- An FLR of a PF (10 R353; 16 R533): its configuration space and MSI-X table are reset; that of an installer PF ends the
session opened over it. -/
def Dev.pfFlr (d : Dev) (fn : Nat) : Dev :=
  let p := fn / 2
  let bank := if fn % 2 = 0 then p else 2 + p
  let d1 := (((d.resetMsix fn).resetConfig fn).resetBanks bank).raiseBit R.HOST_EVENTS 4 p
  if fn % 2 = 0 then d1 else (d1.endSession bank).dropChallenge bank

/-- PF_FLR (R353): `fn` is 0 and 1 for the operator and the installer PF of port A, 2 and 3 for those of port B. -/
def execPfFlr (fn : Nat) (s : State) : Host.Outcome State Fault Refusal :=
  s.act (fun d => if fn < 4 ∧ (d.fnPort fn).isSome then d.pfFlr fn else d)

/-- A fitted host port. -/
def Dev.hostFitted (d : Dev) (p : Nat) : Bool := p == 0 || (p == 1 && d.variant.hasHostB)

/-- Link training may run on a port: the ROM stage is over and PERST# is released (17 R562). -/
def Dev.mayTrain (d : Dev) (p : Nat) : Bool := d.stage != bsRom && !(d.link p).perst

/-- PERST_ASSERT (10 R353; 15 R505; 17 R569): PERST# of a port is asserted. It acts as an FLR of every function of the
port; in Safe Hold it retrains the port only, and its VFs' FLRs count. Of a device that does not run only the pin changes. -/
def execPerstAssert (port : HostPort) (s : State) : Host.Outcome State Fault Refusal :=
  s.always (fun d =>
    let p := port.num
    if !d.hostFitted p then d
    else if !d.awake then d.modLink p (fun l => { l with perst := true })
    else
      let d0 := d.modLink p (fun l => { l with perst := true, training := false, waiting := [] })
      let d1 := if d.linkUp p then ((d0.put R.HOST_LINK_STATUS_UP 0 p).raiseBit R.HOST_EVENTS 1 p).error (pgHOST p) 3 0 p else d0
      let d2 := (d1.pfFlr (2 * p)).pfFlr (2 * p + 1)
      d2.each ((List.range 4096).filter (fun i => d2.instPort i == some p)) Dev.vfFlr)

/-- PERST_RELEASE (17 R562; 03 R117): PERST# of a port is released; training starts, once the ROM stage is over.
Of a device that does not run only the pin changes (19 R626). -/
def execPerstRelease (port : HostPort) (s : State) : Host.Outcome State Fault Refusal :=
  s.always (fun d =>
    let p := port.num
    if !d.hostFitted p then d
    else
      let d1 := d.modLink p (fun l => { l with perst := false })
      if !d.awake then d1 else (if d1.mayTrain p then d1.modLink p (fun l => { l with training := true }) else d1).releaseWake)

/-! ### Links (10 R349, R350, R388, R389) -/

/-- RETRAIN (R388, R389): a host link is retrained toward its targets. -/
def execRetrain (path : Path) (port : HostPort) (s : State) : Host.Outcome State Fault Refusal :=
  s.act (fun d =>
    let p := port.num
    let k := fldKey R.HOST_CMD_CODE p 0
    let st := fun (d : Dev) (x : Nat) => (d.put R.HOST_CMD_CODE 1 p).put R.HOST_CMD_STATUS x p
    d.command path (pgHOST p) 0x50 k (fun d => st d 1) (fun d =>
      if d.cmdBusy k then st d 1
      else if !d.linkUp p then st d 4
      else
        (((st d 2).cmdStart k).count R.HOST_LINK_STATUS_RETRAINS 1 p).modLink p
          (fun l => { l with training := true, retrain := true })))

/-- HOST_LINK_UP (17 R562; 10 R350): a host link completes training at a speed and a width, coded as LINK_STATUS codes
them, with or without FLIT mode. -/
def execHostLinkUp (port : HostPort) (speed width : Nat) (flit : Bool) (s : State) : Host.Outcome State Fault Refusal :=
  s.act (fun d =>
    let p := port.num
    if !d.hostFitted p || !(d.link p).training || !d.mayTrain p then d
    else
      let wantS := d.get R.HOST_LINK_CFG_MAX_SPEED p
      let wantW := d.get R.HOST_LINK_CFG_MAX_WIDTH p
      let sp := max (speed % 6) (if d.boot.nominal then max wantS 2 else wantS)
      let wd := max (width % 3) wantW
      let d1 := (((d.put R.HOST_LINK_STATUS_UP 1 p).put R.HOST_LINK_STATUS_SPEED sp p).put R.HOST_LINK_STATUS_WIDTH wd p).put
        R.HOST_LINK_STATUS_FLIT (bit flit) p
      let d2 := d1.raiseBit R.HOST_EVENTS 0 p
      let d3 := if wantS < sp ∨ wantW < wd then d2.raiseBit R.HOST_EVENTS 2 p else d2
      let d4 := if (d.link p).retrain then d3.cmdFinish R.HOST_CMD_STATUS 0 p else d3
      let d5 := d4.modLink p (fun l => { l with training := false, retrain := false })
      (if d5.holding then d5 else d5.releaseWrites p).releaseWake)

/-- HOST_LINK_DOWN (10 R349; 15 R494): a host link goes down, and trains again where PERST# allows; a link that was
training and fails is recorded too. -/
def execHostLinkDown (port : HostPort) (s : State) : Host.Outcome State Fault Refusal :=
  s.act (fun d =>
    let p := port.num
    if !d.hostFitted p || !(d.linkUp p || (d.link p).training) then d
    else
      let d1 := (d.put R.HOST_LINK_STATUS_UP 0 p).modLink p (fun l => { l with training := d.mayTrain p, waiting := [] })
      (if d.linkUp p then d1.raiseBit R.HOST_EVENTS 1 p else d1).error (pgHOST p) 3 0 p)

/-! ### Configuration space (R349, R351, R354, R355, R357, R358) -/

/-- The operator PF of a port, which carries the SR-IOV capability (R354). -/
def isPf0 (fn : Nat) : Bool := fn == 0 || fn == 2

/-- What a function supports (R349, R351, R354). -/
def pciSupports (fn : Nat) : PciItem → Bool
  | .sriov => isPf0 fn
  | .ari | .acs | .aer | .msix | .flr | .crsVisibility | .tags10 | .tags14 | .relaxedOrdering | .d3hot => true
  | .msi | .intx | .ats | .pri | .pasid | .ide | .tdisp | .noSnoop | .aspmL0s | .aspmL1 | .l0p => false

/-- The value after reset of a field that software sets; Max Read Request Size starts at 512 bytes (PRESUMED, the family's;
notes/assumptions/121). -/
def configReset : ConfigField → Nat
  | .maxReadRequest => 2
  | _ => 0

/-- Bytes of BAR0: of a PF (18 R580), and of each VF of a PF0 (R356). -/
def barSize : ConfigField → Nat
  | .bar0 => 2 ^ 25
  | _ => 2 ^ 18

/-- A base address register of 64 bits, not prefetchable: the address, a multiple of its size, with the type in bits [2:1]. -/
def barWord (f : ConfigField) (v : Nat) : Nat := v % 2 ^ 64 / barSize f * barSize f + 4

/-- A field of a function's configuration space as it reads. -/
def Dev.configField (d : Dev) (fn : Nat) (f : ConfigField) : Nat :=
  match f with
  | .supports x => bit (pciSupports fn x)
  | .acsRequestRedirect | .acsCompletionRedirect => 1
  | .totalVfs => if isPf0 fn then d.vfTotal (fn / 2) else 0
  | .msixTableSize => d.msixSize fn - 1
  | .msixEnable => bit (d.msixCtl fn).1
  | .msixMask => bit (d.msixCtl fn).2
  | .numVfs | .vfEnable => if isPf0 fn then (assoc d.host.config (fn, f)).getD 0 else 0
  | .vendorId => if fn < 4 then (Config.vendorId 0).toNat * 2 ^ 8 + (Config.vendorId 1).toNat else 0xFFFF
  | .bar0 => if fn < 4 then barWord f ((assoc d.host.config (fn, f)).getD 0) else 0
  | .vfBar0 => if isPf0 fn then barWord f ((assoc d.host.config (fn, f)).getD 0) else 0
  | .maxPayload | .maxReadRequest | .powerState => (assoc d.host.config (fn, f)).getD (configReset f)

/-- Whether a value may be written to a field: what the function does not support keeps the value (DESIGN CHOICE,
notes/assumptions/121). -/
def Dev.configMay (d : Dev) (fn v : Nat) : ConfigField → Bool
  | .numVfs => isPf0 fn && decide (v ≤ d.vfTotal (fn / 2))
  | .vfEnable => isPf0 fn && decide (v ≤ 1)
  | .maxPayload => decide (v ≤ 2)
  | .maxReadRequest => decide (v ≤ 5)
  | .powerState => v == 0 || v == 3
  | .bar0 => decide (fn < 4)
  | .vfBar0 => isPf0 fn
  | _ => false

/-- A field of a function's configuration space written. -/
def Dev.configWrite (d : Dev) (fn : Nat) (f : ConfigField) (v : Nat) : Dev :=
  match f with
  | .msixEnable => { d with host := { d.host with msixCtl := assocSet d.host.msixCtl fn (v % 2 == 1, (d.msixCtl fn).2) } }
  | .msixMask => { d with host := { d.host with msixCtl := assocSet d.host.msixCtl fn ((d.msixCtl fn).1, v % 2 == 1) } }
  | _ => if d.configMay fn v f then { d with host := { d.host with config := assocSet d.host.config (fn, f) v } } else d

/-- Whether a function is ready for configuration requests: the device's start has got so far (17 R563), and no FLR of the VF is
being handled (R352; DEDUCED, notes/assumptions/121). -/
def Dev.configReady (d : Dev) (fn : Nat) : Bool :=
  decide (bsGlens ≤ d.startStage) && !(decide (4 ≤ fn) && (d.inst (fn - 4)).flr.isSome)

/-- CONFIG_REQUEST (17 R563; 10 R349, R352): a configuration request to a function whose link is up, or an access of a PF's
MSI-X table, is served, or answered with Request Retry Status while the function is not ready. -/
def execConfigRequest (fn : Nat) (op : ConfigOp) (s : State) : Host.Outcome State Fault Refusal :=
  s.act (fun d =>
    if !(d.fnPort fn).any d.linkUp then d
    else if !d.configReady fn then d.emit (.config fn true)
    else
      let table : Bool := decide (fn < 4)
      match op with
      | .read f => d.emit (.config fn false (some (d.configField fn f)))
      | .write f v => (d.emit (.config fn false)).configWrite fn f v
      | .msixRead vec =>
        let e := d.msixEntry fn vec
        d.emit (.config fn false (some (if table && decide (vec < 64) then e.words.1.toNat + 2 ^ 64 * e.words.2.toNat else 0)))
      | .corrected n => d.count R.HOST_CORR_ERR n ((d.fnPort fn).getD 0)
      | .msixControl enable mask =>
        let d1 := d.emit (.config fn false)
        { d1 with host := { d1.host with msixCtl := assocSet d1.host.msixCtl fn (enable, mask) } }
      | .msixEntry vec addr data masked =>
        let d1 := d.emit (.config fn false)
        if table && decide (vec < 64) then
          d1.setMsix fn vec { d1.msixEntry fn vec with addr := addr, data := data, masked := masked }
        else d1)

end Sys2Proof.Machine
end

