-- ==== Sys2Proof/Machine/LedgerRing.lean ====
section
/-! DEFINITION. The Minute Ledger: the close of an interval, its records, and the Ledger ring
(spec/11_instances.md R415 to R422). -/

namespace Sys2Proof.Machine

/-- A record's flags (R418). -/
structure LedgerFlags where
  step : Bool
  extended : Bool
  sat : Bool
  gap : Bool
  part : Bool
  frozen : Bool
deriving DecidableEq, Repr

/-- FLAGS as a number. -/
def LedgerFlags.num (f : LedgerFlags) : Nat :=
  bit f.step + 2 * bit f.extended + 4 * bit f.sat + 8 * bit f.gap + 16 * bit f.part + 32 * bit f.frozen

/-- Some count of an interval exceeds its field in the record (R419). -/
def Usage.saturates (u : Usage) (notches : Nat) : Bool :=
  u.bytes.any (fun n => decide (2 ^ 48 ≤ n)) || u.frames.any (fun n => decide (2 ^ 32 ≤ n)) || decide (2 ^ 48 ≤ u.crypto) ||
    decide (2 ^ 40 ≤ u.ios) || decide (2 ^ 48 ≤ u.tn) || decide (2 ^ 40 ≤ notches)

/-- The 128 bytes of a record (R418, R419). -/
def ledgerRecord (i seq start notches : Nat) (u : Usage) (f : LedgerFlags) : List Byte :=
  let fr := fun k => saturate 32 (nth u.frames k 0)
  let hi := fun k0 => ((List.range 4).map (fun k => fr (k0 + k) / 2 ^ 16 * 2 ^ (16 * k))).sum
  leBytes 8 (1 + f.num * 2 ^ 4 + i % 4096 * 2 ^ 12 + seq % 2 ^ 32 * 2 ^ 32) ++ leBytes 8 start ++
    leBytes 8 (saturate 40 notches) ++ leBytes 8 (saturate 48 u.tn) ++ leBytes 8 (saturate 48 u.crypto) ++
    leBytes 8 (saturate 40 u.ios) ++
    (List.range 8).flatMap (fun k => leBytes 8 (saturate 48 (nth u.bytes k 0) + fr k % 2 ^ 16 * 2 ^ 48)) ++
    leBytes 8 (hi 0) ++ leBytes 8 (hi 4)

/-- Records the backlog holds (R422). -/
def backlogMax : Nat := 262144

/-- One instance's record of a close: kept in the backlog, or lost when that is full (R417, R422). -/
def Dev.ledgerMake (d : Dev) (step allPart : Bool) (i : Nat) : Dev :=
  let l := d.ledger
  let u := d.usage i
  let n := d.dial.notch - l.firstNotch
  let seq := (assoc l.seqs i).getD 0
  let d1 : Dev := { d with ledger := { l with seqs := assocSet l.seqs i ((seq + 1) % 2 ^ 32) } }
  if backlogMax ≤ l.backlog.length then
    (({ d1 with ledger := { d1.ledger with gaps := if l.gaps.contains i then l.gaps else l.gaps ++ [i] } }).count
      R.INSTCTL_LEDGER_LOST 1).raiseBit R.INSTCTL_LEDGER_EVENTS 3
  else
    let f : LedgerFlags :=
      { step := step, extended := l.extended, sat := u.saturates n, gap := l.gaps.contains i
        part := allPart || l.partials.contains i, frozen := l.frozen.contains i }
    { d1 with ledger := { d1.ledger with
        backlog := l.backlog ++ [(d.dial.notch, ledgerRecord i seq l.startSec n u f)]
        gaps := l.gaps.filter (fun j => j != i) } }

/-- Instances that get a record at a close, in ascending order (R417). -/
def Dev.ledgerInsts (d : Dev) : List Nat :=
  (List.range 4096).filter (fun i => d.ledger.seen.contains i ||
    (match assoc d.ledger.counts i with
     | some u => u != ({ } : Usage)
     | none => false))

/-- Instances not FREE, among those that could be: instance 0 and those whose pages differ from reset. -/
def Dev.liveInsts (d : Dev) : List Nat :=
  (0 :: (d.touched .INST).filter (fun i => i != 0)).filter (fun i => d.instState i != stFree)

/-- The open interval closes and the next opens (R416, R420). -/
def Dev.closeLedger (d : Dev) (step allPart : Bool) : Dev :=
  let d1 := d.each d.ledgerInsts (fun d i => d.ledgerMake step allPart i)
  let live := d1.liveInsts
  { d1 with ledger := { d1.ledger with
      counts := [], startSec := d.dial.sec / 60 * 60, firstNotch := d.dial.notch, seen := live, partials := []
      frozen := live.filter (fun i => d1.instState i == stFrozen), extended := false } }

/-- A minute boundary Notch (R416). -/
def Dev.minuteBoundary (d : Dev) : Bool := d.dial.sec % 60 == 0 && d.dial.ns == 0

/-- The CLASS_MAP as written comes into force (R416). -/
def Dev.latchClassMap (d : Dev) : Dev :=
  { d with ledger := { d.ledger with classMap := d.get R.INSTCTL_LEDGER_CFG_CLASS_MAP } }

/-- The first Notch after a forward step (R420). -/
def Dev.steppedForward (d : Dev) : Bool :=
  match d.dial.stepped with
  | some t => decide (timeNs t < timeNs d.now)
  | none => false

/-- LEDGER_SNAPSHOT (R416, R420): the open interval closes at a minute boundary Notch later than its start, and in the first
Notch after a forward step. At every minute boundary Notch the CLASS_MAP as written comes into force. -/
def execLedgerSnapshot (s : State) : Host.Outcome State Fault Refusal :=
  s.act (fun d =>
    let d1 :=
      if d.dial.notch ≤ d.ledger.firstNotch then d
      else if d.steppedForward then d.closeLedger true false
      else if d.minuteBoundary && decide (d.ledger.startSec < d.dial.sec) then d.closeLedger false false
      else d
    if d.minuteBoundary then d1.latchClassMap else d1)

/-- A backward step extends the open interval (R420). -/
def Dev.ledgerStepped (d : Dev) : Dev :=
  match d.dial.stepped with
  | some t => if timeNs d.now < timeNs t then { d with ledger := { d.ledger with extended := true } } else d
  | none => d

/-- Size of the Ledger ring, and records in it (R421, R364). -/
def Dev.ledgerSize (d : Dev) : Nat := 2 ^ d.get R.INSTCTL_LEDGER_CFG_SIZE_LOG2
def Dev.ledgerUsed (d : Dev) : Nat :=
  let n := d.ledgerSize
  let prod := d.get R.INSTCTL_LEDGER_PROD_INDEX + n * d.get R.INSTCTL_LEDGER_PROD_WRAP
  let cons := d.get R.INSTCTL_LEDGER_CONS_INDEX + n * d.get R.INSTCTL_LEDGER_CONS_WRAP
  (prod + 2 * n - cons) % (2 * n)

/-- The oldest record written to the Ledger ring, where it is on, its link is up and it has room (R421, R422). -/
def Dev.ledgerWrite (d : Dev) : Dev :=
  match d.ledger.backlog with
  | [] => d
  | (close, bs) :: rest =>
    let n := d.ledgerSize
    let p := d.get R.INSTCTL_LEDGER_CFG_PORT
    if !d.flag R.INSTCTL_LEDGER_CFG_EN || !d.dmaOk p then d
    else if n ≤ d.ledgerUsed then d.raiseBit R.INSTCTL_LEDGER_EVENTS 1
    else
      let i := d.get R.INSTCTL_LEDGER_PROD_INDEX
      let pos := (i + n * d.get R.INSTCTL_LEDGER_PROD_WRAP + 1) % (2 * n)
      let d1 := ({ d with ledger := { d.ledger with backlog := rest } }).emit
        (.hostWrite (hostPort p) { fn := pfFn p, addr := d.get R.INSTCTL_LEDGER_BASE_ADDR + 128 * i, bytes := bs })
      let d2 := (d1.put R.INSTCTL_LEDGER_PROD_INDEX (pos % n)).put R.INSTCTL_LEDGER_PROD_WRAP (pos / n)
      if rest.head?.map Prod.fst = some close then d2 else d2.raiseBit R.INSTCTL_LEDGER_EVENTS 0

/-- LEDGER_RECORD_WRITE (R421, R422). -/
def execLedgerRecordWrite (s : State) : Host.Outcome State Fault Refusal := s.live Dev.ledgerWrite

/-- LEDGER_LATE (R422): a close whose records are not all written within 10 s of it. -/
def execLedgerLate (s : State) : Host.Outcome State Fault Refusal :=
  s.act (fun d =>
    let due := (d.ledger.backlog.map Prod.fst).filter (fun n =>
      decide (n + 156250000 ≤ d.dial.notch) && !d.ledger.late.contains n)
    match due.head? with
    | none => d
    | some n => ({ d with ledger := { d.ledger with late := d.ledger.late ++ [n] } }).raiseBit R.INSTCTL_LEDGER_EVENTS 2)

end Sys2Proof.Machine
end

