-- ==== Sys2Proof/Machine/Units.lean ====
section
/-! DEFINITION. What the crypto and the storage unit share: the return of a frame, bytes of frames, and the Internet
checksum (spec/02_packet_journey.md R76; 06 R216, R234; 08 R292). -/

namespace Sys2Proof.Machine

/-- Bytes of a frame from an offset, zeros beyond its end. -/
def sub (b : List Byte) (off n : Nat) : List Byte := ((b.drop off).take n) ++ List.replicate (n - (b.length - off)) 0

/-- A big-endian number in a frame. -/
def beAt (b : List Byte) (off n : Nat) : Nat := beNat (sub b off n)

/-- Bytes written over a frame at an offset; what would lie beyond its end is cut. -/
def overlay (b : List Byte) (off : Nat) (x : List Byte) : List Byte :=
  (b.take off ++ x ++ b.drop (off + x.length)).take b.length

/-- The sum of 16-bit words, a last odd byte padded with zero. -/
def sum16 : List Byte → Nat
  | [] => 0
  | [a] => a.toNat * 256
  | a :: b :: t => a.toNat * 256 + b.toNat + sum16 t

/-- The one's-complement fold of a sum. -/
def fold16 (n : Nat) : Nat :=
  let a := n % 65536 + n / 65536
  let b := a % 65536 + a / 65536
  b % 65536 + b / 65536

/-- The Internet checksum of bytes and an initial sum. -/
def inetSum (init : Nat) (b : List Byte) : Nat := 65535 - fold16 (init + sum16 b)

/-- The IP version, header length and payload protocol at an offset; none where it is neither IPv4 nor IPv6. -/
def ipAt (b : List Byte) (l3 : Nat) : Option (Bool × Nat × Nat) :=
  let v := beAt b l3 1
  if v / 16 = 4 then some (false, 4 * (v % 16), beAt b (l3 + 9) 1)
  else if v / 16 = 6 then some (true, 40, beAt b (l3 + 6) 1)
  else none

/-- Past the extension headers of an IPv6 packet from the one of type `next` at `at_`, of which there are at most `n`: the
protocol of what follows and where it lies. -/
def ipv6Skip (b : List Byte) : Nat → Nat → Nat → Nat × Nat
  | 0, next, at_ => (next, at_)
  | n + 1, next, at_ =>
    if next = 0 ∨ next = 43 ∨ next = 60 then ipv6Skip b n (beAt b at_ 1) (at_ + 8 * (1 + beAt b (at_ + 1) 1))
    else if next = 44 then ipv6Skip b n (beAt b at_ 1) (at_ + 8)
    else (next, at_)

/-- The protocol of an IP packet's payload and where it lies. -/
def ipPayload (b : List Byte) (l3 : Nat) : Option (Nat × Nat) :=
  (ipAt b l3).map (fun x => if x.1 then ipv6Skip b 8 x.2.2 (l3 + 40) else (x.2.2, l3 + x.2.1))

/-- Where an IP packet ends as its header gives it, and no later than the FCS position. -/
def ipEnd (b : List Byte) (l3 fcs : Nat) : Nat :=
  match ipAt b l3 with
  | some (false, _, _) => min fcs (l3 + beAt b (l3 + 2) 2)
  | some (true, _, _) => min fcs (l3 + 40 + beAt b (l3 + 4) 2)
  | none => fcs

/-- The IP header at an offset with its protocol and its length fields rewritten for a packet that ends at `fcs`, and its
IPv4 header checksum recomputed. -/
def ipFix (b : List Byte) (l3 fcs proto : Nat) : List Byte :=
  match ipAt b l3 with
  | some (false, hl, _) =>
    let b1 := overlay (overlay (overlay b (l3 + 9) [BitVec.ofNat 8 proto]) (l3 + 2) (beBytes 2 (fcs - l3))) (l3 + 10) [0, 0]
    overlay b1 (l3 + 10) (beBytes 2 (inetSum 0 (sub b1 l3 hl)))
  | some (true, _, _) => overlay (overlay b (l3 + 6) [BitVec.ofNat 8 proto]) (l3 + 4) (beBytes 2 (fcs - l3 - 40))
  | none => b

/-- The sum of the pseudo-header of the IP header at an offset for a TCP segment of `n` bytes. -/
def pseudoSum (b : List Byte) (l3 n : Nat) : Nat :=
  match ipAt b l3 with
  | some (false, _, _) => sum16 (sub b (l3 + 12) 8) + 6 + n
  | some (true, _, _) => sum16 (sub b (l3 + 8) 32) + 6 + n % 65536 + n / 65536
  | none => 6 + n

/-- The TCP checksum of the segment from `l4` to `fcs` recomputed. -/
def tcpFix (b : List Byte) (l3 l4 fcs : Nat) : List Byte :=
  let b1 := overlay b (l4 + 16) [0, 0]
  overlay b1 (l4 + 16) (beBytes 2 (inetSum (pseudoSum b l3 (fcs - l4)) (sub b1 l4 (fcs - l4))))

/-- The TCP checksum of a segment is good. -/
def tcpGood (b : List Byte) (l3 l4 fcs : Nat) : Bool :=
  fold16 (pseudoSum b l3 (fcs - l4) + sum16 (sub b l4 (fcs - l4))) == 65535

/-- A ticket as a unit returns it (02 R76; 06 R216), before its new cells are known. -/
def backTicket (t : Ticket) (ingress : Nat) : Ticket :=
  (((((((t.put T.INGRESS ingress).put T.RECIRC (t.get T.RECIRC + 1)).put T.WIN_DELTA 0).put T.EDITS 0).put T.PUSH_BYTES
    0).put T.POP_BYTES 0).put T.DEEP 0).put T.ERR 0

/-- A frame returned on ingress 18 or 19 in cells granted to it; none while too few are granted (R76, R234, R292). With
REPARSE its ticket is created like any other; without, it takes NEXT as its destination, the next SEQ of the ingress and
its slot's current epoch, and enters the Defile. -/
def Dev.returnFrame (d : Dev) (ingress : Nat) (u : UnitFrame) : Option Dev :=
  let t := backTicket u.tk ingress
  match d.placeFrame ingress (t.get T.CLASS) u.bytes (fun f => { f with
      origin := u.origin, tx := u.tx, errored := u.errored, back := some t }) with
  | none => none
  | some d1 =>
    if t.flag T.REPARSE then some d1
    else
      match d1.basin.frames.getLast? with
      | none => some d1
      | some f =>
        let seq := d1.dealSeq ingress
        let t1 := newTicket f
        let t2 := (((t1.put T.DEST_TYPE (t1.get T.NEXT_TYPE)).put T.DEST (t1.get T.NEXT)).put T.SEQ seq).put T.EPOCH
          (d1.get R.GLEN_SLOT_EPOCH 0 (t1.get T.SLOT))
        let d2 := (d1.modFrame f.head (fun f => { f with stage := .ticketed, tk := t2 })).put R.DEFILE_ING_DEAL_SEQ (seq + 1) 0 ingress
        some (d2.intoDefile { tk := t2, win := f.bytes.take 256 })

/-! ### The order of the units (06 R234; 12 R438; 13 R466) -/

/-- The frames that the unit of an egress has read, and the results it has to return. -/
def Dev.unitIn (d : Dev) (e : Nat) : List UnitFrame := if e = 18 then d.units.cryptoIn else d.units.storeIn
def Dev.unitOut (d : Dev) (e : Nat) : List UnitFrame := if e = 18 then d.units.cryptoOut else d.units.storeOut
def Dev.setUnitIn (d : Dev) (e : Nat) (l : List UnitFrame) : Dev :=
  { d with units := if e = 18 then { d.units with cryptoIn := l } else { d.units with storeIn := l } }
def Dev.setUnitOut (d : Dev) (e : Nat) (l : List UnitFrame) : Dev :=
  { d with units := if e = 18 then { d.units with cryptoOut := l } else { d.units with storeOut := l } }

/-- The record a ticket names in a unit: its security association or its connection. -/
def unitRecord (e : Nat) (t : Ticket) : Nat := t.get T.DEST % (if e = 18 then 2 ^ 20 else 2 ^ 17)

/-- A frame that admission gave the unit before another, of those whose ticket satisfies `same`, is in the Basin or waits in
the unit. -/
def Dev.unitAhead (d : Dev) (e order : Nat) (same : Ticket → Bool) : Bool :=
  (d.unitIn e).any (fun x => decide (x.order < order) && same x.tk) ||
    d.basin.frames.any (fun f => f.egress == e && (f.stage == .queued || f.stage == .egress) && decide (f.order < order) &&
      same f.tk)

/-- A frame has started: none of its record that admission gave before it is left (12 R438). -/
def Dev.unitStarted (d : Dev) (e : Nat) (u : UnitFrame) : Bool :=
  !d.unitAhead e u.order (fun t => unitRecord e t == unitRecord e u.tk)

/-- The frame a unit completes next: the first read of those that have started. -/
def Dev.nextUnit (d : Dev) (e : Nat) : Option UnitFrame := (d.unitIn e).find? (d.unitStarted e)

/-- The result a unit returns next: none that admission gave before it is left (06 R234). -/
def Dev.nextResult (d : Dev) (e : Nat) : Option UnitFrame :=
  (d.unitOut e).find? (fun u => !(d.unitOut e).any (fun x => decide (x.order < u.order)) && !d.unitAhead e u.order (fun _ => true))

/-- The words of a record of a unit. -/
def unitKeys (e n : Nat) : List Key :=
  if e = 18 then (List.range 32).map (fun w => ⟨.SA, n, w⟩) else (List.range 16).map (fun w => ⟨.CONN, n, w⟩)

/-- A record of a unit as it stands. -/
def Dev.recordNow (d : Dev) (e n : Nat) : UnitRecord :=
  { words := (unitKeys e n).map d.word
    key := if e = 18 then assoc d.units.keys n else none
    bad := if e = 18 then d.units.badSa.contains n else d.units.badConn.contains n }

/-- A record of a unit put in place. -/
def Dev.putRecord (d : Dev) (e n : Nat) (r : UnitRecord) : Dev :=
  let d1 := d.each ((unitKeys e n).zip r.words) (fun d x => d.putWord x.1 x.2)
  let bad := fun (l : List Nat) => l.filter (fun x => x != n) ++ (if r.bad then [n] else [])
  if e = 18 then
    { d1 with units := { d1.units with
        badSa := bad d1.units.badSa
        keys := match r.key with
          | some k => assocSet d1.units.keys n k
          | none => assocDel d1.units.keys n } }
  else { d1 with units := { d1.units with badConn := bad d1.units.badConn } }

/-- A record of a unit is written: the frame that has started under it keeps what it was (12 R438; 13 R466). -/
def Dev.recordWritten (d : Dev) (e n : Nat) : Dev :=
  d.setUnitIn e ((d.unitIn e).map (fun u =>
    if unitRecord e u.tk = n ∧ u.old = none ∧ d.unitStarted e u then { u with old := some (d.recordNow e n) } else u))

/-- The device in which a frame of a unit completes: its record is what the frame started under. -/
def Dev.underRecord (d : Dev) (e : Nat) (u : UnitFrame) : Dev :=
  match u.old with
  | none => d
  | some r => d.putRecord e (unitRecord e u.tk) r

/-- A frame of a unit has completed: where its record was written since it started, what was written stands. -/
def Dev.afterRecord (d : Dev) (e : Nat) (u : UnitFrame) (r : UnitRecord) : Dev :=
  if u.old.isNone then d else d.putRecord e (unitRecord e u.tk) r

/-- A frame a unit drops: what awaits its departure is told (10 R372). -/
def Dev.unitGone (d : Dev) (egress : Nat) (u : UnitFrame) : Dev :=
  d.noteTx { head := 0, cells := [], bytes := [], ingress := 0, cls0 := 0, egress := egress, tx := u.tx } none

end Sys2Proof.Machine
end

