-- ==== Sys2Proof/Machine/Crypto.lean ====
section
/-! DEFINITION. The crypto unit: keys, the judgement of frames, ESP, MACsec and TLS, the replay window and the SA event
queue (spec/12_crypto.md R425 to R442). -/

namespace Sys2Proof.Machine

/-! ### Keys (R429, R430) -/

/-- Key bytes an algorithm takes. -/
def keyLen (alg : Nat) : Nat := if alg = 0 then 16 else 32

/-- The SA event queue's registers (R441). -/
def Dev.showSaEvt (d : Dev) : Dev :=
  let h := d.units.events.head?.getD (0, 0)
  (((d.put R.CRYPTO_SA_EVT_VALID (bit (!d.units.events.isEmpty))).put R.CRYPTO_SA_EVT_KIND h.1).put R.CRYPTO_SA_EVT_SA
    h.2).put R.CRYPTO_SA_EVT_STAT_DEPTH d.units.events.length

/-- A condition of an SA queued: 0 SOFT_LIMIT, 1 EXHAUSTED, 2 RESYNC_NEEDED (R439). -/
def Dev.saEvent (d : Dev) (kind sa : Nat) : Dev :=
  if 256 ≤ d.units.events.length then (d.count R.CRYPTO_SA_EVT_STAT_LOST 1).raiseBit R.CRYPTO_EVENTS 2
  else
    let d1 := if d.units.events.isEmpty then d.raiseBit R.CRYPTO_EVENTS 0 else d
    ({ d1 with units := { d1.units with events := d1.units.events ++ [(kind, sa)] } }).showSaEvt

/-- The readback of CRYPTO.CMD. -/
def Dev.cryptoStatus (d : Dev) (code sa st : Nat) : Dev :=
  ((d.put R.CRYPTO_CMD_CODE code).put R.CRYPTO_CMD_ARG_SA sa).put R.CRYPTO_CMD_STATUS st

/-- A command of CRYPTO.CMD. -/
def Dev.cryptoCommand (d : Dev) (path : Path) (code sa : Nat) (f : Dev → Dev × Nat) : Dev :=
  d.command path pgCRYPTO 0x40 (fldKey R.CRYPTO_CMD_CODE 0 0) (fun d => d.cryptoStatus code sa 1) (fun d =>
    let r := f d
    r.1.cryptoStatus code sa r.2)

/-- The fingerprint of an SA's key in its record. -/
def Dev.putPrint (d : Dev) (sa : Nat) (fp : List Byte) : Dev :=
  (d.put R.SA_KEY_FP (leNat (fp.take 8)) sa 0).put R.SA_KEY_FP (leNat ((fp.drop 8).take 8)) sa 1

/-- LOAD_KEY (R429, R441): the staged bytes become an SA's key. -/
def execLoadKey (path : Path) (sa : Nat) (s : State) : Host.Outcome State Fault Refusal :=
  s.act (fun d => d.cryptoCommand path 1 (sa % 2 ^ 20) (fun d =>
    let a := sa % 2 ^ 20
    let alg := d.get R.SA_W0_ALG a
    if !algAllowed (d.get R.SA_W0_PROTO a) alg then (d, 3)
    else
      let d := d.recordWritten 18 a
      let key := (d.regs.stage).take (keyLen alg)
      let d1 : Dev := { d with units := { d.units with keys := assocSet d.units.keys a (alg, key) } }
      ((((d1.put R.SA_W0_KEY_LOADED 1 a).putPrint a (keyPrint alg key)).resetWords
        ((List.range 4).map (fun k => ⟨.CRYPTO, 0, 9 + k⟩))), 0)))

/-- CLEAR_KEY (R429): an SA's key slot is zeroed. -/
def execClearKey (path : Path) (sa : Nat) (s : State) : Host.Outcome State Fault Refusal :=
  s.act (fun d => d.cryptoCommand path 2 (sa % 2 ^ 20) (fun d =>
    let a := sa % 2 ^ 20
    let d := d.recordWritten 18 a
    let d1 : Dev := { d with units := { d.units with keys := assocDel d.units.keys a } }
    (((d1.put R.SA_W0_KEY_LOADED 0 a).put R.SA_KEY_FP 0 a 0).put R.SA_KEY_FP 0 a 1, 0)))

/-- POP_EVT (R439): the head of the SA event queue is removed. -/
def execPopEvt (path : Path) (s : State) : Host.Outcome State Fault Refusal :=
  s.act (fun d => d.cryptoCommand path 3 0 (fun d =>
    if d.units.events.isEmpty then (d, 5)
    else (({ d with units := { d.units with events := d.units.events.tail } }).showSaEvt, 0)))

/-! ### Sequence numbers and the replay window (R435 to R437) -/

/-- The inbound sequence number a 32-bit wire value stands for (R436). -/
def inferSeq (t w : Nat) : Nat :=
  let tl := t % 2 ^ 32
  let th := t / 2 ^ 32
  let hi :=
    if 1023 ≤ tl then (if tl - 1023 ≤ w then th else th + 1)
    else if (tl + 2 ^ 32 - 1023) % 2 ^ 32 ≤ w then th + 2 ^ 64 - 1 else th
  (hi % 2 ^ 32) * 2 ^ 32 + w

/-- The replay window of an SA as one number. -/
def Dev.window (d : Dev) (sa : Nat) : Nat := ((List.range 16).map (fun i => d.get R.SA_WINDOW sa i * 2 ^ (64 * i))).sum
def Dev.setWindow (d : Dev) (sa n : Nat) : Dev :=
  d.each (List.range 16) (fun d i => d.put R.SA_WINDOW (n / 2 ^ (64 * i)) sa i)

/-- replay_check (R437). -/
def Dev.replayOk (d : Dev) (sa s : Nat) : Bool :=
  let t := d.get R.SA_SEQ sa
  let size := d.get R.SA_W0_WIN_SIZE sa
  s != 0 && (size == 0 || decide (t < s) || (decide (t - s < size) && !(d.window sa).testBit (t - s)))

/-- replay_update (R437). -/
def Dev.replayUpdate (d : Dev) (sa s : Nat) : Dev :=
  let t := d.get R.SA_SEQ sa
  if t < s then
    let up := if 1024 ≤ s - t then 0 else d.window sa * 2 ^ (s - t) % 2 ^ 1024
    (d.setWindow sa (up ||| 1)).put R.SA_SEQ s sa
  else if 1024 ≤ t - s then d
  else d.setWindow sa (d.window sa ||| 2 ^ (t - s))

/-- The number an outbound frame uses, and the last usable one (R435). -/
def Dev.outSeq (d : Dev) (sa : Nat) : Nat := max 1 (d.get R.SA_SEQ sa)
def Dev.lastSeq (d : Dev) (sa : Nat) : Nat :=
  if d.get R.SA_W0_PROTO sa = 0 ∧ !d.flag R.SA_W0_ESN sa then 2 ^ 32 - 1 else 2 ^ 64 - 1

/-- A number used by an outbound frame (R435, R438). -/
def Dev.useSeq (d : Dev) (sa n : Nat) : Dev :=
  let soft := d.get R.SA_SEQ_SOFT sa
  let d1 := if soft ≠ 0 ∧ soft ≤ n ∧ !d.flag R.SA_W0_SOFT_HIT sa then (d.put R.SA_W0_SOFT_HIT 1 sa).saEvent 0 sa else d
  if n = d.lastSeq sa then ((d1.put R.SA_SEQ n sa).put R.SA_W0_EXHAUSTED 1 sa).saEvent 1 sa
  else d1.put R.SA_SEQ (n + 1) sa

/-! ### Salts and keys (R427, R432) -/

/-- Two byte strings of one length combined. -/
def xorBytes (a b : List Byte) : List Byte := List.zipWith (fun x y => x ^^^ y) a b

/-- The 12 bytes of SALT. -/
def Dev.salt (d : Dev) (sa : Nat) : List Byte := leBytes 8 (d.get R.SA_SALT_LO sa) ++ leBytes 4 (d.get R.SA_SALT_HI sa)

/-- ALG and key of an SA. -/
def Dev.saKey (d : Dev) (sa : Nat) : Nat × List Byte := (assoc d.units.keys sa).getD (0, [])

/-! ### Judging a frame (R431) -/

/-- Drop codes (R431). -/
def dcNoSa : Nat := 1
def dcOwner : Nat := 2
def dcLayout : Nat := 3
def dcMismatch : Nat := 4
def dcReplay : Nat := 5
def dcAuth : Nat := 6
def dcExhausted : Nat := 7
def dcTooLong : Nat := 8
def dcErrored : Nat := 9
def dcPad : Nat := 10
def dcMode : Nat := 11

/-- What the unit makes of a frame: a drop, or the frame and ticket to return, with the device as changed. -/
structure Judged where
  dev : Dev
  drop : Option Nat := none
  bytes : List Byte := []
  tk : Ticket := { }

/-- A drop. -/
def dropWith (d : Dev) (code : Nat) : Judged := { dev := d, drop := some code }

/-- A REPLAY or AUTH_FAIL drop, counted on the SA (R437). -/
def dropReplay (d : Dev) (sa : Nat) : Judged := dropWith (d.count R.SA_W12_REPLAY_DROPS 1 sa) dcReplay
def dropAuth (d : Dev) (sa : Nat) : Judged := dropWith (d.count R.SA_W12_AUTH_FAILS 1 sa) dcAuth

/-- ESP's layout (R432): an IP header at L3_OFF that ends at L4_OFF. -/
def espLayout (b : List Byte) (l3 l4 fcs : Nat) : Option Nat :=
  match ipAt b l3 with
  | some (_, hl, proto) => if l4 = l3 + hl ∧ l4 ≤ fcs ∧ 20 ≤ hl then some proto else none
  | none => none

/-- ESP outbound (R431, R432). -/
def Dev.espOut (d : Dev) (sa : Nat) (u : UnitFrame) : Judged :=
  let b := u.bytes
  let fcs := b.length - 4
  let l3 := u.tk.get T.L3_OFF
  let l4 := u.tk.get T.L4_OFF
  match espLayout b l3 l4 fcs with
  | none => dropWith d dcLayout
  | some proto =>
    let n := d.outSeq sa
    let pad := (4 - (fcs - l4 + 2) % 4) % 4
    let grow := 16 + pad + 2 + 16
    if d.flag R.SA_W0_EXHAUSTED sa ∨ d.lastSeq sa < n then dropWith d dcExhausted
    else if 16383 < b.length + grow then dropWith d dcTooLong
    else if d.flag R.SA_W0_MODE sa ∧ proto ≠ 4 ∧ proto ≠ 41 then dropWith d dcMode
    else
      let k := d.saKey sa
      let spi := beBytes 4 (d.get R.SA_W1_SPI sa)
      let iv := beBytes 8 n
      let nonce := (d.salt sa).take 4 ++ iv
      let aad := if d.flag R.SA_W0_ESN sa then spi ++ iv else spi ++ beBytes 4 n
      let plain := sub b l4 (fcs - l4) ++ (List.range pad).map (fun i => BitVec.ofNat 8 (i + 1)) ++
        [BitVec.ofNat 8 pad, BitVec.ofNat 8 proto]
      let ct := aeadXor k.1 k.2 nonce plain
      let out := b.take l4 ++ spi ++ beBytes 4 n ++ iv ++ ct ++ aeadTag16 k.1 k.2 nonce aad ct ++ b.drop fcs
      let inner := u.tk.get T.INNER_OFF
      { dev := d.useSeq sa n, bytes := ipFix out l3 (out.length - 4) 50
        tk := if l4 ≤ inner then u.tk.put T.INNER_OFF (inner + 16) else u.tk }

/-- ESP inbound (R431, R432, R437). -/
def Dev.espIn (d : Dev) (sa : Nat) (u : UnitFrame) : Judged :=
  let b := u.bytes
  let fcs := b.length - 4
  let l3 := u.tk.get T.L3_OFF
  let l4 := u.tk.get T.L4_OFF
  match espLayout b l3 l4 fcs with
  | none => dropWith d dcLayout
  | some proto =>
    let w := beAt b (l4 + 4) 4
    let s := if d.flag R.SA_W0_ESN sa then inferSeq (d.get R.SA_SEQ sa) w else w
    if proto ≠ 50 ∨ fcs < l4 + 32 then dropWith d dcLayout
    else if beAt b l4 4 ≠ d.get R.SA_W1_SPI sa then dropWith d dcMismatch
    else if !d.replayOk sa s then dropReplay d sa
    else
      let k := d.saKey sa
      let nonce := (d.salt sa).take 4 ++ sub b (l4 + 8) 8
      let spi := sub b l4 4
      let aad := if d.flag R.SA_W0_ESN sa then spi ++ beBytes 8 s else spi ++ beBytes 4 s
      let n := fcs - l4 - 32
      let ct := sub b (l4 + 16) n
      let plain := aeadXor k.1 k.2 nonce ct
      let next := if n = 0 then 0 else beAt plain (n - 1) 1
      let pad := if n < 2 then 0 else beAt plain (n - 2) 1
      if d.flag R.SA_W0_MODE sa ∧ next ≠ 4 ∧ next ≠ 41 then dropWith d dcMode
      else if aeadTag16 k.1 k.2 nonce aad ct ≠ sub b (fcs - 16) 16 then dropAuth d sa
      else if n < pad + 2 ∨ sub plain (n - 2 - pad) pad ≠ (List.range pad).map (fun i => BitVec.ofNat 8 (i + 1)) then
        dropWith d dcPad
      else
        let out := b.take l4 ++ plain.take (n - 2 - pad) ++ b.drop fcs
        let inner := u.tk.get T.INNER_OFF
        { dev := d.replayUpdate sa s, bytes := ipFix out l3 (out.length - 4) next
          tk := if l4 ≤ inner then u.tk.put T.INNER_OFF (inner - 16) else u.tk }

/-- Offsets above 12 moved by the length of a SecTAG (R432). -/
def macsecOffsets (t : Ticket) (move : Nat → Nat) : Ticket :=
  [T.L3_OFF, T.L4_OFF, T.INNER_OFF].foldl (fun t f => if 12 < t.get f then t.put f (move (t.get f)) else t) t

/-- The IV of MACsec: SSCI and PN, combined with the salt (R432). -/
def Dev.macsecIv (d : Dev) (sa pn : Nat) : List Byte := xorBytes (beBytes 4 (d.get R.SA_W1_SPI sa) ++ beBytes 8 pn) (d.salt sa)

/-- The SCI of an SA, in wire order. -/
def Dev.sci (d : Dev) (sa : Nat) : List Byte := leBytes 8 (d.get R.SA_SCI sa)

/-- MACsec outbound (R431, R432). -/
def Dev.macsecOut (d : Dev) (sa : Nat) (u : UnitFrame) : Judged :=
  let b := u.bytes
  let fcs := b.length - 4
  let n := d.outSeq sa
  if b.length < 64 then dropWith d dcLayout
  else if d.flag R.SA_W0_EXHAUSTED sa then dropWith d dcExhausted
  else if 16383 < b.length + 32 then dropWith d dcTooLong
  else
    let k := d.saKey sa
    let data := fcs - 12
    let tag := beBytes 2 0x88E5 ++ [BitVec.ofNat 8 (0x2C + d.get R.SA_W1_AN sa), BitVec.ofNat 8 (if data < 48 then data else 0)] ++
      beBytes 4 n ++ d.sci sa
    let iv := d.macsecIv sa n
    let ct := aeadXor k.1 k.2 iv (sub b 12 data)
    { dev := d.useSeq sa n
      bytes := b.take 12 ++ tag ++ ct ++ aeadTag16 k.1 k.2 iv (b.take 12 ++ tag) ct ++ b.drop fcs
      tk := macsecOffsets u.tk (fun n => n + 16) }

/-- MACsec inbound (R431, R432, R437). -/
def Dev.macsecIn (d : Dev) (sa : Nat) (u : UnitFrame) : Judged :=
  let b := u.bytes
  let fcs := b.length - 4
  let tci := beAt b 14 1
  let sc := tci.testBit 5
  let tl := if sc then 16 else 8
  if beAt b 12 2 ≠ 0x88E5 ∨ tci / 4 % 4 ≠ 3 ∨ fcs < 12 + tl + 16 then dropWith d dcLayout
  else if (sc ∧ sub b 20 8 ≠ d.sci sa) ∨ tci % 4 ≠ d.get R.SA_W1_AN sa then dropWith d dcMismatch
  else
    let s := inferSeq (d.get R.SA_SEQ sa) (beAt b 16 4)
    if !d.replayOk sa s then dropReplay d sa
    else
      let k := d.saKey sa
      let iv := d.macsecIv sa s
      let ct := sub b (12 + tl) (fcs - 16 - 12 - tl)
      if aeadTag16 k.1 k.2 iv (b.take (12 + tl)) ct ≠ sub b (fcs - 16) 16 then dropAuth d sa
      else
        { dev := d.replayUpdate sa s, bytes := b.take 12 ++ aeadXor k.1 k.2 iv ct ++ b.drop fcs
          tk := macsecOffsets u.tk (fun n => n - tl) }

/-- A TCP header lies at L4_OFF: it is the payload of the IP packet at L3_OFF (R432). -/
def tcpThere (b : List Byte) (l3 l4 fcs : Nat) : Bool := ipPayload b l3 == some (6, l4) && decide (l4 + 20 ≤ fcs)

/-- A TCP header at L4_OFF, and where its payload starts (R432). -/
def tcpAt (b : List Byte) (l3 l4 fcs : Nat) : Option Nat :=
  let off := beAt b (l4 + 12) 1 / 16
  if tcpThere b l3 l4 fcs ∧ 5 ≤ off ∧ l4 + 4 * off ≤ fcs then some (l4 + 4 * off) else none

/-- The layout of TLS: one record fills the TCP payload (R432); the start of the payload and the record's length. -/
def tlsLayout (u : UnitFrame) : Option (Nat × Nat) :=
  let b := u.bytes
  let fcs := b.length - 4
  match tcpAt b (u.tk.get T.L3_OFF) (u.tk.get T.L4_OFF) fcs with
  | none => none
  | some p =>
    let lr := beAt b (p + 3) 2
    if u.tk.get T.INNER_OFF = p ∧ beAt b p 1 = 0x17 ∧ beAt b (p + 1) 2 = 0x0303 ∧ 17 ≤ lr ∧ p + 5 + lr = fcs then some (p, lr)
    else none

/-- The nonce of a TLS record (R433). -/
def Dev.tlsNonce (d : Dev) (sa : Nat) (seq : List Byte) : List Byte := xorBytes (d.salt sa) ([0, 0, 0, 0] ++ seq)

/-- TLS outbound (R433). -/
def Dev.tlsOut (d : Dev) (sa : Nat) (u : UnitFrame) : Judged :=
  match tlsLayout u with
  | none => dropWith d dcLayout
  | some (p, lr) =>
    let b := u.bytes
    let fcs := b.length - 4
    if 16383 < b.length then dropWith d dcTooLong
    else
      let k := d.saKey sa
      let nonce := d.tlsNonce sa (sub b (fcs - 16) 8)
      let ct := aeadXor k.1 k.2 nonce (sub b (p + 5) (lr - 16))
      let out := overlay b (p + 5) (ct ++ aeadTag16 k.1 k.2 nonce (sub b p 5) ct)
      let l3 := u.tk.get T.L3_OFF
      { dev := d, bytes := tcpFix out l3 (u.tk.get T.L4_OFF) (ipEnd b l3 fcs), tk := u.tk }

/-- A TLS inbound frame passed unchanged (R434). -/
def passTls (d : Dev) (u : UnitFrame) : Judged := { dev := d.count R.CRYPTO_TLS_PASS 1, bytes := u.bytes, tk := u.tk }

/-- A TLS inbound frame that takes the SA out of step (R434). -/
def resyncTls (d : Dev) (sa : Nat) (u : UnitFrame) : Judged := passTls ((d.put R.SA_W0_RX_SYNC 0 sa).saEvent 2 sa) u

/-- TLS inbound (R434), and whether the frame was decrypted. -/
def Dev.tlsIn (d : Dev) (sa : Nat) (u : UnitFrame) : Judged × Bool :=
  let b := u.bytes
  let fcs := b.length - 4
  let l3 := u.tk.get T.L3_OFF
  let l4 := u.tk.get T.L4_OFF
  let want := d.get R.SA_RX_TCP_SEQ sa
  let seq := beAt b (l4 + 4) 4
  let tcp := tcpThere b l3 l4 fcs
  if !d.flag R.SA_W0_RX_SYNC sa then (passTls d u, false)
  else if tcp ∧ seq ≠ want ∧ (want + 2 ^ 32 - seq) % 2 ^ 32 < 2 ^ 31 then (passTls d u, false)
  else if tcp && !tcpGood b l3 l4 (ipEnd b l3 fcs) then (passTls d u, false)
  else
    match tlsLayout u with
    | none => (resyncTls d sa u, false)
    | some (p, lr) =>
      if seq ≠ want then (resyncTls d sa u, false)
      else
        let k := d.saKey sa
        let nonce := d.tlsNonce sa (beBytes 8 (d.get R.SA_SEQ sa))
        let ct := sub b (p + 5) (lr - 16)
        if aeadTag16 k.1 k.2 nonce (sub b p 5) ct ≠ sub b (fcs - 16) 16 then
          (resyncTls (d.count R.SA_W12_AUTH_FAILS 1 sa) sa u, false)
        else
          let out := overlay (overlay b (p + 5) (aeadXor k.1 k.2 nonce ct)) p [0]
          ({ dev := (d.put R.SA_RX_TCP_SEQ (want + (fcs - p)) sa).put R.SA_SEQ (d.get R.SA_SEQ sa + 1) sa
             bytes := tcpFix out l3 l4 (ipEnd b l3 fcs), tk := u.tk }, true)

/-- A frame judged in the order of R431, and whether it completed on the SA. -/
def Dev.judge (d : Dev) (sa : Nat) (u : UnitFrame) : Judged × Bool :=
  let proto := d.get R.SA_W0_PROTO sa
  let inbound := d.flag R.SA_W0_DIR sa
  if u.errored then (dropWith d dcErrored, false)
  else if !d.flag R.SA_W0_VALID sa || !d.flag R.SA_W0_KEY_LOADED sa || d.units.badSa.contains sa then (dropWith d dcNoSa, false)
  else if u.tk.get T.INSTANCE ≠ d.get R.SA_W0_INSTANCE sa then (dropWith d dcOwner, false)
  else if proto = 2 ∧ inbound then d.tlsIn sa u
  else
    let j := if proto = 2 then d.tlsOut sa u
      else if proto = 1 then (if inbound then d.macsecIn sa u else d.macsecOut sa u)
      else if inbound then d.espIn sa u else d.espOut sa u
    (j, j.drop.isNone)

/-- The unit fetches one more SA record from HBM in the running Notch: 0.8 G/s with two stacks, half with one (R440). -/
def Dev.fetchRoom (d : Dev) : Bool :=
  let fifths := 128 * d.variant.stacks
  decide (d.units.fetched < fifths * (d.dial.notch + 1) / 5 - fifths * d.dial.notch / 5)

/-- CRYPTO_PROCESS (R431 to R440; 15 R511): a frame that has started is judged under its SA, and encrypted, decrypted,
passed or dropped. `hit` says that an SA used before is still in the on-die cache, `ecc` that its record met an
uncorrectable error. -/
def execCryptoProcess (hit ecc : Bool) (s : State) : Host.Outcome State Fault Refusal :=
  s.live (fun d0 =>
    match d0.nextUnit 18 with
    | none => d0
    | some u =>
     let sa := unitRecord 18 u.tk
     let inCache : Bool := hit && d0.units.cached.contains sa
     if !inCache && !d0.fetchRoom then d0
     else
      let d1 := (d0.setUnitIn 18 ((d0.unitIn 18).erase u)).underRecord 18 u
      let d2 := (d1.count R.CRYPTO_OCTETS u.bytes.length).chargeCrypto (u.tk.get T.INSTANCE) u.bytes.length
      let d3 := if inCache then d2.count R.CRYPTO_SA_CACHE_HITS 1
        else ({ d2 with units := { d2.units with
            cached := sa :: d2.units.cached.filter (fun x => x != sa), fetched := d2.units.fetched + 1 } }).count
          R.CRYPTO_SA_CACHE_MISSES 1
      let d4 := if ecc && !d3.units.badSa.contains sa then
          (({ d3 with units := { d3.units with badSa := d3.units.badSa ++ [sa] } }).error pgCRYPTO 15 2 sa).objectFault ⟨.SA, sa, 0⟩
        else d3
      let r := d4.judge sa u
      let d6 :=
       match r.1.drop with
       | some code =>
        let d5 := ((((r.1.dev.count R.CRYPTO_DROPS 1 0 code).put R.CRYPTO_LAST_DROP_CODE code).put R.CRYPTO_LAST_DROP_SA
          sa).put R.CRYPTO_LAST_DROP_NOTCH d0.dial.notch).raiseBit R.CRYPTO_EVENTS 1
        d5.unitGone 18 u
       | none =>
        let d5 := if r.2 then (r.1.dev.count R.SA_FRAMES 1 sa).count R.SA_OCTETS r.1.bytes.length sa else r.1.dev
        { d5 with units := { d5.units with
            cryptoOut := d5.units.cryptoOut ++ [{ u with tk := r.1.tk, bytes := r.1.bytes, old := none }] } }
      d6.afterRecord 18 u (d0.recordNow 18 sa))

/-- CRYPTO_RETURN (02 R76; 06 R234): the result whose turn it is returns on ingress 18, when enough cells are granted to
it. -/
def execCryptoReturn (s : State) : Host.Outcome State Fault Refusal :=
  s.live (fun d =>
    match d.nextResult 18 with
    | none => d
    | some u =>
      match (d.setUnitOut 18 ((d.unitOut 18).erase u)).returnFrame 18 u with
      | none => d
      | some d1 => d1.count R.CRYPTO_FRAMES 1)

end Sys2Proof.Machine
end

