-- ==== Sys2Proof/Machine/Events.lean ====
section
/-! DEFINITION. The control profile's instructions and the Event Concentrator: requests, presentation, acknowledge,
completion and host delivery (spec/14_control_events.md R471 to R492; 05 R205). -/

namespace Sys2Proof.Machine

/-! ### Control-profile instructions (05 R205; 14 R472 to R476) -/

/-- An instruction of the control profile on core `c`. -/
def Dev.issueCtrl (d : Dev) (at_ : Issue) (w : Word) (ok : Bool) (f : Dev → Nat → Thread → Effect) : Dev :=
  d.issue at_ w ok (fun d id t => match id with | .ctrl c => f d c t | .glen _ _ _ => .inl d)

/-- CSRR (05 R205; 14 R475): rd receives a control register. -/
def execCsrr (at_ : Issue) (rd imm : Nat) (s : State) : Host.Outcome State Fault Refusal :=
  s.act (fun d => d.issueCtrl at_ (insWord 0xC0 rd 0 0 0 0 imm) (d.csr at_.thread.coreNo imm).isSome (fun d c t =>
    .inl (d.setThread (.ctrl c) (t.setReg rd (BitVec.ofNat 64 ((d.csr c imm).getD 0))))))

/-- A control register receives a value: SWINT and MREQ make requests (R475). -/
def Dev.csrWritten (d : Dev) (c n : Nat) (v : Word) : Dev :=
  if n = 0x00B then
    let src := v.toNat % 64
    ({ d with control := { d.control with soft := d.control.soft ++ [src] } }).modCtrl c (fun x => { x with
      swint := src, swintOpen := true })
  else if n = 0x00C then d.modCtrl c (fun x => { x with
    mreqNow := x.mreqNow ||| (v.toNat % 256 &&& (255 - x.mreq % 256)), mreq := x.mreq ||| v.toNat % 256 })
  else d.modCtrl c (fun x => x.csrWrite n v)

/-- A write of control register `n` from register `ra`. -/
def Dev.csrw (d : Dev) (at_ : Issue) (ra n : Nat) : Dev :=
  d.issueCtrl at_ (insWord 0xC1 0 ra 0 0 0 n) (d.csr at_.thread.coreNo n).isSome (fun d c t => .inl (d.csrWritten c n (t.reg ra)))

/-- CSRW (14 R475): a control register receives ra. -/
def execCsrw (at_ : Issue) (ra imm : Nat) (s : State) : Host.Outcome State Fault Refusal :=
  s.act (fun d => d.csrw at_ ra imm)
/-- SWINT (14 R475): a CSRW to SWINT requests software source 0 to 63. -/
def execSwint (at_ : Issue) (ra : Nat) (s : State) : Host.Outcome State Fault Refusal :=
  s.act (fun d => d.csrw at_ ra 0x00B)
/-- MREQ (14 R475): a CSRW to MREQ makes one request on each Block Mover line 0 to 7 that ra names. -/
def execMreq (at_ : Issue) (ra : Nat) (s : State) : Host.Outcome State Fault Refusal :=
  s.act (fun d => d.csrw at_ ra 0x00C)

/-- ERET (14 R474, R486): the top entry is popped; an exception's is returned from, past a TRAP, and an interrupt's vector
is completed and its priority restored. -/
def execEret (at_ : Issue) (s : State) : Host.Outcome State Fault Refusal :=
  s.act (fun d => d.issueCtrl at_ (insWord 0xC2) true (fun d c t =>
    match (d.ctrl c).stack with
    | [] => .inl d
    | e :: rest =>
      let d1 := d.modCtrl c (fun x => { x with stack := rest })
      if e.exc then
        .inl ((d1.modCtrl c (fun x => { x with exc := false })).setThread (.ctrl c)
          { t with pc := if e.trap then e.pc + 8 else e.pc })
      else
        let d2 := (d1.modCtrl c (fun x => { x with runPrio := e.prio })).setThread (.ctrl c) { t with pc := e.pc }
        .inl (if e.vec = 2047 then d2 else d2.complete e.vec)))

/-- WFI (14 R472): the core waits for a presentation. -/
def execWfi (at_ : Issue) (s : State) : Host.Outcome State Fault Refusal :=
  s.act (fun d => d.issueCtrl at_ (insWord 0xC3) true (fun d c _ => .inl (d.modCtrl c (fun x => { x with wfi := true }))))

/-- The fault of an access to the internal address space: its region first, then its alignment (14 R473). -/
def Dev.internalFault (d : Dev) (a n : Nat) : Option (Nat × Nat) :=
  if !d.internalOk a n then some (fScratch, a) else if a % n ≠ 0 then some (fAlign, a) else none

/-- MLD (14 R476): a load from the internal address space. A register page is read in 8 or 4 bytes, as any read of it. -/
def execMld (at_ : Issue) (rd ra mod imm : Nat) (s : State) : Host.Outcome State Fault Refusal :=
  s.act (fun d => d.issueCtrl at_ (insWord 0xC4 rd ra 0 mod 0 imm) (decide (mod % 16 < 4)) (fun d c t =>
    let a := t.addr ra imm
    let n := accessSize (mod % 16)
    match d.internalFault a n with
    | some x => .inr x
    | none =>
      if inPages a n then
        (if 4 ≤ n then
          let r := d.busRead .firmware (a / 4096) (a % 4096) (n == 8)
          .inl (r.2.modThread (.ctrl c) (fun t => t.setReg rd r.1))
        else .inl (d.modThread (.ctrl c) (fun t => t.setReg rd 0)))
      else .inl (d.modThread (.ctrl c) (fun t => t.setReg rd (BitVec.ofNat 64 (leNat (d.internalBytes a n)))))))

/-- MST (14 R476): a store to the internal address space; on a register page it is a write with the device role. -/
def execMst (at_ : Issue) (ra rb mod imm : Nat) (s : State) : Host.Outcome State Fault Refusal :=
  s.act (fun d => d.issueCtrl at_ (insWord 0xC5 0 ra rb mod 0 imm) (decide (mod % 16 < 4)) (fun d _ t =>
    let a := t.addr ra imm
    let n := accessSize (mod % 16)
    match d.internalFault a n with
    | some x => .inr x
    | none => .inl (d.internalStore a (leBytes n (t.reg rb).toNat))))

/-- FENCE (05 R205): every earlier MLD and MST has completed in this model. -/
def execFence (at_ : Issue) (s : State) : Host.Outcome State Fault Refusal :=
  s.act (fun d => d.issueCtrl at_ (insWord 0xC6) true (fun d _ _ => .inl d))

/-! ### Requests (R475, R477, R491) -/

/-- CORE_TIMER (R477): in the Notch whose count equals a core's TIMER, source 64 + c is requested. -/
def execCoreTimer (core : Nat) (s : State) : Host.Outcome State Fault Refusal :=
  s.act (fun d =>
    let t := (d.ctrl core).timer
    if core < 16 ∧ t ≠ 0 ∧ t = d.dial.notch then d.request (64 + core) else d)

/-- SWSET (R491): the bits written 1 request software sources. -/
def execSwset (path : Path) (data : Word) (s : State) : Host.Outcome State Fault Refusal :=
  s.act (fun d => d.guarded path pgEVT 0x40 (fldKey R.EVT_SWSET 0 0) (fun d =>
    (d.put R.EVT_SWSET (d.get R.EVT_SWSET ||| data.toNat), true)))

/-- Requests of software sources made in the Notch before set PEND (R475, R491). -/
def Dev.softRequests (d : Dev) : Dev :=
  let w := d.get R.EVT_SWSET
  let d1 := d.each ((List.range 64).filter (fun s => w.testBit s || d.control.soft.contains s)) Dev.request
  ({ d1 with control := { d1.control with
      soft := []
      cores := d1.control.cores.map (fun (x : Nat × CtrlCore) => (x.1, { x.2 with swintOpen := false })) } } : Dev).put R.EVT_SWSET 0

/-- NC_SI_RECEIVE (R477): receive data is present over RBT, or no longer. -/
def execNcSiReceive (present : Bool) (s : State) : Host.Outcome State Fault Refusal :=
  s.act (fun d => { d with control := { d.control with
    levels := d.control.levels.filter (fun x => x != 196) ++ (if present then [196] else []) } })

/-! ### Levels and priorities (R478, R479) -/

/-- The fields of a page kind's event register. -/
def eventFields (sp : Space) : List Fld :=
  (fieldsOf sp).filter (fun f => f.acc == .w1c && f != R.MOVER_DONE_MAP && f != R.MOVER_ERR_MAP)

/-- A bit of a page's EVENTS register stands and is not masked; MOVER.DONE_MAP and MOVER.ERR_MAP are no event registers
(R478; 18 R586). -/
def Dev.pageEvents (d : Dev) (page : Nat) : Bool :=
  match pageInfo d.variant page with
  | some i =>
    (match i.space with
     | some sp =>
       i.present && (eventFields sp).any (fun f =>
         let bits := d.get f i.unit * 2 ^ f.lo
         bits != bits &&& d.get R.HDR_EVT_MASK_MASK page)
     | none => false)
  | none => false

/-- Pages with an event bit set in the running Notch that the mask in force at its start lets through and the mask as written in
it does not: their sources go high all the same (18 R605). -/
def Dev.risenPages (d : Dev) : List Nat :=
  (d.touched .HDR).filter (fun page =>
    decide (page < 256) && d.getStart R.HDR_EVT_MASK_MASK page != d.get R.HDR_EVT_MASK_MASK page &&
      match pageInfo d.variant page with
      | some i =>
        (match i.space with
         | some sp =>
           i.present && (eventFields sp).any (fun f =>
             let k := fldKey f i.unit 0
             let bits := ((((assoc d.acc.setNow k).getD 0) &&& d.word k).field f.lo f.w) * 2 ^ f.lo
             bits != bits &&& d.getStart R.HDR_EVT_MASK_MASK page)
         | none => false)
      | none => false)

/-- The pages of that kind noted as a Notch ends. -/
def Dev.noteRisen (d : Dev) : Dev := { d with control := { d.control with rose := d.risenPages } }

/-- An error of the page is not acknowledged. -/
def Dev.pageErr (d : Dev) (page : Nat) : Bool := d.flag R.HDR_ERR_FIRST_VALID page

/-- The event source of the INSTCTL page, which a bit of SUMMARY raises as it goes from 0 to 1 (11 R414). -/
def srcINSTCTL : Nat := 256 + pgINSTCTL

/-- That raise is over once its source is taken: acknowledged, or delivered to a host PF. -/
def Dev.raiseTaken (d : Dev) (src : Nat) : Dev :=
  if src = srcINSTCTL then
    { d with control := { d.control with levels := d.control.levels.filter (fun x => x != srcINSTCTL) } }
  else d

/-- Whether a level source is high (R477, R478; 11 R414). -/
def Dev.levelHigh (d : Dev) (src : Nat) : Bool :=
  if within 256 511 src then d.pageEvents (src - 256) || d.pageErr (src - 256) || d.control.rose.contains (src - 256) ||
    d.control.levels.contains src
  else d.control.levels.contains src

/-- The effective priority of a source (R478). -/
def Dev.effPrio (d : Dev) (src : Nat) : Nat :=
  let p := d.get R.SRC_W0_PRIO src
  if within 256 511 src && d.pageErr (src - 256) then
    max p (d.get R.EVT_SEV_PRIO 0 (d.get R.HDR_ERR_MORE_MAX_SEV (src - 256)))
  else p

/-- PEND of the level sources and every effective priority as they stand when a Notch starts, and the maps (R479, R491). -/
def Dev.showSources (d : Dev) : Dev :=
  let srcs := (d.touched .SRC ++ (List.range 256).map (fun k => 256 + k) ++ [192, 193, 194, 195, 196]).eraseDups
  let d1 := d.each srcs (fun d s =>
    let d1 := if d.flag R.SRC_W0_TRIGGER s then d else d.put R.SRC_W1_PEND (bit (d.levelHigh s)) s
    d1.put R.SRC_W1_EFF_PRIO (d1.effPrio s) s)
  let pend := srcs.filter (fun s => d1.flag R.SRC_W1_PEND s)
  let active := srcs.filter (fun s => d1.get R.SRC_W1_SERVICE s != 0)
  let map := fun (l : List Nat) (w : Nat) => ((l.filter (fun s => s / 64 == w)).map (fun s => 2 ^ (s % 64))).sum
  d1.each (List.range 32) (fun d w => (d.put R.EVT_PEND_MAP (map pend w) 0 w).put R.EVT_ACTIVE_MAP (map active w) 0 w)

/-- EVT.CORE[c] as the core stands (R491). -/
def Dev.showCores (d : Dev) : Dev :=
  d.each (List.range 16) (fun d c =>
    let x := d.ctrl c
    let d1 := (((d.put R.EVT_CORE_RUN_PRIO x.runPrio 0 c).put R.EVT_CORE_IE (bit x.ie) 0 c).put R.EVT_CORE_HALTED (bit x.halted)
      0 c).put R.EVT_CORE_STOPPED (bit x.stopped) 0 c
    ((d1.put R.EVT_CORE_OUTST_VALID (bit x.outst.isSome) 0 c).put R.EVT_CORE_OUTST (x.outst.elim 0 Prod.fst) 0 c).put
      R.EVT_CORE_DEPTH x.stack.length 0 c)

/-! ### Presentation (R480 to R483, R487) -/

/-- A source is eligible: pending, not masked, idle, of priority above 0, and not withdrawn in this Notch. MASK, the
priority and a level are those of the start of the Notch; a latch and the service state follow the completions and requests
of this Notch (R480, R490). -/
def Dev.eligible (d : Dev) (s : Nat) : Bool :=
  (if d.flag R.SRC_W0_TRIGGER s then d.flag R.SRC_W1_PEND s else d.getStart R.SRC_W1_PEND s != 0) &&
    d.getStart R.SRC_W0_MASK s == 0 && d.get R.SRC_W1_SERVICE s == 0 && d.getStart R.SRC_W1_EFF_PRIO s != 0 &&
    !d.control.withdrawn.contains s

/-- A core can receive a presentation of priority `p`, leaving IE aside (R481). -/
def Dev.canTake (d : Dev) (c p : Nat) : Bool :=
  d.getStart R.EVT_CORE_STOPPED 0 c == 0 && d.getStart R.EVT_CORE_HALTED 0 c == 0 &&
    d.getStart R.EVT_CORE_OUTST_VALID 0 c == 0 && !(d.ctrl c).stopped && (d.ctrl c).outst.isNone &&
    !d.control.presented.contains c && decide (d.getStart R.EVT_CORE_RUN_PRIO 0 c < p)

/-- A presentation made or a host vector raised is counted, and an edge source's latch is cleared (R482, R488). -/
def Dev.served (d : Dev) (s service : Nat) : Dev :=
  let d1 := ((d.count R.SRC_W1_COUNT 1 s).count R.EVT_PRESENTED 1).put R.SRC_W1_SERVICE service s
  if d.flag R.SRC_W0_TRIGGER s then d1.put R.SRC_W1_PEND 0 s else d1

/-- A source presented to a core (R482). -/
def Dev.present (d : Dev) (s c : Nat) : Dev :=
  let p := d.getStart R.SRC_W1_EFF_PRIO s
  let d1 := (d.served s 1).put R.SRC_W1_CORE c s
  (({ d1 with control := { d1.control with presented := d1.control.presented ++ [c] } }).modCtrl c (fun x => { x with
    outst := some (s, p) })).put R.EVT_ROTOR_CORE ((c + 1) % 16)

/-- The core that R481's assign() gives a source, if one can take it. -/
def Dev.chosenCore (d : Dev) (s : Nat) : Option Nat :=
  let p := d.getStart R.SRC_W1_EFF_PRIO s
  let prio := fun c => d.getStart R.EVT_CORE_RUN_PRIO 0 c
  let rotor := d.get R.EVT_ROTOR_CORE
  let cands := ((List.range 16).map (fun k => (rotor + k) % 16)).filter (fun c =>
    (d.getStart R.SRC_W0_TARGETS s).testBit c && d.getStart R.EVT_CORE_IE 0 c != 0 && d.canTake c p)
  cands.find? (fun c => cands.all (fun x => prio c ≤ prio x))

/-- Eligible sources of a route, by effective priority descending, then by number. -/
def Dev.eligibleList (d : Dev) (route : Nat) : List Nat :=
  let es := (d.touched .SRC).filter (fun s => d.getStart R.SRC_W0_ROUTE s == route && d.eligible s)
  (List.range 63).flatMap (fun k => es.filter (fun s => d.getStart R.SRC_W1_EFF_PRIO s == 63 - k))

/-- PRESENTATION (R481): the Concentrator assigns eligible sources to control cores. A core that waits in WFI with IE = 0
goes on when a source becomes eligible for it (R472). While a firmware swap runs, sources stay pending (17 R574). -/
def execPresentation (s : State) : Host.Outcome State Fault Refusal :=
  s.act (fun d => if d.stage == bsSwapping then d else
    let es := d.eligibleList 0
    let d1 := d.each (List.range 16) (fun d c =>
      if (d.ctrl c).wfi && d.getStart R.EVT_CORE_IE 0 c == 0 && es.any (fun s =>
          (d.getStart R.SRC_W0_TARGETS s).testBit c && d.canTake c (d.getStart R.SRC_W1_EFF_PRIO s)) then
        d.modCtrl c (fun x => { x with wfi := false })
      else d)
    d1.each es (fun d s => match d.chosenCore s with | some c => d.present s c | none => d))

/-! ### Acknowledge and completion (R483 to R486) -/

/-- ACKNOWLEDGE (R483, R484): a core acknowledges its outstanding presentation. A level source is sampled again, and one
that is low delivers the spurious vector. -/
def execAcknowledge (core : Nat) (s : State) : Host.Outcome State Fault Refusal :=
  s.act (fun d =>
    let x := d.ctrl core
    match x.outst with
    | none => d
    | some (src, p) =>
      if x.halted || x.stopped then d
      else
        let t := d.thread (.ctrl core)
        let pc := if t.st = .blkEvwait then t.pc - 8 else t.pc
        let low := !d.flag R.SRC_W0_TRIGGER src && d.getStart R.SRC_W1_PEND src == 0
        let vec := if low then 2047 else src
        d.pushEntry core x.cause { pc := pc, prio := x.runPrio, vec := vec } (fun d =>
          let d1 := if low then (d.put R.SRC_W1_SERVICE 0 src).count R.EVT_SPURIOUS 1 else (d.raiseTaken src).put R.SRC_W1_SERVICE 2 src
          (d1.modCtrl core (fun x => { x with outst := none, wfi := false, runPrio := p })).setThread (.ctrl core)
            { t with st := .ready, pc := x.vecBase + 64 * vec }))

/-- SOURCE_COMPLETE (R486): in the Notch after its completion was sampled, a source becomes IDLE. -/
def execSourceComplete (src : Nat) (s : State) : Host.Outcome State Fault Refusal :=
  s.act (fun d =>
    if d.control.done.any (fun x => x.1 == src && decide (x.2 < d.dial.notch)) then
      ({ d with control := { d.control with done := d.control.done.filter (fun x => x.1 != src) } }).put R.SRC_W1_SERVICE 0 src
    else d)

/-! ### Delivery to a host PF (R488) -/

/-- HOST_DELIVERY (R488): an eligible host-routed source raises its PF vector and becomes ACTIVE. -/
def execHostDelivery (src : Nat) (s : State) : Host.Outcome State Fault Refusal :=
  s.act (fun d =>
    if src < 2047 ∧ d.getStart R.SRC_W0_ROUTE src = 1 ∧ d.eligible src then
      ((d.raiseTaken src).served src 2).raiseVec (d.getStart R.SRC_W0_HOST_PF src) (d.getStart R.SRC_W0_HOST_VEC src)
    else d)

/-- A source is ACTIVE on a control core. -/
def Dev.onCore (d : Dev) (src : Nat) : Bool :=
  d.control.cores.any (fun x => x.2.stack.any (fun e => !e.exc && e.vec == src))

/-- HOST_EOI (R488, R490): the host completes a host-routed source. -/
def execHostEoi (path : Path) (src : Nat) (s : State) : Host.Outcome State Fault Refusal :=
  s.act (fun d =>
    let n := src % 2048
    let st := fun (d : Dev) (x : Nat) => (d.put R.EVT_HOST_EOI_SOURCE n).put R.EVT_HOST_EOI_STATUS x
    d.command path pgEVT 0x48 (fldKey R.EVT_HOST_EOI_SOURCE 0 0) (fun d => st d 1) (fun d =>
      if n = 2047 ∨ d.get R.SRC_W0_ROUTE n = 0 then st d 3
      else if d.get R.SRC_W1_SERVICE n ≠ 2 ∨ d.onCore n then st d 2
      else st (d.complete n) 0))

/-! ### The debugger (R490) -/

/-- CONTROL_CORE_DEBUG_HALT (R490): the debugger halts a control core, or lets it go on. -/
def execControlCoreDebugHalt (core : Nat) (halt : Bool) (s : State) : Host.Outcome State Fault Refusal :=
  s.act (fun d =>
    if 16 ≤ core then d
    else (d.modCtrl core (fun x => { x with halted := halt })).put R.EVT_CORE_HALTED (bit halt) 0 core)

end Sys2Proof.Machine
end

