-- ==== Sys2Proof/Machine/Images.lean ====
section
/-! DEFINITION. Staging a Glen program image (spec/04_glen_cores.md R169, R630; 05 R206, R207). -/

namespace Sys2Proof.Machine

/-- Bytes of the MCTP staging area, 16 MiB (16 R551). -/
def stagingSize : Nat := 0x1000000

/-- Bytes a command of a path reads from its source at an address: host memory, whose bytes come as `data`, none where a
read failed; the MCTP staging area; or the internal address space (R169; 16 R544). -/
def Dev.sourceBytes (d : Dev) (path : Path) (addr len : Nat) (data : Option (List Byte)) : Option (List Byte) :=
  match path with
  | .operator p => if d.dmaOk p.num then data.map (fun b => b.take len ++ List.replicate (len - b.length) 0) else none
  | .installer p => if d.dmaOk p.num then data.map (fun b => b.take len ++ List.replicate (len - b.length) 0) else none
  | .mctp _ => if addr + len ≤ stagingSize then some (d.roles.staging.bytes addr len) else none
  | .firmware => if d.internalOk addr len then some (d.internalBytes addr len) else none
  | .vf _ => none

/-- An image that R169 and R207 accept. -/
def imageOk (b : List Byte) : Bool :=
  let head := leNat (b.take 8)
  b.length % 8 == 0 && within 16 262144 b.length && head % 2 ^ 16 == 0x5141 && head / 2 ^ 16 % 256 == 1 &&
    head / 2 ^ 24 % 256 == 1 && head / 2 ^ 32 + 16 == b.length && imageTrailer b == imageCrc b

/-- STAGE_PROG (R169, R630; 05 R207): an image is copied into the slot's staged image. -/
def execStageProg (path : Path) (slot : Nat) (data : Option (List Byte)) (s : State) : Host.Outcome State Fault Refusal :=
  s.act (fun d => d.glenCommand path 1 slot 0 0 (fun d =>
    if d.variant.glensActive ≤ slot then (d, 3)
    else
      match d.sourceBytes path (d.get R.GSLOT_PROG_ADDR_ADDR slot) (d.get R.GSLOT_PROG_INFO_LEN slot) data with
      | none => (d.noteRead path data.isNone (d.get R.GSLOT_PROG_ADDR_ADDR slot), 4)
      | some b =>
        if imageOk b then
          (((d.modSlot slot (fun x => { x with staged := some b })).put R.GSLOT_PROG_INFO_STAGED 1 slot).put
            R.GSLOT_PROG_CRC_STAGED (imageTrailer b) slot, 0)
        else (d, 4)))

end Sys2Proof.Machine
end

