-- ==== Sys2Proof/Machine/Mover.lean ====
section
/-! DEFINITION. The Block Mover: channels, triggers, descriptors, beats, check values and erasure coding
(spec/13_block_mover_storage.md R443 to R457, R467, R468). -/

namespace Sys2Proof.Machine

/-- The registers of a channel that show its progress (R468). -/
def Dev.showCh (d : Dev) (n : Nat) : Dev :=
  let c := d.chn n
  ((d.put R.MOVERCH_STATUS_STAGED c.staged.length 0 n).put R.MOVERCH_STATUS_BYTES c.bytes 0 n).put R.MOVERCH_CRC c.crc 0 n

/-! ### Descriptors (R445 to R447, R454, R456) -/

/-- A field of a descriptor: `w` bits at bit `lo` of the quadword at offset `off`. -/
def descField (b : List Byte) (off lo w : Nat) : Nat := leNat ((b.drop off).take 8) / 2 ^ lo % 2 ^ w

def dSrc (b : List Byte) : Nat := descField b 0x00 0 64
def dDst (b : List Byte) : Nat := descField b 0x08 0 64
def dLen (b : List Byte) : Nat := descField b 0x10 0 32
def dOp (b : List Byte) : Nat := descField b 0x10 32 4
def dSrcSpace (b : List Byte) : Nat := descField b 0x10 36 4
def dDstSpace (b : List Byte) : Nat := descField b 0x10 40 4
def dCrcMode (b : List Byte) : Nat := descField b 0x10 44 2
def dCheck (b : List Byte) : Bool := descField b 0x10 46 1 != 0
def dLast (b : List Byte) : Bool := descField b 0x10 47 1 != 0
def dInt (b : List Byte) : Bool := descField b 0x10 48 1 != 0
def dCont (b : List Byte) : Bool := descField b 0x10 49 1 != 0
def dExpect (b : List Byte) : Nat := descField b 0x18 0 64
def dK (b : List Byte) : Nat := descField b 0x20 0 5
def dM (b : List Byte) : Nat := descField b 0x20 5 3
def dUnit (b : List Byte) : Nat := descField b 0x20 8 11
def dStride (b : List Byte) : Nat := descField b 0x20 32 32
def dFill (b : List Byte) : Nat := descField b 0x28 0 64

/-- SPLIT, JOIN and SPLIT_RS (R456). -/
def dShards (b : List Byte) : Bool := within 3 5 (dOp b)

/-- Whether a source is read, and whether a destination is written. -/
def dReads (b : List Byte) : Bool := dOp b != 1
def dWrites (b : List Byte) : Bool := dOp b != 2

/-- Bytes of a shard. -/
def dShard (b : List Byte) : Nat := dLen b / max 1 (dK b)

/-- The geometry of R456. -/
def dGeometry (b : List Byte) : Bool :=
  let ku := dK b * (64 * dUnit b)
  within 1 16 (dK b) && within 1 1024 (dUnit b) && dLen b % ku == 0 && dStride b % 64 == 0 &&
    decide (dShard b ≤ dStride b) && (if dOp b = 5 then within 1 4 (dM b) else dM b == 0)

/-- Where the Block Mover region starts in HBM. -/
def moverBase : Nat := hbmBase

/-- `n` bytes from an address lie within a space (R445). -/
def Dev.spaceHolds (d : Dev) (sp a n : Nat) : Bool :=
  if sp ≤ 1 then decide (a + n ≤ 2 ^ 64)
  else if sp = 2 then decide (a + n ≤ 2 ^ 30)
  else if sp ≤ 4 then decide (a + n ≤ 2 ^ 26)
  else d.internalOk a n

/-- The bytes a descriptor spans at a shard address: all shards, with those of parity at the destination. -/
def dSpan (b : List Byte) (parity : Bool) : Nat :=
  (dK b + (if parity then dM b else 0) - 1) * dStride b + dShard b

/-- The code with which a descriptor of channel `n` fails as it is read; none where it is accepted (R454). -/
def Dev.descFault (d : Dev) (n : Nat) (prev : Option Nat) (b : List Byte) : Option Nat :=
  let sp := [dSrcSpace b, dDstSpace b]
  let srcN := if dOp b = 4 then dSpan b false else dLen b
  let dstN := if dOp b = 3 ∨ dOp b = 5 then dSpan b true else dLen b
  if descField b 0x10 50 14 ≠ 0 ∨ descField b 0x20 19 13 ≠ 0 ∨ 6 ≤ dOp b ∨ dCrcMode b = 3 ∨ 6 ≤ dSrcSpace b ∨
      6 ≤ dDstSpace b ∨ dLen b = 0 ∨ (dShards b ∧ !dGeometry b) ∨ (dCont b ∧ prev ≠ some (dCrcMode b)) ∨
      (dWrites b ∧ 48 ≤ n ∧ within 3 4 (dDstSpace b)) then some meBadDesc
  else if n < 48 ∧ sp.any (fun x => decide (3 ≤ x)) then some meDenied
  else if (dOp b = 5 ∧ !d.variant.hasCrypto) ∨ (sp.contains 1 ∧ !d.variant.hasHostB) then some meAbsent
  else if (dReads b ∧ !d.spaceHolds (dSrcSpace b) (dSrc b) srcN) ∨
      (dWrites b ∧ !d.spaceHolds (dDstSpace b) (dDst b) dstN) then some meRange
  else none

/-- Bytes in memory of a space, at an address of it. -/
def Dev.spaceBytes (d : Dev) (sp a n : Nat) : List Byte :=
  if sp = 2 then d.mem.bytes (moverBase + a) n else d.internalBytes a n

/-- A word of memory marked uncorrectable lies among them (15 R507). -/
def Dev.spaceMarked (d : Dev) (sp a n : Nat) : Bool :=
  if sp = 2 then d.marks (moverBase + a) n else sp == 5 && d.marks a n

/-- Bytes written to a space. -/
def Dev.spaceWrite (d : Dev) (sp a : Nat) (bs : List Byte) : Dev :=
  if sp ≤ 1 then d.hostPut sp { fn := pfFn sp, addr := a, bytes := bs }
  else if sp = 2 then d.writeMem (moverBase + a) bs
  else d.internalStore a bs

/-- A source outside the device: host memory or a serial-store device. -/
def outside (sp : Nat) : Bool := sp == 0 || sp == 1 || sp == 3 || sp == 4

/-- The descriptor at an address of the channel's DESC_SPACE: as read on the link, or from HBM. -/
def Dev.fetchDesc (d : Dev) (n a : Nat) (x : Option (List Byte)) : Option (List Byte) :=
  let sp := d.chCfg R.MOVERCH_CFG_DESC_SPACE n
  x.map (fun b => if sp = 2 then d.spaceBytes 2 a 64 else (b ++ List.replicate 64 0).take 64)

/-- The code of a descriptor that could not be read, and the check of R445 on where it lies. -/
def Dev.fetchFault (d : Dev) (n a : Nat) (x : Option (List Byte)) : Option Nat :=
  let sp := d.chCfg R.MOVERCH_CFG_DESC_SPACE n
  if sp = 1 ∧ !d.variant.hasHostB then some meAbsent
  else if !d.spaceHolds sp a 64 then some meRange
  else if x.isNone ∨ d.spaceMarked sp a 64 then some (if sp = 2 then meMem else meDma)
  else none

/-- A channel that fails on a descriptor (R454): a read of host memory that failed is an error of the MOVER page too. -/
def Dev.chError (d : Dev) (n code addr : Nat) : Dev :=
  let d1 := d.chFails n code
  if code = meDma then d1.error pgMOVER 5 code addr else d1

/-- A channel that fails on a read or for another cause at an address of a space: an uncorrectable error in HBM has its
region remapped (R454; 15 R507). -/
def Dev.chFault (d : Dev) (n code sp addr : Nat) : Dev :=
  let d0 := if code = meDma ∧ sp ≤ 1 then d.readFailed sp else d
  let d1 := d0.chError n code addr
  if code = meMem then
    let a := if sp = 2 then moverBase + addr else addr
    (d1.hbmFault a).markWords a
  else d1

/-- The initial value of a CRC register. -/
def crcInit (mode : Nat) : Nat := if mode = 1 then 0xFFFFFFFF else if mode = 2 then 2 ^ 64 - 1 else 0

/-- A CRC register fed bytes (R455). -/
def crcFeed (mode r : Nat) (bs : List Byte) : Nat :=
  if mode = 1 then bs.foldl (crcByte poly32C) r else if mode = 2 then bs.foldl (crcByte poly64) r else r

/-- The final, inverted value. -/
def crcFinal (mode r : Nat) : Nat := if mode = 1 then r ^^^ 0xFFFFFFFF else if mode = 2 then r ^^^ (2 ^ 64 - 1) else 0

/-- A channel takes the descriptor at an address; one that fails its checks is left to its completion. -/
def Dev.takeDesc (d : Dev) (n a : Nat) (first : Bool) (b : List Byte) : Dev :=
  d.modChn n (fun c =>
    let prev := if first then none else c.prevMode
    { c with
      desc := b, addr := a, pos := 0, rd := 0, bytes := 0, done := 0, row := [], staged := []
      crc := if dCont b ∧ !first then c.crc else crcInit (dCrcMode b)
      prevMode := some (dCrcMode b), fault := d.descFault n prev b })

/-- The channels that serve: all, and in Safe Hold the device's (15 R503). -/
def Dev.chServes (d : Dev) (n : Nat) : Bool := d.runs && (!d.holding || decide (48 ≤ n))

/-! ### Triggers (R448, R449) -/

/-- Service of the channels of one PRIO starts from the lowest when none of them was ACTIVE before (R453). -/
def Dev.newTurn (d : Dev) (n from_ : Nat) : Dev :=
  let p := d.chCfg R.MOVERCH_CFG_PRIO n
  let old := d.mover.chans.any (fun x => x.1 != n && (d.chState x.1 == msActive || d.chState x.1 == msPreempted) &&
    d.chCfg R.MOVERCH_CFG_PRIO x.1 == p && x.2.from_ != from_)
  if old then d else { d with mover := { d.mover with turns := assocDel d.mover.turns p } }

/-- A trigger of a channel; `from_` is the Notch of the first beat it allows. -/
def Dev.trigger (d : Dev) (n from_ : Nat) : Dev :=
  let st := d.chState n
  if d.flag R.MOVERCH_CFG_DISABLE 0 n then d
  else if st = msArmed ∨ st = msWaiting then
    let b := d.chCfg R.MOVERCH_CFG_BURST n
    ((d.newTurn n from_).setChState n msActive).modChn n
      (fun c => { c with burst := if b = 0 then none else some b, from_ := from_ })
  else if st = msActive ∨ st = msPreempted then
    (if d.get R.MOVERCH_STATUS_PEND_REQ 0 n < 255 then d.count R.MOVERCH_STATUS_PEND_REQ 1 0 n else d.count R.MOVER_REQ_LOST 1)
  else d

/-- The readback of MOVER.CMD. -/
def Dev.moverStatus (d : Dev) (code ch st : Nat) : Dev :=
  ((d.put R.MOVER_CMD_CODE code).put R.MOVER_CMD_ARG_CH ch).put R.MOVER_CMD_STATUS st

/-- A channel that START names reads its first descriptor and is ARMED; with TRIG SOFTWARE it is ACTIVE, its first beat in the next
Notch (R448). -/
def Dev.armChannel (d : Dev) (n : Nat) (desc : Option (List Byte)) : Dev :=
  let a := d.get R.MOVERCH_DESC_ADDR 0 n / 64 * 64
  match d.fetchFault n a desc, d.fetchDesc n a desc with
  | some code, _ => d.chFault n code (d.chCfg R.MOVERCH_CFG_DESC_SPACE n) a
  | none, none => d
  | none, some b =>
    let d1 := ((d.takeDesc n a true b).modChn n (fun c => { c with fired := false })).setChState n msArmed
    (if d1.chCfg R.MOVERCH_CFG_TRIG n = 0 then d1.trigger n (d1.dial.notch + 1) else d1).showCh n

/-- START on a port that retrains: the read of the descriptor waits (10 R389; DESIGN CHOICE, notes/assumptions/152). -/
def Dev.startWaits (d : Dev) (n : Nat) : Bool :=
  let sp := d.chCfg R.MOVERCH_CFG_DESC_SPACE n
  decide (sp ≤ 1) && d.retraining sp

/-- Channels whose first descriptor has waited read it once their port no longer retrains (10 R389). -/
def Dev.armWaiting (d : Dev) : Dev :=
  d.each (d.mover.chans.filterMap (fun x => x.2.asked.map (fun desc => (x.1, desc)))) (fun d x =>
    if d.startWaits x.1 || !d.chServes x.1 then d
    else (d.modChn x.1 (fun c => { c with asked := none })).armChannel x.1 x.2)

/-- START (R448): a channel is armed, `desc` giving its first descriptor as read on the link, or none where the read failed. -/
def execStart (path : Path) (ch : Nat) (desc : Option (List Byte)) (s : State) : Host.Outcome State Fault Refusal :=
  s.act (fun d =>
    let n := ch % 64
    let st := fun (d : Dev) (x : Nat) => d.moverStatus 1 n x
    d.command path pgMOVER 0x40 (fldKey R.MOVER_CMD_CODE 0 0) (fun d => st d 1) (fun d =>
      if 48 ≤ n ∧ path ≠ .firmware then st d 5
      else if (d.chState n ≠ msIdle ∧ d.chState n ≠ msDone) ∨ d.flag R.MOVERCH_CFG_DISABLE 0 n ∨ (d.chn n).asked.isSome then
        st d 3
      else
        let d0 := (st d 0).modChn n (fun c => { c with cfg := d.armCfg n })
        let d1 := ((d0.put R.MOVERCH_STATUS_LATE 0 0 n).put R.MOVERCH_STATUS_PEND_REQ 0 0 n).put R.MOVERCH_STATUS_ERR_CODE 0 0 n
        if d1.startWaits n then (d1.modChn n (fun c => { c with asked := some desc })).setChState n msIdle
        else d1.armChannel n desc))

/-- CLEAR (R467): a DONE or ERROR channel returns to IDLE. -/
def execClear (path : Path) (ch : Nat) (s : State) : Host.Outcome State Fault Refusal :=
  s.act (fun d =>
    let n := ch % 64
    let st := fun (d : Dev) (x : Nat) => d.moverStatus 2 n x
    d.command path pgMOVER 0x40 (fldKey R.MOVER_CMD_CODE 0 0) (fun d => st d 1) (fun d =>
      if 48 ≤ n ∧ path ≠ .firmware then st d 5
      else if d.chState n ≠ msDone ∧ d.chState n ≠ msError then st d 3
      else st (d.setChState n msIdle) 0))

/-- SWREQ (R448): the bits 8 to 31 of a write of MOVER.SWREQ each make one request. -/
def execSwreq (path : Path) (data : Word) (s : State) : Host.Outcome State Fault Refusal :=
  s.act (fun d => d.guarded path pgMOVER 0x48 (fldKey R.MOVER_SWREQ 0 0) (fun d =>
    (d.put R.MOVER_SWREQ (d.get R.MOVER_SWREQ ||| data.field 8 24), true)))


/-- MOVER_REQUEST (R448): the request made on a line in an earlier Notch is an event; it triggers the channels that wait
for the line. Lines 0 to 7 are driven by the control cores, lines 8 to 31 by MOVER.SWREQ. -/
def execMoverRequest (line : Nat) (s : State) : Host.Outcome State Fault Refusal :=
  s.act (fun d =>
    let made : Bool := if line < 8 then d.control.cores.any (fun x => x.2.mreq.testBit line && !x.2.mreqNow.testBit line)
      else decide (line < 32) && (d.getStart R.MOVER_SWREQ).testBit (line - 8) && (d.get R.MOVER_SWREQ).testBit (line - 8) &&
        !d.mover.taken.contains line
    if !made then d
    else
      let d1 : Dev := if line < 8 then
          { d with control := { d.control with cores := d.control.cores.map (fun x =>
              (x.1, { x.2 with mreq := x.2.mreq &&& (255 - 2 ^ line ||| x.2.mreqNow % 256) })) } }
        else ({ d with mover := { d.mover with taken := d.mover.taken ++ [line] } }).put R.MOVER_SWREQ
          (d.get R.MOVER_SWREQ &&& (2 ^ 24 - 1 - 2 ^ (line - 8)))
      d1.each ((List.range 64).filter (fun n => d1.chCfg R.MOVERCH_CFG_TRIG n == 1 &&
        d1.chCfg R.MOVERCH_CFG_TRIG_ARG n == line && d1.chServes n)) (fun d n => d.trigger n d.dial.notch))

/-- NOTCH_TIMER (R448): a Notch whose count modulo PERIOD equals PHASE triggers a channel. -/
def execNotchTimer (ch : Nat) (s : State) : Host.Outcome State Fault Refusal :=
  s.act (fun d =>
    if d.chServes ch && decide (ch < 64) && d.chCfg R.MOVERCH_CFG_TRIG ch == 2 &&
        d.dial.notch % d.chCfg R.MOVERCH_CFG_PERIOD ch == d.get R.MOVERCH_TRIG_NS_PHASE 0 ch then
      d.trigger ch (d.dial.notch + 1)
    else d)

/-- DIAL_TIME (R448, R47): the first Notch whose dial time is at or after a channel's time triggers it, LATE where a step
passed the time over. -/
def execDialTime (ch : Nat) (s : State) : Host.Outcome State Fault Refusal :=
  s.act (fun d =>
    let t := timeNs (d.get R.MOVERCH_TRIG_SEC 0 ch, d.get R.MOVERCH_TRIG_NS 0 ch)
    if d.chServes ch && decide (ch < 64) && d.chCfg R.MOVERCH_CFG_TRIG ch == 3 && !(d.chn ch).fired &&
        d.chState ch == msArmed && decide (t ≤ timeNs d.now) then
      let late : Bool := d.steppedForward && decide (timeNs d.unstepped ≤ t) && decide (t < timeNs d.now)
      let d1 := (d.modChn ch (fun c => { c with fired := true })).trigger ch (d.dial.notch + 1)
      if late then (d1.put R.MOVERCH_STATUS_LATE 1 0 ch).raiseBit R.MOVER_EVENTS 3 else d1
    else d)

/-- CHAIN (R448): the channel that a channel waits for has reached DONE. -/
def execChain (ch : Nat) (s : State) : Host.Outcome State Fault Refusal :=
  s.act (fun d =>
    if d.mover.chainDue.contains ch then
      let d1 : Dev := { d with mover := { d.mover with chainDue := d.mover.chainDue.filter (fun x => x != ch) } }
      if d1.chServes ch then d1.trigger ch (d1.dial.notch + 1) else d1
    else d)

/-- A channel stopped dead (R452); in Safe Hold its staged beats are kept (15 R503). -/
def Dev.disableCh (d : Dev) (n : Nat) (keep : Bool) : Dev :=
  let d0 := if (d.chn n).asked.isSome then d.modChn n (fun c => { c with asked := none }) else d
  let d1 := (((d0.endCfg n).put R.MOVERCH_STATUS_PEND_REQ 0 0 n).setChState n msDisabled).raiseBit R.MOVER_EVENTS 2
  if keep then d1
  else (d1.modChn n (fun c => { c with staged := [] })).put R.MOVERCH_STATUS_STAGED 0 0 n

/-- DISABLE (R452; 18 R592): CH.CFG.DISABLE is written 1. -/
def execDisable (path : Path) (ch : Nat) (s : State) : Host.Outcome State Fault Refusal :=
  s.act (fun d =>
    let n := ch % 64
    let off := 0x100 + 48 * n
    if 48 ≤ n ∧ path ≠ .firmware then (if d.held || !d.reaches path pgMOVER then d else d.roleError path pgMOVER off)
    else d.ownWrite path pgMOVER R.MOVERCH_CFG_DISABLE 0 n 1 (fun d =>
      ((d.put R.MOVERCH_CFG_DISABLE 1 0 n).disableCh n false, true)))

/-! ### Erasure coding (R457) -/

/-- Product in GF(2^8) with polynomial 0x11D. -/
def gfMulAux : Nat → Nat → Nat → Nat
  | 0, _, _ => 0
  | k + 1, a, b => (if b % 2 = 1 then a else 0) ^^^ gfMulAux k (if 128 ≤ a then (2 * a) ^^^ 0x11D else 2 * a) (b / 2)
def gfMul (a b : Nat) : Nat := gfMulAux 8 a b

/-- The inverse in GF(2^8): the 254th power. -/
def gfPow (a : Nat) : Nat → Nat
  | 0 => 1
  | n + 1 => gfMul a (gfPow a n)
def gfInv (a : Nat) : Nat := gfPow a 254

/-- The coefficient of parity shard `j` and data shard `i`. -/
def rsCoeff (j i : Nat) : Nat := gfMul (16 ^^^ i) (gfInv ((16 + j) ^^^ i))

/-- A beat of parity: the sum over the data units of a row at the beat's place within the unit. -/
def rsBeat (k unitBytes j off : Nat) (row : List Byte) : List Byte :=
  (List.range 64).map (fun o =>
    BitVec.ofNat 8 ((List.range k).foldl (fun acc i =>
      acc ^^^ gfMul (rsCoeff j i) (nth row (i * unitBytes + off + o) 0).toNat) 0))

/-! ### Beats (R450, R451, R456) -/

/-- Beats that a descriptor writes, or, for CRC_ONLY, reads; and the beats of its source. -/
def dBeats (b : List Byte) : Nat :=
  if dOp b = 5 then dLen b / (dK b * (64 * dUnit b)) * ((dK b + dM b) * dUnit b) else (dLen b + 63) / 64
def dSrcBeats (b : List Byte) : Nat := (dLen b + 63) / 64

/-- What a beat is: from the source, or parity of a shard, with its destination address; `fill` where there is no source. -/
structure Beat where
  dst : Nat
  /-- Of parity: shard and offset in the unit. -/
  parity : Option (Nat × Nat) := none
deriving DecidableEq, Repr

/-- Where source unit bytes of a beat of SPLIT lie: shard and offset of source beat `s`. -/
def splitAt (b : List Byte) (s : Nat) : Nat :=
  let u := s / dUnit b
  u % dK b * dStride b + 64 * dUnit b * (u / dK b) + 64 * (s % dUnit b)

/-- Beat number `pos` of a descriptor. -/
def beatAt (b : List Byte) (pos : Nat) : Beat :=
  if dOp b = 3 then { dst := dDst b + splitAt b pos }
  else if dOp b = 5 then
    let per := (dK b + dM b) * dUnit b
    let row := pos / per
    let o := pos % per
    let base := dDst b + 64 * dUnit b * row
    if o < dK b * dUnit b then { dst := base + o / dUnit b * dStride b + 64 * (o % dUnit b) }
    else
      let p := o - dK b * dUnit b
      { dst := base + (dK b + p / dUnit b) * dStride b + 64 * (p % dUnit b), parity := some (p / dUnit b, 64 * (p % dUnit b)) }
  else { dst := dDst b + 64 * pos }

/-- Bytes of source beat `s`, and its address. -/
def beatLen (b : List Byte) (s : Nat) : Nat := min 64 (dLen b - 64 * s)
def beatSrc (b : List Byte) (s : Nat) : Nat := dSrc b + (if dOp b = 4 then splitAt b s else 64 * s)

/-- The descriptor of a channel has no beat left to move, or fails. -/
def MoverCh.ended (c : MoverCh) : Bool := c.fault.isSome || decide (dBeats c.desc ≤ c.pos)

/-- The next beat of a channel needs a source beat. -/
def MoverCh.needs (c : MoverCh) : Bool := dReads c.desc && (beatAt c.desc c.pos).parity.isNone

/-- A channel can move a beat now: it is ACTIVE or PREEMPTED, its burst has begun and has beats left, and what it needs is
at hand. -/
def Dev.chReady (d : Dev) (n : Nat) : Bool :=
  let c := d.chn n
  let st := d.chState n
  d.chServes n && (st == msActive || st == msPreempted) && decide (c.from_ ≤ d.dial.notch) && !c.ended &&
    c.burst != some 0 && (!c.needs || !c.staged.isEmpty || !outside (dSrcSpace c.desc)) &&
    !(dWrites c.desc && decide (dDstSpace c.desc ≤ 1) && d.retraining (dDstSpace c.desc))

/-- Source beat `s` of a channel read from memory; none where a word of it is marked uncorrectable. -/
def Dev.memBeat (d : Dev) (c : MoverCh) (s : Nat) : Option (List Byte) :=
  if d.spaceMarked (dSrcSpace c.desc) (beatSrc c.desc s) (beatLen c.desc s) then none
  else some (d.spaceBytes (dSrcSpace c.desc) (beatSrc c.desc s) (beatLen c.desc s))

/-- What reading source beats of a channel from memory does besides: of the register pages, DIAL.NOTCH_COUNT loads the latch (01
R57). -/
def Dev.readSide (d : Dev) (c : MoverCh) (ss : List Nat) : Dev :=
  if dSrcSpace c.desc = 5 then d.each ss (fun d s => d.internalRead (beatSrc c.desc s) (beatLen c.desc s)) else d

/-- The source beat a channel moves next: the oldest staged, or one read from memory at once; none for a failed read. -/
def Dev.nextBeat (d : Dev) (c : MoverCh) : Option (List Byte) × MoverCh :=
  match c.staged with
  | x :: rest => (x, { c with staged := rest })
  | [] => (d.memBeat c c.rd, { c with rd := c.rd + 1 })

/-- A burst counted down, its end, and what waits after it (R449). -/
def Dev.burstEnd (d : Dev) (n : Nat) : Dev :=
  if (d.chn n).burst ≠ some 0 ∨ (d.chn n).ended && dLast (d.chn n).desc then d
  else
    let p := d.get R.MOVERCH_STATUS_PEND_REQ 0 n
    if 0 < p then
      (d.put R.MOVERCH_STATUS_PEND_REQ (p - 1) 0 n).modChn n (fun c => { c with burst := some (d.chCfg R.MOVERCH_CFG_BURST n) })
    else d.setChState n msWaiting

/-- One beat of a channel moved. -/
def Dev.moveBeat (d : Dev) (n : Nat) : Dev :=
  let c0 := d.chn n
  let b := c0.desc
  let beat := beatAt b c0.pos
  let counted := fun (d : Dev) (c : MoverCh) (len : Nat) =>
    ((d.modChn n (fun _ => { c with pos := c.pos + 1, bytes := c.bytes + (if dWrites b then len else 0), burst := c.burst.map (fun k => k - 1) })).count
      R.MOVER_BEATS 1).burstEnd n
  match beat.parity with
  | some (j, off) =>
    let bs := rsBeat (dK b) (64 * dUnit b) j off c0.row
    let per := (dK b + dM b) * dUnit b
    let c1 := if (c0.pos + 1) % per = 0 then { c0 with row := [] } else c0
    counted (d.spaceWrite (dDstSpace b) beat.dst bs) c1 64
  | none =>
    if !dReads b then
      let len := beatLen b c0.pos
      let bs := (List.range len).map (fun o => BitVec.ofNat 8 (dFill b / 256 ^ (o % 8)))
      counted (d.spaceWrite (dDstSpace b) beat.dst bs)
        { c0 with crc := crcFeed (dCrcMode b) c0.crc bs, done := c0.done + len } len
    else
      let r := d.nextBeat c0
      match r.1 with
      | none => d.modChn n (fun _ => { r.2 with fault := some (if outside (dSrcSpace b) then meDma else meMem) })
      | some bs =>
        let c := { r.2 with crc := crcFeed (dCrcMode b) r.2.crc bs, done := r.2.done + bs.length
                            row := if dOp b = 5 then r.2.row ++ bs else [] }
        let d1 := if c0.staged.isEmpty then d.readSide c0 [c0.rd] else d
        counted (if dWrites b then d1.spaceWrite (dDstSpace b) beat.dst bs else d1) c bs.length

/-- The channel that the engine serves next: of the highest PRIO, the next in turn (R450). -/
def Dev.nextCh (d : Dev) : Option Nat :=
  let ready := (d.mover.chans.map Prod.fst).filter d.chReady
  let top := (ready.map (fun n => d.chCfg R.MOVERCH_CFG_PRIO n)).max?
  match top with
  | none => none
  | some p =>
    let cs := ready.filter (fun n => d.chCfg R.MOVERCH_CFG_PRIO n == p)
    let after := match assoc d.mover.turns p with
      | some t => cs.filter (fun n => decide (t < n))
      | none => cs
    (if after.isEmpty then cs else after).min?

/-- A channel displaced by one of higher PRIO becomes PREEMPTED (R450). -/
def Dev.displace (d : Dev) (n : Nat) : Dev :=
  match d.mover.last with
  | none => d
  | some o =>
    if o ≠ n ∧ d.chState o = msActive ∧ !(d.chn o).ended ∧
        d.chCfg R.MOVERCH_CFG_PRIO o < d.chCfg R.MOVERCH_CFG_PRIO n then
      (d.setChState o msPreempted).count R.MOVER_PREEMPTS 1
    else d

/-- Beats moved one by one, at most `fuel`. -/
def Dev.beats (d : Dev) : Nat → Dev
  | 0 => d
  | fuel + 1 =>
    match d.nextCh with
    | none => d
    | some n =>
      let p := d.chCfg R.MOVERCH_CFG_PRIO n
      let d1 := (d.displace n).setChState n msActive
      let d2 : Dev := { d1 with mover := { d1.mover with
        last := some n, turns := assocSet d1.mover.turns p n, used := d1.mover.used + 1 } }
      (d2.moveBeat n).beats fuel

/-- What a channel's reads returned is staged; the beats of a memory source that met no error are read as they are moved. -/
def Dev.stageReads (d : Dev) (x : MoverRead) : Dev :=
  let c := d.chn x.ch
  let b := c.desc
  let more := dSrcBeats b - c.rd
  if !dReads b || c.ended || !d.chServes x.ch || (decide (dSrcSpace b ≤ 1) && d.retraining (dSrcSpace b)) then d
  else
    let new := (List.range (min more x.beats.length)).map (fun k =>
      match nth x.beats k none with
      | none => none
      | some bs =>
        if outside (dSrcSpace b) then some ((bs ++ List.replicate 64 0).take (beatLen b (c.rd + k)))
        else d.memBeat c (c.rd + k))
    (d.readSide c ((List.range new.length).map (fun k => c.rd + k))).modChn x.ch
      (fun c => { c with staged := c.staged ++ new, rd := c.rd + new.length })

/-- The staging buffer after a Notch's beats: filled further from memory by `ahead` beats, and holding at most 64, what
lies beyond being read again later (R451). -/
def Dev.trimStage (d : Dev) (x : MoverRead) : Dev :=
  let c := d.chn x.ch
  let b := c.desc
  let k := if !dReads b || outside (dSrcSpace b) || c.ended || !d.chServes x.ch then 0
    else min x.ahead (dSrcBeats b - c.rd)
  let staged := c.staged ++ (List.range k).map (fun j => d.memBeat c (c.rd + j))
  let past := staged.length - 64
  (d.readSide c ((List.range (k - past)).map (fun j => c.rd + j))).modChn x.ch (fun c => { c with staged := staged.take 64, rd := c.rd + k - past })

/-- MOVER_BEATS (R450, R451): the engine moves beats of the running Notch, up to 128 in all, `reads` giving what the
channels' reads returned. -/
def execMoverBeats (reads : List MoverRead) (s : State) : Host.Outcome State Fault Refusal :=
  s.act (fun d =>
    let live := reads.filter (fun x => (assoc d.mover.chans x.ch).isSome &&
      (d.chState x.ch == msActive || d.chState x.ch == msPreempted))
    let d0 := d.each live (fun d x => d.each x.corrected Dev.hbmCorrected)
    let d1 := (d0.each live Dev.stageReads).beats (128 - d.mover.used)
    let d2 := d1.each live Dev.trimStage
    d2.each (d2.mover.chans.map Prod.fst) (fun d n =>
      if d.chState n = msDisabled then d else d.showCh n))

/-! ### Completion (R446, R454) -/

/-- The code with which the descriptor in progress ends. -/
def MoverCh.code (c : MoverCh) : Nat :=
  match c.fault with
  | some x => x
  | none =>
    let r := crcFinal (dCrcMode c.desc) c.crc
    let want := if dCrcMode c.desc = 1 then dExpect c.desc % 2 ^ 32 else dExpect c.desc
    if dCheck c.desc ∧ dCrcMode c.desc ≠ 0 ∧ r ≠ want then meCrc else meOk

/-- Offsets 0x30 and 0x38 of a descriptor written back. -/
def Dev.writeBack (d : Dev) (n code : Nat) : Dev :=
  let c := d.chn n
  let bs := leBytes 8 (code + 2 ^ 8 + d.get R.MOVERCH_STATUS_LATE 0 n * 2 ^ 9 + c.done % 2 ^ 32 * 2 ^ 32) ++
    leBytes 8 (crcFinal (dCrcMode c.desc) c.crc)
  d.spaceWrite (d.chCfg R.MOVERCH_CFG_DESC_SPACE n) (c.addr + 0x30) bs

/-- DESCRIPTOR_COMPLETE (R454, R446): a channel's descriptor, all of whose beats have been moved or which fails, is written
back, and the channel reads the next, `next` giving it as read on the link or none where the read failed, or becomes DONE or
ERROR. -/
def execDescriptorComplete (ch : Nat) (next : Option (List Byte)) (s : State) : Host.Outcome State Fault Refusal :=
  s.act (fun d =>
    let c := d.chn ch
    let st := d.chState ch
    let sp := d.chCfg R.MOVERCH_CFG_DESC_SPACE ch
    if !d.chServes ch || (assoc d.mover.chans ch).isNone || !(st == msActive || st == msPreempted || st == msWaiting) || !c.ended ||
        decide (d.dial.notch < c.from_) || (decide (sp ≤ 1) && d.retraining sp) then d
    else
      let code := c.code
      let d1 := d.writeBack ch code
      let d2 := if dInt c.desc then
          (((d1.raiseBit R.MOVER_DONE_MAP ch).raiseBit R.MOVER_EVENTS 0).request (128 + ch)) else d1
      if code ≠ meOk then d2.chFault ch code (dSrcSpace c.desc) (beatSrc c.desc (c.rd - c.staged.length - 1))
      else if dLast c.desc then (d2.chDone ch).showCh ch
      else
        let a := c.addr + 64
        match d2.fetchFault ch a next, d2.fetchDesc ch a next with
        | some x, _ => d2.chFault ch x (d2.chCfg R.MOVERCH_CFG_DESC_SPACE ch) a
        | none, none => d2
        | none, some b => (d2.takeDesc ch a false b).showCh ch)

end Sys2Proof.Machine
end

