-- ==== Sys2Proof/Machine/Faults.lean ====
section
/-! DEFINITION. Safe Hold, the commands of the HEALTH page, power and heat (spec/15_faults.md R502 to R519; 19 R611,
R623). -/

namespace Sys2Proof.Machine

/-! ### Safe Hold (R502, R503) -/

/-- A cause of Safe Hold arises: the entry is due, for the first cause (R502). -/
def Dev.holdDue (d : Dev) (cause : Nat) : Dev :=
  { d with errs := { d.errs with safeDue := some (d.errs.safeDue.getD (cause, 0, 0, d.dial.notch)) } }

/-- What stops at the entry: every link goes DOWN with the frame it sends, every Glen thread is halted, and operator
channels of the Block Mover stop with their staged beats kept (R503). -/
def Dev.stopAll (d : Dev) : Dev :=
  let d1 := d.each ((List.range 16).filter (fun p => d.portInService p && d.get R.PORT_STATUS_LINK p != 0)) Dev.linkDown
  let d2 : Dev := { d1 with glens := { d1.glens with threads := d1.glens.threads.map (fun x =>
    (x.1, match x.1 with | .glen _ _ _ => { x.2 with halted := true } | .ctrl _ => x.2)) } }
  d2.each ((List.range 48).filter (fun n => within 1 4 (d2.chState n))) (fun d n => d.disableCh n true)

/-- SAFE_HOLD_ENTRY (R502, R503, R505, R517): an entry that is due from an earlier Notch takes place. -/
def execSafeHoldEntry (s : State) : Host.Outcome State Fault Refusal :=
  s.act (fun d =>
    match d.errs.safeDue with
    | none => d
    | some (cause, cls, page, n) =>
      if d.dial.notch ≤ n then d
      else
        let d0 : Dev := { d with errs := { d.errs with safeDue := none } }
        if d.held then d0
        else
          let d1 := ((((d0.stopAll.put R.HEALTH_STATUS_SAFE_HOLD 1).put R.HEALTH_SAFE_CAUSE cause).put R.HEALTH_SAFE_CLASS
            cls).put R.HEALTH_SAFE_PAGE page).put R.HEALTH_SAFE_NOTCH n
          let d2 := (d1.raiseBit R.HEALTH_EVENTS 1).pldmEvent 3 cause
          { d2 with store := { d2.store with lastSafe := [d2.word (fldKey R.HEALTH_SAFE_CAUSE 0 0)] } })

/-! ### HEALTH.CMD (R507, R509, R516, R519) -/

/-- The readback of HEALTH.CMD. -/
def Dev.healthStatus (d : Dev) (code stack index reasons st : Nat) : Dev :=
  ((((d.put R.HEALTH_CMD_CODE code).put R.HEALTH_CMD_ARG_STACK stack).put R.HEALTH_CMD_ARG_INDEX index).put
    R.HEALTH_CMD_ARG_REASONS reasons).put R.HEALTH_CMD_STATUS st

/-- A command of HEALTH.CMD: BUSY while one is in progress, and in RECOVERY unless it is RESET_DEVICE (17 R565); otherwise
`f`; PENDING goes on. -/
def Dev.healthCommand (d : Dev) (path : Path) (code stack index reasons : Nat) (f : Dev → Dev × Nat) : Dev :=
  let k := fldKey R.HEALTH_CMD_CODE 0 0
  let st := fun (d : Dev) (x : Nat) => d.healthStatus code stack index reasons x
  d.command path pgHEALTH 0xC0 k (fun d => st d 1) (fun d =>
    if d.cmdBusy k || (d.stage == bsRecovery && code != 3) then st d 1
    else
      let r := f d
      let d1 := st r.1 r.2
      if r.2 = 2 then d1.cmdStart k else d1)

/-- A reason that clears itself is set and its condition holds: 1, 2 and 9 (R513). -/
def Dev.reasonHolds (d : Dev) (r : Nat) : Bool :=
  (d.get R.HEALTH_REPLACE_REASONS).testBit r &&
    (if r = 1 then d.allHeld && d.lowestSpare.isNone
     else if r = 2 then !d.allHeld && d.lowestSpare.isNone
     else r == 9)

/-- CLEAR_REASONS (R516): the named reasons are cleared, in the health record too. -/
def execClearReasons (path : Path) (reasons : Nat) (s : State) : Host.Outcome State Fault Refusal :=
  s.act (fun d =>
    let rs := reasons % 2 ^ 10
    d.healthCommand path 1 0 0 rs (fun d =>
      if d.role path ≠ 3 then (d, 4)
      else if (List.range 10).any (fun r => rs.testBit r && d.reasonHolds r) then (d, 5)
      else
        let d1 := d.each ((List.range 10).filter (fun r => rs.testBit r)) Dev.clearReason
        ({ d1 with store := { d1.store with reasons := d1.store.reasons &&& (2 ^ 16 - 1 - rs) } }, 0)))

/-- ENTER_SAFE_HOLD (R502). -/
def execEnterSafeHold (path : Path) (s : State) : Host.Outcome State Fault Refusal :=
  s.act (fun d => d.healthCommand path 2 0 0 0 (fun d => (if d.held then d else d.holdDue 4, 0)))

/-- RESET_DEVICE (17 R559): a device-wide reset starts 1 ms after the command's Notch. -/
def execResetDevice (path : Path) (s : State) : Host.Outcome State Fault Refusal :=
  s.act (fun d => d.healthCommand path 3 0 0 0 (fun d =>
    ({ d with boot := { d.boot with resetAt := some (d.dial.notch + 15625) } }, 0)))

/-- REMAP_REGION (R507): a visible region is remapped. -/
def execRemapRegion (path : Path) (stack region : Nat) (s : State) : Host.Outcome State Fault Refusal :=
  s.act (fun d =>
    let k := stack % 2
    let r := region % 2 ^ 14
    d.healthCommand path 4 k r 0 (fun d =>
      if d.variant.stacks ≤ k ∨ visibleRegions ≤ r then (d, 7)
      else if d.regionState k r ≠ hrNormal then (d, 8)
      else if reserveRegions ≤ d.reserveUsed k then (d, 6)
      else (d.startRemap k r, 2)))

/-- RETIRE_BANK (R509): retirement of a Basin bank starts. -/
def execRetireBank (path : Path) (bank : Nat) (s : State) : Host.Outcome State Fault Refusal :=
  s.act (fun d =>
    let b := bank % 2 ^ 14
    d.healthCommand path 5 0 b 0 (fun d =>
      if 32 ≤ b then (d, 7)
      else if d.get R.BANK_W0_STATE b ≠ 0 then (d, 8)
      else if d.mayRetire b then (d.startRetire b, 0)
      else (d, 6)))

/-! ### Power and heat (R512; 19 R611, R623) -/

/-- PHASE_FAIL (R512; 19 R611): a converter phase fails. POWER_W falls, and GLEN_CLK is lowered to `clk`, at which the
measured draw is within POWER_W; a third failed phase enters Safe Hold. -/
def execPhaseFail (phase clk : Nat) (s : State) : Host.Outcome State Fault Refusal :=
  s.act (fun d =>
    let map := d.get R.HEALTH_PHASES_FAILED_MAP
    if 12 ≤ phase ∨ map.testBit phase then d
    else
      let d0 : Dev := { d with
        store := { d.store with phases := d.store.phases ||| 2 ^ phase }
        health := { d.health with phaseAt := some (phase, d.dial.notch) } }
      let d1 := (((d0.put R.HEALTH_PHASES_FAILED_MAP (map ||| 2 ^ phase)).less R.HEALTH_STATUS_POWER_W
        (d.variant.powerMax / 12)).raiseBit R.HEALTH_EVENTS 4).error pgHEALTH 18 0 phase
      let now := d1.get R.HEALTH_STATUS_GLEN_CLK
      let d2 := if max 1 clk < now then (d1.put R.HEALTH_STATUS_GLEN_CLK (max 1 clk)).raiseBit R.HEALTH_EVENTS 5 else d1
      let d3 := d2.setReason 8
      let failed := ((List.range 12).filter (fun p => (map ||| 2 ^ phase).testBit p)).length
      if failed = 3 ∧ !d3.held then d3.holdDue 3 else d3)

/-- An install of the running Notch: it is in progress until the Notch ends (DESIGN CHOICE, notes/assumptions/124). -/
def Dev.installNow (d : Dev) (p : Nat → Bool) : Bool := d.boot.installing.any (fun x => x.1 == d.dial.notch && p x.2)

/-- The supply is lost while a slot is written: the slot holds no object, and the one used before is used again
(17 R578). -/
def Dev.tornInstall (d : Dev) : Dev :=
  let both := fun (s : SerialStore) (f : StoreCopy → StoreCopy) => { s with copy0 := f s.copy0, copy1 := f s.copy1 }
  let s := d.store
  if d.installNow (fun t => t == 1) then
    { d with store := if d.get R.SSTORE_FW_ACTIVE = 1 then both { s with fwA := [] } (fun c => { c with fwA := [] })
      else both { s with fwB := [] } (fun c => { c with fwB := [] }) }
  else if d.installNow (fun t => t == 2) then
    { d with store := if d.get R.SSTORE_SET_ACTIVE = 1 then both { s with setA := [], activeSet := 1 } (fun c => { c with setA := [] })
      else both { s with setB := [], activeSet := 0 } (fun c => { c with setB := [] }) }
  else d

/-- The rails go in the Notch of a phase failure: the health record keeps the phase only where its write had verified, which
is free (19 R626). -/
def Dev.tornPhase (d : Dev) : Dev :=
  match d.health.phaseAt with
  | some (phase, m) =>
    if m = d.dial.notch then
      let r := d.free
      if r.1.getLsbD 0 then r.2
      else { r.2 with store := { r.2.store with phases := r.2.store.phases &&& (2 ^ 12 - 1 - 2 ^ phase) } }
    else d
  | none => d

/-- THERM_ALERT# and REPLACE_REQ# released, where they are driven low (15 R515; 19 R616). -/
def Dev.releasePins (d : Dev) : Dev :=
  let d1 := if d.health.alert then d.emit (.pin "THERM_ALERT#" true) else d
  if d.get R.HEALTH_REPLACE_REASONS = 0 then d1 else d1.emit (.pin "REPLACE_REQ#" true)

/-- The pins that the device drives, released as its rails go (19 R616; 01 R43). -/
def Dev.outputsOff (d : Dev) : Dev :=
  let d1 := d.releasePins
  let d2 := if d1.dial.ppsOut then d1.emit (.ppsOut false 0) else d1
  { d2 with dial := { d2.dial with ppsOut := false }, health := { d2.health with alert := false } }

/-- THERMAL_SAMPLE (19 R623): a sample of the case temperature, in tenths of a degree. It acts with the one before it, in the
Notch that follows. -/
def execThermalSample (temp : Int) (s : State) : Host.Outcome State Fault Refusal :=
  s.act (fun d => { d with health := { d.health with temps := temp :: d.health.temps.take 1, sampled := true } })

/-- Both of the last two samples meet a condition, and the second was taken in the Notch that ends. -/
def Dev.bothTemps (d : Dev) (p : Int → Bool) : Bool := d.health.sampled && d.health.temps.length == 2 && d.health.temps.all p

/-- 105 °C: every rail but the wake detector's is removed (19 R623, R626). -/
def Dev.trips (d : Dev) : Bool := d.bothTemps (fun t => decide (1050 ≤ t))
def Dev.trip (d : Dev) : Dev :=
  let d1 := d.tornInstall.tornPhase.outputsOff
  { d1 with boot := { d1.boot with off := true, tripped := true }, health := { d1.health with sampled := false } }

/-- 100 °C: Safe Hold is due, with cause THERMAL also where another cause arose in the Notch of the second sample (19 R623,
R626). -/
def Dev.heatDue (d : Dev) : Dev :=
  if d.bothTemps (fun t => decide (1000 ≤ t)) && !d.held && d.errs.safeDue.all (fun x => x.2.2.2 == d.dial.notch) then
    { d with errs := { d.errs with safeDue := some (2, 0, 0, d.dial.notch) } }
  else d

/-- 92 °C and 88 °C: THERM_ALERT# driven low with a THERMAL error, and released, in the Notch after the second sample (19
R623). -/
def Dev.heatAlert (d : Dev) : Dev :=
  let d1 :=
    if d.bothTemps (fun t => decide (920 ≤ t)) && !d.health.alert then
      (({ d with health := { d.health with alert := true } }).emit (.pin "THERM_ALERT#" false)).error pgHEALTH 17 0
        (d.health.temps.head?.getD 0).toNat
    else if d.bothTemps (fun t => decide (t ≤ 880)) && d.health.alert then
      ({ d with health := { d.health with alert := false } }).emit (.pin "THERM_ALERT#" true)
    else d
  { d1 with health := { d1.health with sampled := false } }

/-- Below the variant's maximum power class the measured input power, which no command shows, may exceed POWER_W: GLEN_CLK is
lowered by a sixteenth (R512; 19 R611; notes/assumptions/136). -/
def Dev.powerStep (d : Dev) : Dev :=
  let now := d.get R.HEALTH_STATUS_GLEN_CLK
  if d.boot.serving && !d.held && decide (d.get R.HEALTH_STATUS_POWER_W < d.variant.powerMax) && decide (1 < now) then
    let r := d.free
    if r.1.getLsbD 0 then (r.2.put R.HEALTH_STATUS_GLEN_CLK (now - 1)).raiseBit R.HEALTH_EVENTS 5 else r.2
  else d

end Sys2Proof.Machine
end

