-- ==== Sys2Proof/Machine/StoreCopies.lean ====
section
/-! DEFINITION. What each serial-store device holds: reservation records, the sectors of the journal and the erases of each sector
(spec/16_roles_store.md R536, R538 to R541, R547, R548). -/

namespace Sys2Proof.Machine

/-! ### The layout (R539) -/

/-- The offsets of the regions that the device writes, and the size of a sector. -/
def offIdentity : Nat := 0
def offCalibration : Nat := 0x20000
def offKeys : Nat := 0x40000
def offFw (slot : Nat) : Nat := 0x100000 + 0xF00000 * slot
def offSet (slot : Nat) : Nat := 0x1F00000 + 0x100000 * slot
def offSigning : Nat := 0x2100000
def offHealth : Nat := 0x2200000
def offJournal : Nat := 0x2300000
def sectorSize : Nat := 0x10000

/-- Records the journal region holds, of one sector, and the region's sectors (R541). -/
def journalSize : Nat := 316448
def journalSector : Nat := 682
def journalSectors : Nat := 464

/-! ### Erases (R540) -/

/-- A sector erased. -/
def StoreCopy.erase (c : StoreCopy) (off : Nat) : StoreCopy :=
  { c with erases := assocSet c.erases off ((assoc c.erases off).getD 0 + 1) }

/-- The sectors that `n` bytes from an offset take, erased. -/
def StoreCopy.eraseFor (c : StoreCopy) (off n : Nat) : StoreCopy :=
  ((List.range ((n + sectorSize - 1) / sectorSize)).map (fun k => off + sectorSize * k)).foldl StoreCopy.erase c

/-- WEAR: the highest erase count, in percent of the rated endurance. -/
def StoreCopy.wear (c : StoreCopy) : Nat := (c.erases.map Prod.snd).foldl max 0 * 100 / c.rated

/-! ### Reservation records (R547, R548) -/

/-- The record that reserves up to an END: MAGIC, END, and CRC-32C of the bytes before it. -/
def reservation (e : Nat) : List Byte :=
  let b := leBytes 8 0x5352584B ++ leBytes 8 e ++ List.replicate 40 0
  b ++ leBytes 4 (crc32c b) ++ List.replicate 4 0

/-- The END of a record whose CRC checks. -/
def reservedEnd (b : List Byte) : Option Nat :=
  if leNat (b.take 4) = 0x5352584B ∧ leNat ((b.drop 56).take 4) = crc32c (b.take 56) then some (leNat ((b.drop 8).take 8)) else none

/-- The largest END of the records that check. -/
def largestEnd (l : List (List Byte)) : Nat := (l.filterMap reservedEnd).foldl max 0

/-- A record written: 1,024 to a sector and 16 sectors, the oldest of which is erased for a new one once all are full. -/
def StoreCopy.reserve (c : StoreCopy) (b : List Byte) : StoreCopy :=
  let c1 := if c.signing.length = 16384 then
      ({ c with signing := c.signing.drop 1024 }).erase (offSigning + sectorSize * (c.reserved / 1024 % 16)) else c
  { c1 with signing := c1.signing ++ [b], reserved := c.reserved + 1 }

/-! ### The journal (R538, R541) -/

/-- A sector begun with a record, `before` the CHAIN before it; the one of the lowest SEQ is erased once all are full. -/
def StoreCopy.begin (c : StoreCopy) (before : List Byte) (r : JRec) : StoreCopy :=
  let c1 := if c.journal.length = journalSectors then
      ({ c with journal := c.journal.drop 1 }).erase (offJournal + sectorSize * (c.begun % journalSectors)) else c
  { c1 with journal := c1.journal ++ [⟨r.seq, before, [r]⟩], begun := c.begun + 1 }

/-- A record written. -/
def StoreCopy.append (c : StoreCopy) (before : List Byte) (r : JRec) : StoreCopy :=
  match c.journal.getLast? with
  | some s =>
    if s.recs.length < journalSector then { c with journal := c.journal.dropLast ++ [{ s with recs := s.recs ++ [r] }] }
    else c.begin before r
  | none => c.begin before r

/-- Records written one after the other. -/
def StoreCopy.appendAll (c : StoreCopy) (before : List Byte) : List JRec → StoreCopy
  | [] => c
  | r :: t => (c.append before r).appendAll r.chain t

/-- The records held, oldest first. -/
def StoreCopy.records (c : StoreCopy) : List JRec := c.journal.flatMap JSector.recs

/-- The records of a sector, each with the CHAIN before it. -/
def JSector.linked (s : JSector) : List (List Byte × JRec) := (s.chain :: s.recs.map JRec.chain).zip s.recs

/-- The record with the highest SEQ whose CHAIN checks, leaving aside those that do not read as they were written. -/
def StoreCopy.latest (c : StoreCopy) (bad : List Nat) : Option JRec :=
  ((c.journal.flatMap JSector.linked).reverse.find? (fun x => !bad.contains x.2.seq && x.2.chain == x.2.link x.1)).map Prod.snd

/-- The record with the highest SEQ of a list. -/
def latestOf (l : List JRec) : Option JRec :=
  l.foldl (fun a r => if a.any (fun x => decide (r.seq ≤ x.seq)) then a else some r) none

/-! ### The two devices -/

/-- A device is used: it answered, and met R539. -/
def Dev.storeUsed (d : Dev) (k : Nat) : Bool := d.flag R.SSTORE_DEV_SFDP_OK 0 k

/-- What a device holds, and a change of it. -/
def Dev.storeCopy (d : Dev) (k : Nat) : StoreCopy := if k = 0 then d.store.copy0 else d.store.copy1
def Dev.modCopy (d : Dev) (k : Nat) (f : StoreCopy → StoreCopy) : Dev :=
  { d with store := if k = 0 then { d.store with copy0 := f d.store.copy0 } else { d.store with copy1 := f d.store.copy1 } }

/-- The journal records in the store. -/
def Dev.storedRecords (d : Dev) : List JRec := d.store.copy0.records ++ d.store.copy1.records

/-- The CHAIN before the record that is written next. -/
def Dev.storedChain (d : Dev) : List Byte := d.roles.storedChain.getD (shake256 (auditTag ++ d.serialBytes) 32)

/-- On which devices a region reads back, of those that are used. -/
def Dev.readsBack (d : Dev) (c : RegionCopy) : Bool × Bool :=
  (c == .first && d.storeUsed 0, c != .neither && d.storeUsed 1)

/-- The copy of a region that a start takes: that of device 0, or that of device 1 where the check of the former fails (16
R540; 17 R564). -/
def Dev.choose (d : Dev) (c : RegionCopy) (check : StoreCopy → Bool) : RegionCopy :=
  let r := d.readsBack c
  if r.1 && check d.store.copy0 then .first else if r.2 && check d.store.copy1 then .second else .neither

/-- The content of a chosen copy; where there is none, of device 0, of which nothing that needs a check is used. -/
def Dev.chosen (d : Dev) (c : RegionCopy) : StoreCopy := if c = .second then d.store.copy1 else d.store.copy0

end Sys2Proof.Machine
end

