-- ==== Sys2Proof/Machine/SerialStores.lean ====
section
/-! DEFINITION. The serial store: writes to it, signed objects and their installation, keys and the journal's flush
(spec/16_roles_store.md R526 to R529, R537 to R545). -/

namespace Sys2Proof.Machine

/-! ### Writes (R540; 15 R513) -/

/-- An SSTORE error of a device: reason 7 is set (15 R494, R513). -/
def Dev.storeError (d : Dev) (dev addr : Nat) : Dev := (d.error pgHEALTH 19 0 (addr + dev * 2 ^ 63)).setReason 7

/-- A write on one device, where it is used: a failed program or erase leaves what it held, and wear may reach its limit
(DESIGN CHOICE, notes/assumptions/139). -/
def Dev.storeDevice (d : Dev) (dev addr : Nat) (fails : Bool) (f : StoreCopy → StoreCopy) : Dev :=
  if !d.storeUsed dev then d
  else
    let d1 := if fails then
        ((d.count R.HEALTH_SSTORE_PE_FAIL 1 0 dev).raiseBit R.SSTORE_EVENTS 2).storeError dev addr
      else d.modCopy dev f
    let old := d1.get R.HEALTH_SSTORE_WEAR 0 dev
    let new := saturate 8 (d1.storeCopy dev).wear
    let lim := d1.get R.HEALTH_SSTORE_WEAR_LIMIT 0 dev
    let d2 := d1.put R.HEALTH_SSTORE_WEAR new 0 dev
    if old < lim ∧ lim ≤ new then d2.storeError dev addr else d2

/-- A write verifies on at least one device. -/
def Dev.storeMakes (d : Dev) (w : StoreWrite) : Bool := (d.storeUsed 0 && !w.fail0) || (d.storeUsed 1 && !w.fail1)

/-- A write to the store, `f` what it makes of a device, and whether it is made: to device 0, then to device 1. -/
def Dev.storeWrite (d : Dev) (w : StoreWrite) (addr : Nat) (f : StoreCopy → StoreCopy) : Dev × Bool :=
  ((d.storeDevice 0 addr w.fail0 f).storeDevice 1 addr w.fail1 f, d.storeMakes w)

/-! ### Signed objects (R542 to R544) -/

/-- A field of an object: `n` bytes at an offset. -/
def objNat (b : List Byte) (off n : Nat) : Nat := leNat ((b.drop off).take n)

def objType (b : List Byte) : Nat := objNat b 6 2
def objBodyLen (b : List Byte) : Nat := objNat b 8 4
def objClass (b : List Byte) : Nat := objNat b 12 1
def objSlot (b : List Byte) : Nat := objNat b 13 1
def objGen (b : List Byte) : Nat := objNat b 16 8
def objBody (b : List Byte) : List Byte := (b.drop 64).take (objBodyLen b)
/-- Header and body: what is signed and measured. -/
def objSigned (b : List Byte) : List Byte := b.take (64 + objBodyLen b)

/-- Bytes of the region of a type. -/
def regionSize (type : Nat) : Nat := if type = 1 then 0xF00000 else if type = 2 then 0x100000 else 0x40000

/-- Order 3: the header, the reserved fields and the length. -/
def headerOk (type : Nat) (b : List Byte) : Bool :=
  objNat b 0 4 == 0x4F53584B && objNat b 4 2 == 1 && objType b == type && objBodyLen b % 8 == 0 && objNat b 14 2 == 0 &&
    objNat b 0x1B 5 == 0 && objNat b 0x30 16 == 0 && b.length == 64 + objBodyLen b + 2824 &&
    objNat b (b.length - 4) 4 == 0 && decide (b.length ≤ regionSize type)

/-- Order 4: the part, the silicon step and the serial number. -/
def Dev.targetOk (d : Dev) (b : List Byte) : Bool :=
  (objNat b 0x18 2 == 0 || objNat b 0x18 2 == d.variant.part) && decide (objNat b 0x1A 1 ≤ 0xB0) &&
    (objNat b 0x20 16 == 0 || (b.drop 0x20).take 16 == d.serialBytes)

/-- Slots of a class. -/
def classSlots (cls : Nat) : Nat := if cls = 1 then 8 else if cls = 2 ∨ cls = 3 then 4 else 0

/-- A key slot. -/
def Dev.keySlot (d : Dev) (cls slot : Nat) : KeySlot := (assoc d.store.keys (8 * cls + slot)).getD { }
def Dev.setKey (d : Dev) (cls slot : Nat) (k : KeySlot) : Dev :=
  { d with store := { d.store with keys := assocSet d.store.keys (8 * cls + slot) k } }
def Dev.keyActive (d : Dev) (cls slot : Nat) : Bool := decide (slot < classSlots cls) && (d.keySlot cls slot).state == 1

/-- Order 5: the key is ACTIVE and allowed for the type. -/
def Dev.signerOk (d : Dev) (b : List Byte) : Bool :=
  d.keyActive (objClass b) (objSlot b) &&
    ((objClass b == 3 && objSlot b == 0) || (objType b == 2 && objClass b == 2 && decide (objSlot b < 4)))

/-- The signature of an object: the 2,820 bytes before its last 4 (R542). -/
def objSig (b : List Byte) : List Byte := (b.drop (b.length - 2824)).take xmssSigLen

/-- Order 6: the signature verifies. -/
def Dev.objectSigned (d : Dev) (b : List Byte) : Bool :=
  xmssVerify (d.keySlot (objClass b) (objSlot b)).key (objSigned b) (objSig b)

/-- An entry of a settings package: page, offset, mask and value (R543). -/
structure SetEntry where
  page : Nat
  off : Nat
  mask : Word
  value : Word

/-- The entries of a TYPE 2 body. -/
def setEntries (b : List Byte) : List SetEntry :=
  let body := objBody b
  (List.range (body.length / 24)).map (fun k =>
    let e := (body.drop (24 * k)).take 24
    ⟨objNat e 0 2, objNat e 2 2 % 4096, BitVec.ofNat 64 (objNat e 8 8), BitVec.ofNat 64 (objNat e 16 8)⟩)

/-- Order 8: what a TYPE 2 body may name. -/
def Dev.bodyOk (d : Dev) (b : List Byte) : Bool :=
  (objBody b).length % 24 == 0 && decide ((objBody b).length ≤ 24 * 32768) && (setEntries b).all (fun e =>
    match pageInfo d.variant e.page with
    | some i => i.present && within 0x040 0xFF8 e.off && e.off % 8 == 0 && decide (i.role ≤ objClass b) &&
        !(e.page == pgCRYPTO && within 0x48 0x67 e.off)
    | none => false)

/-- A settings slot and a firmware slot. -/
def Dev.setSlot (d : Dev) (s : Nat) : List Byte := if s = 0 then d.store.setA else d.store.setB
def Dev.fwSlot (d : Dev) (s : Nat) : List Byte := if s = 0 then d.store.fwA else d.store.fwB

/-- A slot's VALID bits. -/
def Dev.fwValid (d : Dev) (s : Nat) : Bool := d.flag (if s = 0 then R.SSTORE_FW_VALID_A else R.SSTORE_FW_VALID_B)
def Dev.setValid (d : Dev) (s : Nat) : Bool := d.flag (if s = 0 then R.SSTORE_SET_VALID_A else R.SSTORE_SET_VALID_B)

/-- GENERATION against the floor, or against the active settings slot (order 7). -/
def Dev.generationOk (d : Dev) (b : List Byte) : Bool :=
  if objType b = 1 then decide (d.get R.SSTORE_FW_FLOOR ≤ objGen b)
  else if objType b = 2 then
    let a := d.get R.SSTORE_SET_ACTIVE
    !d.setValid a || decide (d.get R.SSTORE_SET_GEN 0 a < objGen b)
  else true

/-- Whether a stored object checks as at a start (17 R564 to R566): orders 3 to 6, and for firmware order 7. -/
def Dev.objectChecks (d : Dev) (type : Nat) (b : List Byte) : Bool :=
  headerOk type b && d.targetOk b && d.signerOk b && d.objectSigned b && (type != 1 || d.generationOk b)

/-! ### Installation (R544, R545) -/

/-- The status with which the checks 3 to 8 refuse an object, if one does; `verifies` is the outcome of order 6. -/
def Dev.installFault (d : Dev) (type : Nat) (b : List Byte) (verifies : Bool) : Option Nat :=
  if !headerOk type b then some 6
  else if !d.targetOk b then some 7
  else if !d.signerOk b then some 8
  else if !verifies then some 9
  else if !d.generationOk b then some 10
  else if type == 2 && !d.bodyOk b then some 11
  else none

/-- An object in its place in the store. -/
def Dev.installed (d : Dev) (type : Nat) (b : List Byte) : Dev :=
  if type = 1 then
    let s := 1 - d.get R.SSTORE_FW_ACTIVE
    let d1 : Dev := { d with store := if s = 0 then { d.store with fwA := b } else { d.store with fwB := b } }
    (d1.put (if s = 0 then R.SSTORE_FW_VALID_A else R.SSTORE_FW_VALID_B) 1).put R.SSTORE_FW_GEN (objGen b) 0 s
  else if type = 2 then
    let s := 1 - d.get R.SSTORE_SET_ACTIVE
    let d1 : Dev := { d with store := if s = 0 then { d.store with setA := b, activeSet := 0 }
      else { d.store with setB := b, activeSet := 1 } }
    (d1.put (if s = 0 then R.SSTORE_SET_VALID_A else R.SSTORE_SET_VALID_B) 1).put R.SSTORE_SET_GEN (objGen b) 0 s
  else { d with store := { d.store with identity := b } }

/-- Where the object of a type goes. -/
def Dev.installAt (d : Dev) (type : Nat) : Nat :=
  if type = 1 then offFw (1 - d.get R.SSTORE_FW_ACTIVE)
  else if type = 2 then offSet (1 - d.get R.SSTORE_SET_ACTIVE) else offIdentity

/-- An object in its place on a device: that of TYPE 3 also gives the factory calibration (R539, R543). -/
def StoreCopy.install (c : StoreCopy) (type slot : Nat) (b : List Byte) : StoreCopy :=
  if type = 1 then
    let c1 := c.eraseFor (offFw slot) b.length
    if slot = 0 then { c1 with fwA := b } else { c1 with fwB := b }
  else if type = 2 then
    let c1 := c.eraseFor (offSet slot) b.length
    if slot = 0 then { c1 with setA := b } else { c1 with setB := b }
  else { (c.eraseFor offIdentity b.length).eraseFor offCalibration b.length with identity := b, calibration := b }

/-- The slot that an install of a type writes. -/
def Dev.installSlot (d : Dev) (type : Nat) : Nat :=
  1 - (if type = 1 then d.get R.SSTORE_FW_ACTIVE else d.get R.SSTORE_SET_ACTIVE)

/-- An object checked and written, with the status: orders 3 to 9 of R544; `verifies` is the outcome of order 6. -/
def Dev.installJudged (d : Dev) (path : Path) (type : Nat) (b : List Byte) (verifies : Bool) (w : StoreWrite) : Dev × Nat :=
  match d.installFault type b verifies with
  | some st => (d.raiseBit R.SSTORE_EVENTS 1, st)
  | none =>
    let r := d.storeWrite w (d.installAt type) (fun c => c.install type (d.installSlot type) b)
    if r.2 then
      let d0 := (r.1.installed type b).raiseBit R.SSTORE_EVENTS 0
      let d1 : Dev := { d0 with boot := { d0.boot with installing := some (d.dial.notch, type) } }
      (d1.journal path 9 pgSSTORE 0x98 0 (BitVec.ofNat 64 (objGen b)), 0)
    else (r.1.raiseBit R.SSTORE_EVENTS 1, 12)

/-- An object checked and written, with the status: orders 3 to 9 of R544. -/
def Dev.install (d : Dev) (path : Path) (type : Nat) (b : List Byte) (w : StoreWrite) : Dev × Nat :=
  d.installJudged path type b (d.objectSigned b) w

/-- The object that SSTORE.CMD names: the MCTP staging area, or SRC_ADDR through the session's installer PF. -/
def Dev.installSource (d : Dev) (path : Path) (src : Nat) (data : Option (List Byte)) : Option (List Byte) :=
  let n := d.get R.SSTORE_SRC_LEN
  let a := d.get R.SSTORE_SRC_ADDR
  if src = 1 then d.sourceBytes (.mctp .i3c) a n none
  else match path with
    | .mctp _ => none
    | _ => d.sourceBytes path a n data

/-- A command of SSTORE.CMD: BUSY during a firmware swap (17 R574) and an install, and in RECOVERY unless it is INSTALL_FW
(17 R565). -/
def Dev.installCommand (d : Dev) (path : Path) (code src : Nat) (data : Option (List Byte)) (w : StoreWrite) :
    Dev :=
  let st := fun (d : Dev) (x : Nat) =>
    ((d.put R.SSTORE_CMD_CODE code).put R.SSTORE_CMD_SRC src).put R.SSTORE_CMD_STATUS x
  d.command path pgSSTORE 0x98 (fldKey R.SSTORE_CMD_CODE 0 0) (fun d => st d 1) (fun d =>
    if d.stage == bsSwapping || (d.stage == bsRecovery && code != 1) || d.installNow (fun _ => true) then st d 1
    else if code = 3 && !rolePasses (d.role path) 3 then st (d.raiseBit R.SSTORE_EVENTS 1) 4
    else
      match d.installSource path src data with
      | none => st ((if src = 1 then d else d.noteRead path data.isNone (d.get R.SSTORE_SRC_ADDR)).raiseBit R.SSTORE_EVENTS 1) 5
      | some b =>
        let r := d.install path code b w
        st r.1 r.2)

/-- INSTALL_FW (R544, R545): a firmware object is checked and written to the slot that is not active. -/
def execInstallFw (path : Path) (src : Nat) (data : Option (List Byte)) (write0 write1 : DeviceWrite) (s : State) :
    Host.Outcome State Fault Refusal :=
  s.act (fun d => d.installCommand path 1 (src % 2) data (.both write0 write1))
/-- INSTALL_SET (R544, R545): a settings package, active from the next start. -/
def execInstallSet (path : Path) (src : Nat) (data : Option (List Byte)) (write0 write1 : DeviceWrite) (s : State) :
    Host.Outcome State Fault Refusal :=
  s.act (fun d => d.installCommand path 2 (src % 2) data (.both write0 write1))
/-- INSTALL_IDENTITY (R544): an identity and calibration object. -/
def execInstallIdentity (path : Path) (src : Nat) (data : Option (List Byte)) (write0 write1 : DeviceWrite)
    (s : State) : Host.Outcome State Fault Refusal :=
  s.act (fun d => d.installCommand path 3 (src % 2) data (.both write0 write1))

/-! ### Keys (R526 to R528) -/

/-- Sessions opened with a slot's key end. -/
def Dev.endKeySessions (d : Dev) (cls slot : Nat) : Dev :=
  d.each ((d.roles.sessions.filter (fun x => x.role == cls && x.slot == slot)).map Session.bank) Dev.endSession

/-- A command of ROLE.KEY_CMD: BUSY during a firmware swap and in RECOVERY. -/
def Dev.keyCommand (d : Dev) (path : Path) (code cls slot : Nat) (f : Dev → Dev × Nat) : Dev :=
  let st := fun (d : Dev) (x : Nat) => (((d.put R.ROLE_KEY_CMD_CODE code).put R.ROLE_KEY_CMD_ARG_CLASS cls).put
    R.ROLE_KEY_CMD_ARG_SLOT slot).put R.ROLE_KEY_CMD_STATUS x
  d.command path pgROLE 0x88 (fldKey R.ROLE_KEY_CMD_CODE 0 0) (fun d => st d 1) (fun d =>
    if d.stage == bsSwapping || d.stage == bsRecovery then st d 1
    else
      let r := f d
      st r.1 r.2)

/-- The key store as it stands but for one slot, written to the devices (R528, R540). -/
def Dev.writeKey (d : Dev) (w : StoreWrite) (cls slot : Nat) (k : KeySlot) : Dev × Bool :=
  d.storeWrite w offKeys (fun c => ({ c with keys := assocSet d.store.keys (8 * cls + slot) k }).erase offKeys)

/-- The key of a slot changed: the sessions it opened end, and the change is journaled. -/
def Dev.changeKey (d : Dev) (path : Path) (kind cls slot : Nat) (k : KeySlot) : Dev :=
  let d1 := (d.setKey cls slot k).raiseBit R.ROLE_EVENTS 4
  (d1.journal path kind pgROLE 0x88 (sessionWord cls slot (d.keySlot cls slot).state) (sessionWord cls slot k.state)).endKeySessions
    cls slot

/-- ENROL (R528): a key is read and written to a slot that is not ACTIVE. -/
def execEnrol (path : Path) (cls slot : Nat) (data : Option (List Byte)) (write : StoreWrite) (s : State) :
    Host.Outcome State Fault Refusal :=
  s.act (fun d =>
    let c := cls % 4
    let n := slot % 16
    d.keyCommand path 1 c n (fun d =>
      if c = 0 ∨ c = 3 ∨ classSlots c ≤ n then (d, 5)
      else if !rolePasses (d.role path) (c + 1) then (d, 4)
      else if d.keyActive c n then (d, 5)
      else
        match d.sourceBytes path (d.get R.ROLE_KEY_ADDR) 68 data with
        | none => (d.noteRead path data.isNone (d.get R.ROLE_KEY_ADDR), 8)
        | some key =>
          if key.take 4 ≠ xmssOid then (d, 6)
          else
            let k : KeySlot := { state := 1, seq := d.get R.ROLE_JOURNAL_SEQ, key := key }
            let r := d.writeKey write c n k
            if r.2 then (r.1.changeKey path 7 c n k, 0) else (r.1, 9)))

/-- The revocation fuse of a maker slot blown (R528). -/
def Dev.blowFuse (d : Dev) (cls slot : Nat) : Dev :=
  if cls = 3 then { d with store := { d.store with blown := d.store.blown ||| 2 ^ slot } } else d

/-- REVOKE (R528): an ACTIVE slot becomes REVOKED, for good where it is a maker's. -/
def execRevoke (path : Path) (cls slot : Nat) (write : StoreWrite) (s : State) : Host.Outcome State Fault Refusal :=
  s.act (fun d =>
    let c := cls % 4
    let n := slot % 16
    d.keyCommand path 2 c n (fun d =>
      if c = 0 ∨ classSlots c ≤ n then (d, 5)
      else if !rolePasses (d.role path) (min 3 (c + 1)) then (d, 4)
      else if !d.keyActive c n then (d, 5)
      else if c = 3 ∧ ((List.range 4).filter (fun k => d.keyActive 3 k)).length = 1 then (d, 7)
      else
        let k : KeySlot := { d.keySlot c n with state := 2 }
        let r := d.writeKey write c n k
        if r.2 then ((r.1.blowFuse c n).changeKey path 8 c n k, 0) else (r.1, 9)))

/-- A key slot record of 96 bytes (R556). -/
def Dev.keyRecord (d : Dev) (cls slot : Nat) : List Byte :=
  let k := d.keySlot cls slot
  let fp := if k.key = [] then List.replicate 16 0 else shake256 k.key 16
  leBytes 8 (cls + slot * 4 + k.state * 32 + k.seq % 2 ^ 56 * 2 ^ 8) ++ (fp ++ List.replicate 16 0).take 16 ++
    (k.key ++ List.replicate 68 0).take 68 ++ leBytes 4 0

/-! ### The journal (R537, R541) -/

/-- Up to `n` of the buffered records, the oldest first, written to the store. -/
def Dev.flushJournal (d : Dev) (w : StoreWrite) (n : Nat) : Dev :=
  let out := d.roles.buffer.take n
  match out.getLast? with
  | none => d
  | some last =>
    let r := d.storeWrite w offJournal (fun c => c.appendAll d.storedChain out)
    if r.2 then
      { r.1 with roles := { r.1.roles with buffer := r.1.roles.buffer.drop n, storedChain := some last.chain } }
    else r.1

/-- JOURNAL_FLUSH (R537): up to `n` of the buffered records are written to the store; records that waited take their places. -/
def execJournalFlush (n : Nat) (write : StoreWrite) (s : State) : Host.Outcome State Fault Refusal :=
  s.act (fun d => (d.flushJournal write n).settleOwed)

end Sys2Proof.Machine
end

