-- ==== Sys2Proof/Machine/Firmware.lean ====
section
/-! DEFINITION. Restarts of the control firmware: swaps, trials, reverts and the watchdog
(spec/17_startup_update.md R570 to R574, R578). -/

namespace Sys2Proof.Machine

/-- The place of BOOT.CMD, and its readback. -/
def bootKey : Key := fldKey R.BOOT_CMD_CODE 0 0
def Dev.bootStatus (d : Dev) (code slot st : Nat) : Dev :=
  ((d.put R.BOOT_CMD_CODE code).put R.BOOT_CMD_ARG_SLOT slot).put R.BOOT_CMD_STATUS st

/-- A command of BOOT.CMD: BUSY during a swap (R574), but BAD_STATE for a COMMIT_FW in the Notch in which the trial ended
by itself (R578); otherwise `f`; PENDING goes on. -/
def Dev.bootCommand (d : Dev) (path : Path) (code slot : Nat) (f : Dev → Dev × Nat) : Dev :=
  let st := fun (d : Dev) (x : Nat) => d.bootStatus code slot x
  d.command path pgBOOT 0x58 bootKey (fun d => st d 1) (fun d =>
    match d.boot.swap with
    | some x => st d (if code = 2 && !x.command && x.since == d.dial.notch then 6 else 1)
    | none =>
      let r := f d
      let d1 := st r.1 r.2
      if r.2 = 2 then d1.cmdStart bootKey else d1)

/-- Step 1 of a restart on a slot (R571). A revert of a swap in progress keeps the stage the swap found. When the running
firmware has written its handover state no command shows: a free value (notes/assumptions/137). -/
def Dev.startSwap (d : Dev) (new : Nat) (command trial : Bool) : Dev :=
  let stage := d.startStage
  let r := d.free
  { (r.2.put R.BOOT_STATUS_STAGE bsSwapping) with boot := { d.boot with
      swap := some { old := d.get R.SSTORE_FW_ACTIVE, new := new, command := command, trial := trial
                     since := d.dial.notch, handover := d.dial.notch + 1 + r.1.toNat, stage := stage } } }

/-- The trial ends (R572). -/
def Dev.endTrial (d : Dev) : Dev :=
  ({ d with boot := { d.boot with trialEnd := none } }).put R.BOOT_STATUS_FW_TRIAL 0 |>.put R.BOOT_TRIAL_LEFT_S 0

/-- A revert: the firmware restarts on the committed slot, with no trial (R572). -/
def Dev.revert (d : Dev) (command : Bool) : Dev :=
  (d.endTrial.startSwap d.store.committed command false).raiseBit R.BOOT_EVENTS 2

/-- A control core stopped by a firmware restart, and started afresh: every source ACTIVE on it is completed and a
presentation to it withdrawn (R571; 14 R474). -/
def Dev.restartCtrl (d : Dev) (c : Nat) : Dev :=
  let x := d.ctrl c
  let active := (x.stack.filter (fun e => !e.exc && e.vec != 2047)).map CtrlEntry.vec
  let d1 := d.each active Dev.complete
  let d2 := match x.outst with | some (s, _) => d1.withdraw s | none => d1
  let d3 : Dev := { d2 with
    control := { d2.control with cores := assocDel d2.control.cores c }
    glens := { d2.glens with threads := assocDel d2.glens.threads (.ctrl c) } }
  d3.put R.CTRLCORE_CORE_STOPPED 0 0 c

/-- Step 2 of a restart (R571): the control cores restart on the new image, and the restart is journaled. -/
def Dev.loadFirmware (d : Dev) : Dev :=
  match d.boot.swap with
  | none => d
  | some x =>
    let d1 := ((d.each (List.range 16) Dev.restartCtrl).put R.CTRLCORE_STOPPED_MAP 0).coreReason
    let d2 := (((d1.put R.HEALTH_STATUS_CTRL_STOPPED 0).put R.SSTORE_FW_ACTIVE x.new).put R.BOOT_WDOG_KICKS 0)
    let d3 := d2.journalOwn (d2.recordOf 4 0 .firmware 12 pgBOOT 0x58 (BitVec.ofNat 64 x.old) (BitVec.ofNat 64 x.new))
    { d3 with boot := { d3.boot with swap := some { x with stopped := some d.dial.notch } } }

/-- Step 2 where the handover state was written in time. -/
def Dev.handoverDue (d : Dev) : Dev :=
  match d.boot.swap with
  | some x =>
    if x.stopped.isNone && decide (x.handover ≤ d.dial.notch) && decide (x.handover < x.since + 312500) then d.loadFirmware else d
  | none => d

/-- SWAP_FW (R571): the control firmware is restarted on a slot; `copy` says where the slot reads back for its check. -/
def execSwapFw (path : Path) (slot : Nat) (copy : RegionCopy) (s : State) : Host.Outcome State Fault Refusal :=
  s.act (fun d =>
    let n := slot % 2
    d.bootCommand path 1 n (fun d =>
      if d.choose copy (fun c => d.objectChecks 1 (if n = 0 then c.fwA else c.fwB)) = .neither then (d, 5)
      else if d.flag R.BOOT_STATUS_FW_TRIAL || d.installNow (fun t => t == 1) then (d, 6)
      else (d.startSwap n true true, 2)))

/-- COMMIT_FW (R572): the running slot becomes the committed slot. -/
def execCommitFw (path : Path) (s : State) : Host.Outcome State Fault Refusal :=
  s.act (fun d => d.bootCommand path 2 0 (fun d =>
    if !d.flag R.BOOT_STATUS_FW_TRIAL then (d, 6)
    else
      let n := d.get R.SSTORE_FW_ACTIVE
      (({ d with store := { d.store with committed := n } }).put R.BOOT_STATUS_COMMITTED_SLOT n |>.endTrial, 0)))

/-- REVERT_FW (R572): the firmware reverts to the committed slot; the command is PENDING until it runs. -/
def execRevertFw (path : Path) (s : State) : Host.Outcome State Fault Refusal :=
  s.act (fun d => d.bootCommand path 3 0 (fun d =>
    if !d.flag R.BOOT_STATUS_FW_TRIAL then (d, 6) else (d.revert true, 2)))

/-- TRIAL_EXPIRY (R572): LIMIT_S seconds of dial time pass without a commit. -/
def execTrialExpiry (s : State) : Host.Outcome State Fault Refusal :=
  s.act (fun d =>
    match d.boot.trialEnd with
    | some t => if timeNs t ≤ timeNs d.now ∧ d.boot.swap.isNone then d.revert false else d
    | none => d)

/-- FW_HANDOVER_TIMEOUT (R571): step 1 reaches 312,500 Notches without a handover state. -/
def execFwHandoverTimeout (s : State) : Host.Outcome State Fault Refusal :=
  s.act (fun d =>
    match d.boot.swap with
    | some x => if x.stopped.isNone ∧ x.since + 312500 ≤ d.dial.notch then d.loadFirmware else d
    | none => d)

/-- A swap whose new firmware does not come to run: step 2 has taken place, and the device reverts (R571). -/
def Dev.failSwap (d : Dev) (x : FwSwap) : Dev :=
  (if x.stopped.isNone then d.loadFirmware else d).revert x.command

/-- SWAP_TIMEOUT (R571): the new firmware of a swap does not report itself running within 1,562,500 Notches of step 2.
`step2` is the Notch of step 2 where the handover state was written in time, which no command shows. -/
def execSwapTimeout (step2 : Nat) (s : State) : Host.Outcome State Fault Refusal :=
  s.act (fun d =>
    match d.boot.swap with
    | some x =>
      let n := x.stopped.getD (max x.since (min step2 (x.since + 312500)))
      if x.trial && decide (n + 1562500 ≤ d.dial.notch) then d.failSwap x else d
    | none => d)

/-- WDOG_KICK (R573, R579): a write to BOOT.WDOG. By the device role it is a kick; by any other it is a role violation. -/
def execWdogKick (path : Path) (s : State) : Host.Outcome State Fault Refusal :=
  s.act (fun d =>
    if !d.reaches path pgBOOT || d.held then d
    else if path == .firmware then
      { ((d.count R.BOOT_WDOG_KICKS 1).put R.BOOT_WDOG_LAST d.dial.notch) with
        boot := { d.boot with wdogFrom := d.dial.notch } }
    else (d.touch path).roleError path pgBOOT 0x68)

/-- WATCHDOG_EXPIRY (R573): no kick for 15,625,000 Notches in SERVICE: the firmware restarts on the committed slot, with no
handover state. -/
def execWatchdogExpiry (s : State) : Host.Outcome State Fault Refusal :=
  s.act (fun d =>
    if d.stage = bsService ∧ d.boot.wdogFrom + 15625000 ≤ d.dial.notch then
      ((d.revert false).loadFirmware).raiseBit R.BOOT_EVENTS 3
    else d)

end Sys2Proof.Machine
end

