-- ==== Sys2Proof/Machine/Tables.lean ====
section
/-! DEFINITION. The table engine: hashing, lookups, the flow cache, insertion with relocations and the move log, deletion
and ageing (spec/07_tables.md R245 to R276). Tables are named by their ARG_TABLE number: 0 to 15 flow tables, 16 the route
table, 17 the MAC table (R245). -/

namespace Sys2Proof.Machine

/-! ### The kinds of table (R245, R249 to R251) -/

/-- A field of a store. -/
def Store.get (s : Store) (f : Fld) (u i : Nat := 0) : Nat := (s.word (fldKey f u i)).field f.lo f.w

/-- The state fields of a table, and the instance of them. -/
structure TabFlds where
  active : Fld
  state : Fld
  rehash : Fld
  cntA : Fld
  cntS : Fld
  inst : Nat
deriving DecidableEq, Repr

/-- The state fields of table `a`. -/
def tabFlds (a : Nat) : TabFlds :=
  if a = 16 then ⟨R.TABLE_RT_STATE_ACTIVE, R.TABLE_RT_STATE_STATE, R.TABLE_RT_STATE_REHASH_REQ, R.TABLE_RT_STATE_COUNT_ACTIVE,
    R.TABLE_RT_STATE_COUNT_SHADOW, 0⟩
  else if a = 17 then ⟨R.TABLE_MAC_STATE_ACTIVE, R.TABLE_MAC_STATE_STATE, R.TABLE_MAC_STATE_REHASH_REQ,
    R.TABLE_MAC_STATE_COUNT_ACTIVE, R.TABLE_MAC_STATE_COUNT_SHADOW, 0⟩
  else ⟨R.TABLE_FT_STATE_ACTIVE, R.TABLE_FT_STATE_STATE, R.TABLE_FT_STATE_REHASH_REQ, R.TABLE_FT_STATE_COUNT_ACTIVE,
    R.TABLE_FT_STATE_COUNT_SHADOW, a⟩

/-- The place fields of an entry record of a kind. -/
structure EntFlds where
  valid : Fld
  bank : Fld
  slot : Fld
  bucket : Fld
deriving DecidableEq, Repr

/-- The place fields of the entries of table `a`. -/
def entFlds (a : Nat) : EntFlds :=
  if a = 16 then ⟨R.ROUTE_W0_VALID, R.ROUTE_W0_BANK, R.ROUTE_W0_SLOT, R.ROUTE_W0_BUCKET⟩
  else if a = 17 then ⟨R.MACENT_W0_VALID, R.MACENT_W0_BANK, R.MACENT_W0_SLOT, R.MACENT_W0_BUCKET⟩
  else ⟨R.FLOW_W0_VALID, R.FLOW_W0_BANK, R.FLOW_W0_SLOT, R.FLOW_W0_BUCKET⟩

/-- The fields of a bucket's slots: signature, entry, alternative bucket. -/
def slotFlds (a : Nat) : Fld × Fld × Fld :=
  if a = 16 then (R.ROUTEBKT_SLOT_SIG, R.ROUTEBKT_SLOT_ENTRY, R.ROUTEBKT_SLOT_ALT)
  else if a = 17 then (R.MACBKT_SLOT_SIG, R.MACBKT_SLOT_ENTRY, R.MACBKT_SLOT_ALT)
  else (R.FLOWBKT_SLOT_SIG, R.FLOWBKT_SLOT_ENTRY, R.FLOWBKT_SLOT_ALT)

/-- Where entries and buckets of table `a` lie. -/
def entSpace (a : Nat) : Space := (entFlds a).valid.sp
def bktSpace (a : Nat) : Space := (slotFlds a).1.sp

/-- Log2 of the buckets of a bank, and the window index of a bucket (R245, R283). -/
def Store.logBuckets (s : Store) (a : Nat) : Nat :=
  if a = 16 then 19 else if a = 17 then 16 else s.get R.TABLE_FT_CFG_BUCKET_LOG2 0 a
def bktIdx (a bank b : Nat) : Nat :=
  if a = 16 then bank * 2 ^ 19 + b else if a = 17 then bank * 2 ^ 16 + b else a * 2 ^ 23 + bank * 2 ^ 22 + b

/-- The range of entry indexes of a table. -/
def Store.entBase (s : Store) (a : Nat) : Nat := if 16 ≤ a then 0 else s.get R.TABLE_FT_CFG_BASE 0 a
def Store.entCount (s : Store) (a : Nat) : Nat := 8 * 2 ^ s.logBuckets a

/-- Entries of the whole array of a kind. -/
def arrayLen (v : Variant) (a : Nat) : Nat := if a = 16 then 4194304 else if a = 17 then 524288 else 2 ^ v.flowLog2

/-- Active bank, and whether the table is REBUILDING. -/
def Store.activeBank (s : Store) (a : Nat) : Nat := s.get (tabFlds a).active 0 (tabFlds a).inst
def Store.rebuilding (s : Store) (a : Nat) : Bool := s.get (tabFlds a).state 0 (tabFlds a).inst == 1

/-- The bank into which an insertion goes (R260, R261). -/
def Store.insertBank (s : Store) (a : Nat) : Nat :=
  if s.rebuilding a then 1 - s.activeBank a else s.activeBank a

/-- The seed register of a bank. -/
def Store.seed (s : Store) (a k : Nat) : Nat :=
  if a = 16 then s.get R.TABLE_RT_SEED 0 k
  else if a = 17 then s.get R.TABLE_MAC_SEED 0 k
  else if k = 0 then s.get R.TABLE_FT_SEED0 0 a else s.get R.TABLE_FT_SEED1 0 a

/-- Entries held in both banks. -/
def Store.holds (s : Store) (a : Nat) : Nat :=
  s.get (tabFlds a).cntA 0 (tabFlds a).inst + s.get (tabFlds a).cntS 0 (tabFlds a).inst

/-! ### Hashing (R246, R247) -/

/-- The key bytes of key words. -/
def keyBytes (key : List Word) : List Byte := key.flatMap (fun w => leBytes 8 w.toNat)

/-- crc32c(init, bytes) of R247. -/
def crc32cFrom (init : Nat) (bs : List Byte) : Nat := (crc32cStep init bs) ^^^ 0xFFFFFFFF

/-- What the engine computes for a key under a seed register and a bank of `2^l` buckets. -/
structure Hash where
  hA : Nat
  b1 : Nat
  b2 : Nat
  sig : Nat
deriving DecidableEq, Repr

/-- The two candidate buckets and the signature of a key (R247). -/
def hashKey (seed l : Nat) (key : List Word) : Hash :=
  let bs := keyBytes key
  let hA := crc32cFrom (seed % 2 ^ 32) bs
  let hB := crc32cFrom (seed / 2 ^ 32) bs
  let b1 := hA % 2 ^ l
  let b2 := if hB % 2 ^ l = b1 then b1 ^^^ 1 else hB % 2 ^ l
  let sig := (hA ^^^ hB) / 2 ^ 16 % 2 ^ 16
  ⟨hA, b1, b2, if sig = 0 then 1 else sig⟩

/-- The hash of a key in a bank of table `a`. -/
def Store.hash (s : Store) (a bank : Nat) (key : List Word) : Hash := hashKey (s.seed a bank) (s.logBuckets a) key

/-- The three key words of a route (R246): the masked address, and VRF, length and family. -/
def routeKey (vrf fam len : Nat) (hi lo : Word) : List Word :=
  let w2 : Word := BitVec.ofNat 64 (vrf % 4096 + len % 256 * 2 ^ 12 + fam % 2 * 2 ^ 20)
  if fam = 0 then
    [BitVec.ofNat 64 (hi.toNat % 2 ^ 32 / 2 ^ (32 - len) * 2 ^ (32 - len)), 0, w2]
  else
    let a := (hi.toNat * 2 ^ 64 + lo.toNat) / 2 ^ (128 - len) * 2 ^ (128 - len)
    [BitVec.ofNat 64 (a / 2 ^ 64), BitVec.ofNat 64 a, w2]

/-- The key words that entry `e` of table `a` holds, `n` of them for a flow entry. -/
def Store.keyOf (s : Store) (a e n : Nat) : List Word :=
  if a = 16 then
    [s.word ⟨.ROUTE, e, 1⟩, s.word ⟨.ROUTE, e, 2⟩,
      BitVec.ofNat 64 (s.get R.ROUTE_W0_VRF e + s.get R.ROUTE_W0_LEN e * 2 ^ 12 + s.get R.ROUTE_W0_FAMILY e * 2 ^ 20)]
  else if a = 17 then [s.word ⟨.MACENT, e, 1⟩]
  else (List.range n).map (fun w => s.word ⟨.FLOW, e, 2 + w⟩)

/-- Entry `e` is valid, of table `a`, and holds a key. -/
def Store.entryIs (s : Store) (a e : Nat) (key : List Word) : Bool :=
  s.get (entFlds a).valid e == 1 && (decide (16 ≤ a) || s.get R.FLOW_W0_TABLE e == a) && s.keyOf a e key.length == key

/-! ### Probes (R252, R275) -/

/-- An entry, and a slot, in error. -/
def entryBad (bad : List Key) (a e : Nat) : Bool := bad.any (fun k => decide (k.sp = entSpace a) && k.idx == e)
def slotBad (bad : List Key) (a bank b i : Nat) : Bool := bad.contains ⟨bktSpace a, bktIdx a bank b, i⟩

/-- Signature, entry and alternative bucket of a slot. -/
def Store.slotSig (s : Store) (a bank b i : Nat) : Nat := s.get (slotFlds a).1 (bktIdx a bank b) i
def Store.slotEntry (s : Store) (a bank b i : Nat) : Nat := s.get (slotFlds a).2.1 (bktIdx a bank b) i
def Store.slotAlt (s : Store) (a bank b i : Nat) : Nat := s.get (slotFlds a).2.2 (bktIdx a bank b) i

/-- One bank probed for a key: the entry that matches, and the places in error that were read. -/
def Store.probeBank (s : Store) (bad : List Key) (a bank : Nat) (key : List Word) : Option Nat × List Key :=
  let h := s.hash a bank key
  let places := [h.b1, h.b2].flatMap (fun b => (List.range 8).map (fun i => (b, i)))
  let errS := (places.filter (fun p => slotBad bad a bank p.1 p.2)).map (fun p => (⟨bktSpace a, bktIdx a bank p.1, p.2⟩ : Key))
  let good := places.filter (fun p => !slotBad bad a bank p.1 p.2 && s.slotSig a bank p.1 p.2 == h.sig)
  let ents := good.map (fun p => s.slotEntry a bank p.1 p.2)
  let errE := (ents.filter (entryBad bad a)).map (fun e => (⟨entSpace a, e, 0⟩ : Key))
  (ents.find? (fun e => !entryBad bad a e && s.entryIs a e key), errS ++ errE)

/-- The entry of a live move-log entry of a table that holds a key (R259); one in error takes no part (R275). -/
def Store.logHit (s : Store) (bad : List Key) (a : Nat) (key : List Word) : Option Nat :=
  ((List.range 32).find? (fun i => s.get R.MOVELOG_W0_STATE i != 0 && s.get R.MOVELOG_W0_TABLE i == a &&
    !entryBad bad a (s.get R.MOVELOG_W0_ENTRY i) && s.entryIs a (s.get R.MOVELOG_W0_ENTRY i) key)).map (fun i => s.get R.MOVELOG_W0_ENTRY i)

/-- The banks of a table probed in turn (R252, R261). -/
def Store.probe (s : Store) (bad : List Key) (a : Nat) (key : List Word) : Option Nat × List Key :=
  let act := s.activeBank a
  let r := s.probeBank bad a act key
  match r.1 with
  | some _ => r
  | none =>
    if s.rebuilding a then
      let r2 := s.probeBank bad a (1 - act) key
      (r2.1, r.2 ++ r2.2)
    else r

/-- A key looked up in the move log and then in the banks. -/
def Store.find (s : Store) (bad : List Key) (a : Nat) (key : List Word) : Option Nat × List Key :=
  match s.logHit bad a key with
  | some e => (some e, [])
  | none => s.probe bad a key

/-! ### Errors (R274, R275) -/

/-- TABLE.ECC_ADDR of a place in error. -/
def eccAddr (k : Key) : Nat :=
  let kind := match k.sp with
    | .ROUTE | .ROUTEBKT => 1 | .MACENT | .MACBKT => 2 | .FILTER | .VRF => 3 | _ => 0
  let obj := match k.sp with
    | .FLOWBKT | .ROUTEBKT | .MACBKT => 0 | .FILTER => 2 | .VRF => 3 | _ => 1
  let bank := match k.sp with
    | .FLOWBKT => k.idx / 2 ^ 22 % 2 | .ROUTEBKT => k.idx / 2 ^ 19 | .MACBKT => k.idx / 2 ^ 16 | _ => 0
  let idx := match k.sp with
    | .FLOWBKT => k.idx % 2 ^ 22 | .ROUTEBKT => k.idx % 2 ^ 19 | .MACBKT => k.idx % 2 ^ 16
    | .FILTER => 16 * k.idx + k.word | _ => k.idx
  kind + obj * 4 + bank % 2 * 2 ^ 4 + idx % 2 ^ 25 * 2 ^ 8

/-- A place in error reported; its region of HBM is repaired (15 R507). -/
def Dev.tableError (d : Dev) (k : Key) : Dev :=
  (((d.putWord ⟨.TABLE, 0, 30⟩ (BitVec.ofNat 64 (eccAddr k))).raiseBit R.TABLE_EVENTS 2).error pgTABLE 6 0 (eccAddr k)).objectFault k

/-- What a lookup met in the memories: corrected words counted, and new places in error remembered. -/
def Dev.meet (d : Dev) (m : TableMem) : Dev :=
  let d1 := (d.count R.TABLE_ECC_CORR m.corrected.length).each m.corrected Dev.objectCorrected
  { d1 with tables := { d1.tables with bad := (d1.tables.bad ++ m.bad).eraseDups } }

/-- A place rewritten is in error no more (R276). -/
def Dev.mend (d : Dev) (p : Key → Bool) : Dev :=
  { d with tables := { d.tables with bad := d.tables.bad.filter (fun k => !p k) } }

/-! ### Age stamps (R271) -/

/-- NOW_UNIT. -/
def Dev.nowUnit (d : Dev) : Nat := d.dial.notch / 1024 % 2 ^ 32

/-- An entry's stamp brought to NOW_UNIT; route entries have none. -/
def Dev.stamp (d : Dev) (a e : Nat) : Dev :=
  if a = 16 then d
  else if a = 17 then d.put R.MACENT_W0_STAMP d.nowUnit e
  else d.put R.FLOW_W0_STAMP d.nowUnit e

/-- STATIC of an entry. -/
def Store.static (s : Store) (a e : Nat) : Bool :=
  if a = 16 then true else if a = 17 then s.get R.MACENT_W0_STATIC e == 1 else s.get R.FLOW_W0_STATIC e == 1

/-! ### The flow cache (R255) -/

/-- The cache with every copy that a predicate names gone. -/
def Dev.uncache (d : Dev) (p : Nat → Nat → Bool) : Dev :=
  { d with tables := { d.tables with cache := d.tables.cache.map (fun x => (x.1, x.2.filter (fun w => !p w.1 w.2))) } }

/-- An entry put first among the ways of a set, the least recently hit way beyond 8 leaving. -/
def Dev.cachePut (d : Dev) (set a e : Nat) : Dev :=
  let ways := ((assoc d.tables.cache set).getD []).filter (fun w => w != (a, e))
  { d with tables := { d.tables with cache := assocSet d.tables.cache set (((a, e) :: ways).take 8) } }

/-- The cached entry of a set that holds a key of table `a`. -/
def Dev.cacheHit (d : Dev) (set a : Nat) (key : List Word) : Option Nat :=
  (((assoc d.tables.cache set).getD []).find? (fun w => w.1 == a && d.start.entryIs a w.2 key)).map Prod.snd

/-! ### Routes: counts, maps and the filter (R264, R265) -/

/-- The two filter counters of a route key. -/
def Store.filterIdx (s : Store) (key : List Word) : Nat × Nat :=
  let sd := s.get R.TABLE_RT_FILTER_SEED
  (crc32cFrom (sd % 2 ^ 32) (keyBytes key) % 2 ^ 24, crc32cFrom (sd / 2 ^ 32) (keyBytes key) % 2 ^ 24)

/-- A counter of the filter, and the device with it set. -/
def Store.filterAt (s : Store) (n : Nat) : Nat := (s.word ⟨.FILTER, n / 16, 0⟩).field (4 * (n % 16)) 4
def Dev.setFilter (d : Dev) (n v : Nat) : Dev :=
  d.putWord ⟨.FILTER, n / 16, 0⟩ ((d.word ⟨.FILTER, n / 16, 0⟩).withField (4 * (n % 16)) 4 v)

/-- A counter raised; one that reaches 15 stays there. -/
def Dev.filterUp (d : Dev) (n : Nat) : Dev :=
  let v := d.regs.filterAt n
  if v = 15 then d
  else
    let d1 := d.setFilter n (v + 1)
    if v = 14 then d1.count R.TABLE_RT_FILTER_SAT 1 else d1

/-- A counter lowered, unless it stands at 15. -/
def Dev.filterDown (d : Dev) (n : Nat) : Dev :=
  let v := d.regs.filterAt n
  if v = 15 ∨ v = 0 then d else d.setFilter n (v - 1)

/-- The place of a length's bit in a VRF's length maps. -/
def mapBit (fam len : Nat) : Nat × Nat := if fam = 0 then (1, len) else (2 + len / 64, len % 64)

/-- A route of a VRF, family and length added or taken away: count, map and filter follow. -/
def Dev.routeCount (d : Dev) (vrf fam len : Nat) (key : List Word) (add : Bool) : Dev :=
  let k := (vrf, (fam, len))
  let n := (assoc d.tables.routes k).getD 0
  let n' := if add then n + 1 else n - 1
  let m := mapBit fam len
  let f := d.regs.filterIdx key
  let d1 : Dev := { d with tables := { d.tables with
    routes := if n' = 0 then assocDel d.tables.routes k else assocSet d.tables.routes k n' } }
  let d2 := d1.putWord ⟨.VRF, vrf, m.1⟩ ((d1.word ⟨.VRF, vrf, m.1⟩).withField m.2 1 (if n' = 0 then 0 else 1))
  if add then (d2.filterUp f.1).filterUp f.2 else (d2.filterDown f.1).filterDown f.2

/-! ### Slots and entries written (R249 to R251, R256) -/

/-- A slot written, or cleared. -/
def Dev.putSlot (d : Dev) (a bank b i sig e alt : Nat) : Dev :=
  let u := bktIdx a bank b
  ((((d.putWord ⟨bktSpace a, u, i⟩ 0).put (slotFlds a).1 sig u i).put (slotFlds a).2.1 e u i).put (slotFlds a).2.2 alt u
    i).mend (fun k => k == ⟨bktSpace a, u, i⟩)
def Dev.clearSlot (d : Dev) (a bank b i : Nat) : Dev := d.putSlot a bank b i 0 0 0

/-- The count of the bank's entries changed. -/
def Dev.countEntry (d : Dev) (a bank : Nat) (add : Bool) : Dev :=
  let t := tabFlds a
  let f := if bank = d.regs.activeBank a then t.cntA else t.cntS
  if add then d.count f 1 0 t.inst else d.less f 1 0 t.inst

/-- Where the record of an entry says its slot is. -/
def Dev.putPlace (d : Dev) (a e bank b i : Nat) : Dev :=
  (((d.put (entFlds a).bank bank e).put (entFlds a).bucket b e).put (entFlds a).slot i e)

/-- The insertions and migrations that the engine carries. -/
def Dev.jobs (d : Dev) : List TableJob := d.tables.cmd.toList ++ d.tables.learns

/-- An entry index, and a slot, that an insertion in progress has taken (R256). -/
def Dev.takenEntry (d : Dev) (a e : Nat) : Bool := d.jobs.any (fun j => entSpace j.table == entSpace a && j.entry == some e)
def Dev.takenSlot (d : Dev) (a bank b i : Nat) : Bool :=
  d.jobs.any (fun j => j.table == a && j.bank == bank &&
    (j.dest.any (fun x => x.1 == b && x.2.1 == i) || j.moves.any (fun x => x.1 == (b, i) || x.2 == (b, i))))

/-- The lowest free index of a table's entry range, looking at `fuel` of them from `e`. -/
def Dev.freeEntry (d : Dev) (a lim e : Nat) : Nat → Option Nat
  | 0 => none
  | fuel + 1 =>
    if lim ≤ e then none
    else if d.regs.get (entFlds a).valid e = 1 || entryBad d.tables.bad a e || d.takenEntry a e then
      Dev.freeEntry d a lim (e + 1) fuel
    else some e

/-- The lowest free index of a table's range. -/
def Dev.lowestEntry (d : Dev) (a : Nat) : Option Nat :=
  d.freeEntry a (d.regs.entBase a + d.regs.entCount a) (d.regs.entBase a)
    ((d.regs.filter (fun x => decide (x.1.sp = entSpace a))).length + d.tables.bad.length + d.jobs.length + 1)

/-- The words of an entry cleared, which is in error no more. -/
def Dev.wipeEntry (d : Dev) (a e : Nat) : Dev :=
  (d.each (List.range 16) (fun d w => d.putWord ⟨entSpace a, e, w⟩ 0)).mend (fun k => decide (k.sp = entSpace a) && k.idx == e)

/-- The record of a new entry, all its other words 0. -/
def Dev.putEntry (d : Dev) (a e : Nat) (key data : List Word) (static : Bool) (learner : Nat) : Dev :=
  let d0 := d.wipeEntry a e
  if a = 16 then
    let w2 := (nth key 2 0).toNat
    let d1 := ((((d0.put R.ROUTE_W0_VALID 1 e).put R.ROUTE_W0_FAMILY (w2 / 2 ^ 20) e).put R.ROUTE_W0_LEN (w2 / 2 ^ 12) e).put
      R.ROUTE_W0_VRF w2 e)
    ((d1.putWord ⟨.ROUTE, e, 1⟩ (nth key 0 0)).putWord ⟨.ROUTE, e, 2⟩ (nth key 1 0)).putWord ⟨.ROUTE, e, 3⟩ (nth data 0 0)
  else if a = 17 then
    let d1 := (d0.put R.MACENT_W0_VALID 1 e).put R.MACENT_W0_STATIC (bit static) e
    (((d1.putWord ⟨.MACENT, e, 1⟩ (nth key 0 0)).putWord ⟨.MACENT, e, 2⟩ (nth data 0 0)).put R.MACENT_LEARNER learner e).stamp
      a e
  else
    let d1 := ((d0.put R.FLOW_W0_VALID 1 e).put R.FLOW_W0_TABLE a e).put R.FLOW_W0_STATIC (bit static) e
    let d2 := d1.each key.zipIdx (fun d x => d.putWord ⟨.FLOW, e, 2 + x.2⟩ x.1)
    (d2.each (data.take 4).zipIdx (fun d x => d.putWord ⟨.FLOW, e, 10 + x.2⟩ x.1)).stamp a e

/-- An entry's data words, and the device with data and STATIC overwritten. -/
def Store.dataOf (s : Store) (a e : Nat) : List Word :=
  if a = 16 then [s.word ⟨.ROUTE, e, 3⟩]
  else if a = 17 then [s.word ⟨.MACENT, e, 2⟩]
  else (List.range 4).map (fun w => s.word ⟨.FLOW, e, 10 + w⟩)
def Dev.putData (d : Dev) (a e : Nat) (data : List Word) (static : Bool) : Dev :=
  if a = 16 then d.putWord ⟨.ROUTE, e, 3⟩ (nth data 0 0)
  else if a = 17 then (d.putWord ⟨.MACENT, e, 2⟩ (nth data 0 0)).put R.MACENT_W0_STATIC (bit static) e
  else (d.each (data.take 4).zipIdx (fun d x => d.putWord ⟨.FLOW, e, 10 + x.2⟩ x.1)).put R.FLOW_W0_STATIC (bit static) e

/-! ### The search for a path (R256) -/

/-- The lowest empty slot of a bucket; one in error, or taken by an insertion in progress, counts as occupied. -/
def Dev.emptySlot (d : Dev) (a bank b : Nat) : Option Nat :=
  (List.range 8).find? (fun i => !slotBad d.tables.bad a bank b i && d.regs.slotSig a bank b i == 0 && !d.takenSlot a bank b i)

/-- The occupants of a bucket that can be moved: slot and alternative bucket. -/
def Dev.occupants (d : Dev) (a bank b : Nat) : List (Nat × Nat) :=
  ((List.range 8).filter (fun i => !slotBad d.tables.bad a bank b i && d.regs.slotSig a bank b i != 0 &&
    !entryBad d.tables.bad a (d.regs.slotEntry a bank b i) && !d.takenSlot a bank b i)).map (fun i => (i, d.regs.slotAlt a bank b i))

/-- The first path found breadth-first from the buckets of a queue, each with the slots left to reach it: the path, and
the bucket and slot at its end. -/
def Dev.searchPath (d : Dev) (a bank : Nat) : Nat → List (Nat × List (Nat × Nat)) → List Nat →
    Option (List (Nat × Nat) × (Nat × Nat))
  | 0, _, _ => none
  | _ + 1, [], _ => none
  | fuel + 1, (b, p) :: rest, seen =>
    if 4 ≤ p.length then Dev.searchPath d a bank fuel rest seen
    else
      let nexts := (d.occupants a bank b).filter (fun x => !seen.contains x.2)
      match nexts.find? (fun x => (d.emptySlot a bank x.2).isSome) with
      | some x => some (p ++ [(b, x.1)], (x.2, (d.emptySlot a bank x.2).getD 0))
      | none =>
        Dev.searchPath d a bank fuel (rest ++ nexts.map (fun x => (x.2, p ++ [(b, x.1)]))) (seen ++ nexts.map Prod.snd)

/-- The relocations along a path, last first: each slot moves to the next place. -/
def pathMoves (p : List (Nat × Nat)) (last : Nat × Nat) : List ((Nat × Nat) × (Nat × Nat)) :=
  (p.zip (p.drop 1 ++ [last])).reverse

/-- What an insertion of a key into a bank needs: a slot of a candidate bucket at once, or relocations, or nothing that
serves (R256, R257). -/
inductive Plan where
  | place (b i alt : Nat)
  | moves (l : List ((Nat × Nat) × (Nat × Nat)))
  | full
deriving DecidableEq, Repr

/-- The plan of an insertion. -/
def Dev.plan (d : Dev) (a bank : Nat) (key : List Word) : Plan :=
  let h := d.regs.hash a bank key
  match d.emptySlot a bank h.b1 with
  | some i => .place h.b1 i h.b2
  | none =>
    match d.emptySlot a bank h.b2 with
    | some i => .place h.b2 i h.b1
    | none =>
      match d.searchPath a bank 10000 [(h.b1, []), (h.b2, [])] [h.b1, h.b2] with
      | some (p, last) => .moves (pathMoves p last)
      | none => .full

/-! ### The move log (R258, R259) -/

/-- A free move-log entry. -/
def Dev.freeLog (d : Dev) : Option Nat := (List.range 32).find? (fun i => d.get R.MOVELOG_W0_STATE i == 0)

/-- The live move-log entries counted (R281). -/
def Dev.countLog (d : Dev) : Dev :=
  let n := d.tables.logAt.length
  (d.put R.TABLE_MOVELOG_OCC n).put R.TABLE_MOVELOG_MAX (max n (d.get R.TABLE_MOVELOG_MAX))

/-- A move begun in log entry `n`: COPY, and the slot written at its destination with its alternative bucket. -/
def Dev.beginMove (d : Dev) (a n bank b i toBank toB toI alt : Nat) : Dev :=
  let e := d.regs.slotEntry a bank b i
  let sig := if bank = toBank then d.regs.slotSig a bank b i
    else (d.regs.hash a toBank (d.regs.keyOf a e (d.get R.TABLE_FT_CFG_KEY_WORDS 0 a + 1))).sig
  let d1 := d.putSlot a toBank toB toI sig e alt
  let d2 := (((((d1.put R.MOVELOG_W0_STATE 1 n).put R.MOVELOG_W0_TABLE a n).put R.MOVELOG_W0_CROSS
    (bit (bank != toBank)) n).put R.MOVELOG_W0_ENTRY e n).put R.MOVELOG_W0_FROM_BANK bank n).put R.MOVELOG_W0_TO_BANK toBank n
  let d3 := (((d2.put R.MOVELOG_W1_FROM_BUCKET b n).put R.MOVELOG_W1_FROM_SLOT i n).put R.MOVELOG_W1_TO_BUCKET toB n).put
    R.MOVELOG_W1_TO_SLOT toI n
  ({ d3 with tables := { d3.tables with logAt := assocSet d3.tables.logAt n d3.dial.notch } }).countLog

/-- A log entry in the Notch after its COPY: the source slot is cleared and the entry's record names its new place. -/
def Dev.eraseMove (d : Dev) (n : Nat) : Dev :=
  let a := d.get R.MOVELOG_W0_TABLE n
  let e := d.get R.MOVELOG_W0_ENTRY n
  let bank := d.get R.MOVELOG_W0_FROM_BANK n
  let toBank := d.get R.MOVELOG_W0_TO_BANK n
  let d1 := d.put R.MOVELOG_W0_STATE 2 n
  let toB := d.get R.MOVELOG_W1_TO_BUCKET n
  let toI := d.get R.MOVELOG_W1_TO_SLOT n
  if d.get (entFlds a).valid e = 0 ∨ d.regs.slotSig a toBank toB toI = 0 ∨ d.regs.slotEntry a toBank toB toI ≠ e then d1
  else
    let d2 := (d1.clearSlot a bank (d.get R.MOVELOG_W1_FROM_BUCKET n) (d.get R.MOVELOG_W1_FROM_SLOT n)).putPlace a e toBank
      (d.get R.MOVELOG_W1_TO_BUCKET n) (d.get R.MOVELOG_W1_TO_SLOT n)
    if bank = toBank then d2 else (d2.countEntry a bank false).countEntry a toBank true

/-- Log entries free from the Notch that starts, three after their COPY. -/
def Dev.freeLogs (d : Dev) : Dev :=
  let due := d.tables.logAt.filter (fun x => decide (x.2 + 3 ≤ d.dial.notch))
  if due.isEmpty then d
  else
    let d1 := d.each due (fun d x => (d.putWord ⟨.MOVELOG, x.1, 0⟩ 0).putWord ⟨.MOVELOG, x.1, 1⟩ 0)
    ({ d1 with tables := { d1.tables with
        logAt := d1.tables.logAt.filter (fun x => decide (d1.dial.notch < x.2 + 3)) } }).countLog

/-- ERASE in the Notch after COPY. -/
def Dev.stepLog (d : Dev) : Dev :=
  d.each d.tables.logAt (fun d x => if x.2 + 1 = d.dial.notch then d.eraseMove x.1 else d)

/-! ### Deletion (R255, R264) -/

/-- Every readable slot that points to an entry, in the places its record and the move log name. -/
def Dev.slotsOf (d : Dev) (a e : Nat) : List (Nat × (Nat × Nat)) :=
  let own := [(d.get (entFlds a).bank e, (d.get (entFlds a).bucket e, d.get (entFlds a).slot e))]
  let logged := (d.tables.logAt.filter (fun x => d.get R.MOVELOG_W0_TABLE x.1 == a && d.get R.MOVELOG_W0_ENTRY x.1 == e)).flatMap
    (fun x => [(d.get R.MOVELOG_W0_FROM_BANK x.1, (d.get R.MOVELOG_W1_FROM_BUCKET x.1, d.get R.MOVELOG_W1_FROM_SLOT x.1)),
      (d.get R.MOVELOG_W0_TO_BANK x.1, (d.get R.MOVELOG_W1_TO_BUCKET x.1, d.get R.MOVELOG_W1_TO_SLOT x.1))])
  (own ++ logged).filter (fun p => d.regs.slotEntry a p.1 p.2.1 p.2.2 == e && d.regs.slotSig a p.1 p.2.1 p.2.2 != 0)

/-- An entry deleted: its slots cleared, its record emptied, its cached copy gone, and a route's counts lowered. -/
def Dev.deleteEntry (d : Dev) (a e : Nat) : Dev :=
  let bank := d.get (entFlds a).bank e
  let d1 := d.each (d.slotsOf a e) (fun d p =>
    if slotBad d.tables.bad a p.1 p.2.1 p.2.2 then d else d.clearSlot a p.1 p.2.1 p.2.2)
  let d2 := if a = 16 && !entryBad d.tables.bad a e then
      d1.routeCount (d.get R.ROUTE_W0_VRF e) (d.get R.ROUTE_W0_FAMILY e) (d.get R.ROUTE_W0_LEN e) (d.regs.keyOf 16 e 3) false
    else d1
  let d3 := d2.wipeEntry a e
  (d3.countEntry a bank false).uncache (fun t x => decide (a < 16) && t == a && x == e)

/-! ### Insertion (R256, R257) -/

/-- An entry and its slot written. -/
def Dev.placeEntry (d : Dev) (a bank e b i alt : Nat) (key data : List Word) (static : Bool) (learner : Nat) : Dev :=
  let d1 := (d.putEntry a e key data static learner).putPlace a e bank b i
  let d2 := (d1.putSlot a bank b i (d.regs.hash a bank key).sig e alt).countEntry a bank true
  let w2 := (nth key 2 0).toNat
  if a = 16 then d2.routeCount (w2 % 4096) (w2 / 2 ^ 20 % 2) (w2 / 2 ^ 12 % 256) key true else d2

/-- An insertion that finds no room: a rehash is requested and the refusal counted (R257). -/
def Dev.insertFull (d : Dev) (a : Nat) : Dev :=
  let d1 := (d.put (tabFlds a).rehash 1 0 (tabFlds a).inst).raiseBit R.TABLE_EVENTS 0
  if a < 16 then d1.count R.TABLE_FT_COUNTS_INSERT_FULL 1 0 a else d1

/-- The place that a list of relocations leaves free, with the other candidate bucket of the key. -/
def freedPlace (h : Hash) (l : List ((Nat × Nat) × (Nat × Nat))) : Option (Nat × (Nat × Nat)) :=
  l.getLast?.map (fun x => (x.1.1, (x.1.2, if x.1.1 = h.b1 then h.b2 else h.b1)))

/-- A job whose plan no longer serves: it plans anew. -/
def TableJob.replan (j : TableJob) : TableJob := { j with moves := [], dest := none, entry := none }

/-- What an insertion comes to: the index of its entry; or no room; or the job that goes on (R256, R257). The lowest free index
is taken first, and the entry goes into the slot that its own relocations freed. -/
inductive Inserted where
  | at_ (e : Nat)
  | full
  | later (j : TableJob)
deriving DecidableEq, Repr

/-- One attempt of an insertion whose relocations, if it has begun any, are made. -/
def Dev.insertion (d : Dev) (j : TableJob) (learner : Nat) : Dev × Inserted :=
  let a := j.table
  match j.dest, j.entry with
  | some (b, (i, alt)), some e =>
    if slotBad d.tables.bad a j.bank b i || d.regs.slotSig a j.bank b i != 0 then (d, .later j.replan)
    else (d.placeEntry a j.bank e b i alt j.key j.data j.static learner, .at_ e)
  | _, _ =>
    let bank := d.regs.insertBank a
    match d.lowestEntry a, d.plan a bank j.key with
    | some e, .place b i alt => (d.placeEntry a bank e b i alt j.key j.data j.static learner, .at_ e)
    | some e, .moves l =>
      (d, .later { j with moves := l, bank := bank, entry := some e, dest := freedPlace (d.regs.hash a bank j.key) l
                          next := d.dial.notch + 1 })
    | _, _ => (d.insertFull a, .full)

/-- The next relocation of a job, when its Notch has come and a log entry is free; a path that an error has broken is given
up. -/
def Dev.moveJob (d : Dev) (j : TableJob) : Dev × TableJob :=
  let a := j.table
  match j.moves, d.freeLog with
  | (src, dst) :: rest, some n =>
    if slotBad d.tables.bad a j.bank src.1 src.2 || slotBad d.tables.bad a j.bank dst.1 dst.2 then (d, j.replan)
    else if d.regs.slotSig a j.bank src.1 src.2 = 0 then (d, { j with moves := rest })
    else if entryBad d.tables.bad a (d.regs.slotEntry a j.bank src.1 src.2) then (d, j.replan)
    else (d.beginMove a n j.bank src.1 src.2 j.bank dst.1 dst.2 src.1,
      { j with moves := rest, made := j.made + 1, next := d.dial.notch + 2 })
  | _, _ => (d, j)

/-! ### MLEARN's outcomes (R269) -/

/-- An MLEARN that finds its entry. -/
def Dev.relearn (d : Dev) (e : Nat) (data : Word) (learner : Nat) : Dev :=
  if d.regs.static 17 e then d
  else
    let moved := d.word ⟨.MACENT, e, 2⟩ != data
    let d1 := ((d.stamp 17 e).putWord ⟨.MACENT, e, 2⟩ data).put R.MACENT_LEARNER learner e
    if moved then (d1.count R.TABLE_MAC_MOVES 1).raiseBit R.TABLE_EVENTS 3 else d1

/-- One attempt of an MLEARN, `j.arg` telling LEARN_EN: its status where it ends, or the job that goes on. -/
def Dev.learn (d : Dev) (j : TableJob) : Dev × (Option Nat × TableJob) :=
  let r := d.regs.find d.tables.bad 17 j.key
  let d0 := d.each r.2 Dev.tableError
  match r.1 with
  | some e => (d0.relearn e (nth j.data 0 0) j.learner, (some 1, j))
  | none =>
    if !r.2.isEmpty then (d0.count R.TABLE_ECC_MISS 1, (some 2, j))
    else if j.arg = 0 then (d, (some 0, j))
    else
      match d.insertion j j.learner with
      | (d1, .at_ _) => (d1.count R.TABLE_MAC_LEARNED 1, (some 4, j))
      | (d1, .full) => (d1, (some 5, j))
      | (d1, .later k) => (d1, (none, k))

/-- A waiting MLEARN told its status. -/
def Dev.tellLearner (d : Dev) (j : TableJob) (st : Nat) : Dev :=
  match j.who with
  | some (id, rd) =>
    d.modThread id (fun t => match t.st with | .blkReply => { t with reply := [(rd, BitVec.ofNat 64 st)] } | _ => t)
  | none => d

/-- An insertion of a key of the MAC table is in progress. -/
def Dev.inserting (d : Dev) (key : List Word) : Bool :=
  d.jobs.any (fun j => j.table == 17 && j.code ≤ 2 && j.key == key && (j.code == 0 || j.entry.isSome))

/-- An MLEARN of the Notch served (R269, R270): one whose key is being inserted, or for whose relocations the engine has no
room among its 8 insertions, waits. -/
def Dev.serveLearn (d : Dev) (j : TableJob) : Dev :=
  let wait := fun (d : Dev) (j : TableJob) => { d with tables := { d.tables with learns := d.tables.learns ++ [j] } }
  if d.inserting j.key then wait d j
  else
    let r := d.learn j
    match r.2.1 with
    | some st => r.1.tellLearner j st
    | none => wait r.1 (if d.jobs.length < 8 then r.2.2 else r.2.2.replan)

/-- The MLEARNs of the Notch served in the order of R270. -/
def Dev.serveLearns (d : Dev) : Dev :=
  ({ d with tables := { d.tables with asked := [] } }).each d.tables.asked Dev.serveLearn

/-! ### Migration (R262, R263) -/

/-- The migration cursor of a table, and the device with it set. -/
def Dev.cursor (d : Dev) (a : Nat) : Nat × Nat := (assoc d.tables.cursors a).getD (0, 0)
def Dev.setCursor (d : Dev) (a b i : Nat) : Dev :=
  let d1 : Dev := { d with tables := { d.tables with cursors := assocSet d.tables.cursors a (b, i) } }
  if a < 16 then (d1.put R.TABLE_FT_CURSOR_BUCKET b 0 a).put R.TABLE_FT_CURSOR_SLOT i 0 a else d1

/-- The first occupied slot of the active bank from the cursor onward, and its bucket. -/
def Dev.nextOccupied (d : Dev) (a : Nat) : Option (Nat × Nat) :=
  let c := d.cursor a
  let act := d.regs.activeBank a
  let lo := bktIdx a act 0
  let bs := ((d.touched (bktSpace a)).filter (fun u => decide (lo + c.1 ≤ u) && decide (u < lo + 2 ^ d.regs.logBuckets a))).map
    (fun u => u - lo)
  (bs.flatMap (fun b => (List.range 8).map (fun i => (b, i)))).find? (fun p =>
    (decide (c.1 < p.1) || decide (c.2 ≤ p.2)) && d.regs.slotSig a act p.1 p.2 != 0 && !slotBad d.tables.bad a act p.1 p.2)

/-- The entry at the cursor of a MIGRATE moved to a slot of the shadow bank as a logged move. -/
def Dev.crossMove (d : Dev) (j : TableJob) (b i tb ti alt : Nat) : Dev × TableJob :=
  match d.freeLog with
  | none => (d, j)
  | some n =>
    let act := d.regs.activeBank j.table
    let nx := if i = 7 then (b + 1, 0) else (b, i + 1)
    ((d.beginMove j.table n act b i (1 - act) tb ti alt).setCursor j.table nx.1 nx.2,
      { j.replan with arg := j.arg - 1, next := d.dial.notch + 2 })

/-- One step of a MIGRATE: an entry moved to the shadow bank, into the slot that its relocations there freed where it had any;
or relocations for it; or the end. -/
def Dev.migrateStep (d : Dev) (j : TableJob) : Dev × TableJob :=
  let a := j.table
  let act := d.regs.activeBank a
  if j.arg = 0 then (d, { j with result := some 0 })
  else
    match d.nextOccupied a with
    | none => (d, { j with result := some 0 })
    | some (b, i) =>
      let e := d.regs.slotEntry a act b i
      let key := d.regs.keyOf a e (d.get R.TABLE_FT_CFG_KEY_WORDS 0 a + 1)
      match (if j.entry = some e then j.dest else none) with
      | some (tb, (ti, alt)) =>
        if slotBad d.tables.bad a (1 - act) tb ti || d.regs.slotSig a (1 - act) tb ti != 0 then (d, j.replan)
        else d.crossMove j b i tb ti alt
      | none =>
        match d.plan a (1 - act) key with
        | .moves l => (d.setCursor a b i, { j with
            moves := l, bank := 1 - act, entry := some e, dest := freedPlace (d.regs.hash a (1 - act) key) l })
        | .full => (((d.setCursor a b i).insertFull a).put R.TABLE_CMD_RESULT_ENTRY e, { j with result := some 5 })
        | .place tb ti alt => d.crossMove j b i tb ti alt

/-! ### The engine's work in a Notch -/

/-- The command's relocation or migration of a Notch. -/
def Dev.stepCmd (d : Dev) : Dev :=
  match d.tables.cmd with
  | none => d
  | some j =>
    if d.dial.notch < j.next then d
    else if !j.moves.isEmpty then
      let r := d.moveJob j
      { r.1 with tables := { r.1.tables with cmd := some r.2 } }
    else if j.code = 7 ∧ j.result.isNone then
      let r := d.migrateStep j
      { r.1 with tables := { r.1.tables with cmd := some r.2 } }
    else d

/-- The job numbered `n` among the MLEARNs in progress takes its step of the Notch, unless an older one of its key is there:
the device after it, and whether the job is still there. -/
def Dev.stepLearn (d : Dev) (n : Nat) : Dev × Bool :=
  match d.tables.learns[n]? with
  | none => (d, false)
  | some j =>
    let put := fun (d : Dev) (j : TableJob) => { d with tables := { d.tables with learns := setNth d.tables.learns n j } }
    if d.dial.notch < j.next || (d.tables.learns.take n).any (fun k => k.key == j.key) then (d, true)
    else if !j.moves.isEmpty then
      let r := d.moveJob j
      (put r.1 r.2, true)
    else
      let r := d.learn j
      match r.2.1 with
      | some st => (({ r.1 with tables := { r.1.tables with learns := r.1.tables.learns.eraseIdx n } }).tellLearner j st, false)
      | none => (put r.1 r.2.2, true)

/-- The oldest MLEARNs in progress step, `k` of them and at most `fuel` looked at: the engine carries 8 insertions (R259). -/
def Dev.stepLearns (d : Dev) (k n : Nat) : Nat → Dev
  | 0 => d
  | fuel + 1 =>
    if k ≤ n then d
    else
      let r := d.stepLearn n
      Dev.stepLearns r.1 k (if r.2 then n + 1 else n) fuel

/-- Relocations, migrations and insertions of the Notch. -/
def Dev.stepJobs (d : Dev) : Dev :=
  let d1 := d.stepCmd
  d1.stepLearns (if d1.tables.cmd.any (fun j => j.entry.isSome) then 7 else 8) 0 (d1.tables.learns.length)

end Sys2Proof.Machine
end

