-- ==== Sys2Proof/Machine/Lookups.lean ====
section
/-! DEFINITION. The lookup instructions FLOOK, RLOOK, MLOOK, MLEARN and RULE, the table commands, their completion and the
ageing sweep (spec/05_aqgil.md R197, R200 to R202; 06 R222 to R228; 07 R248 to R280). -/

namespace Sys2Proof

/-- What a lookup may meet in the memories of some kinds of object. -/
def TableMem.only (m : TableMem) (l : List Space) : TableMem := { m with bad := m.bad.filter (fun k => l.contains k.sp) }

end Sys2Proof

namespace Sys2Proof.Machine

/-! ### Statuses of lookups (05 R201) -/

def lkMISS : Nat := 0
def lkHIT : Nat := 1
def lkECC : Nat := 2
def lkBAD : Nat := 3

/-- The status word and the result words that a lookup writes from `rd` on, `n` result words in all. -/
def replyWords (rd status : Nat) (data : List Word) (n : Nat) : List (Nat × Word) :=
  (rd, BitVec.ofNat 64 status) :: (List.range n).map (fun i => (rd + 1 + i, nth data i 0))

/-- The key words in registers `ra` onward. -/
def Thread.keyWords (t : Thread) (ra n : Nat) : List Word := (List.range n).map (fun i => t.reg (ra + i))

/-- A key of `cnt` words and `n` result words lie within the registers (05 R200). -/
def rangeOk (rd ra cnt n : Nat) : Bool :=
  within 1 8 (cnt % 32) && decide (ra % 32 + cnt % 32 ≤ 32) && decide (rd % 32 + n ≤ 31)

/-! ### FLOOK (07 R252 to R255, R271) -/

/-- The data words of an entry as lookups see it, its stamp refreshed. -/
def Dev.hitFlow (d : Dev) (a e : Nat) : Dev × List Word :=
  (if d.regs.get R.FLOW_W0_VALID e = 1 ∧ d.regs.get R.FLOW_W0_TABLE e = a then d.stamp a e else d, d.start.dataOf a e)

/-- Lookups that HBM serves in a Notch: 2.4 G/s of flow lookups with two stacks and 1.2 G/s with one, as whole lookups spread
evenly over the Notches (02 R83; DESIGN CHOICE, notes/assumptions/120). -/
def Dev.hbmCap (d : Dev) : Nat :=
  let fifths := 384 * d.variant.stacks
  fifths * (d.dial.notch + 1) / 5 - fifths * d.dial.notch / 5

/-- HBM has room for a flow lookup in the Notch. -/
def Dev.hbmRoom (d : Dev) : Bool := decide (d.tables.hbmUsed < d.hbmCap)

/-- A flow lookup of a key: the device after it, the status, the data and the hash; none where it must wait for HBM. -/
def Dev.flook (d : Dev) (a : Nat) (key : List Word) : Dev × Option (Nat × (List Word × Option Nat)) :=
  let hA := (d.start.hash a (d.start.activeBank a) key).hA
  let set := hA % 32768
  let d1 := d.count R.TABLE_FT_LOOKUPS 1 0 a
  let hit := fun (d : Dev) (e : Nat) => let r := d.hitFlow a e; (r.1, some (lkHIT, r.2, some hA))
  match d.start.logHit d.tables.bad a key with
  | some e => hit d1 e
  | none =>
    match d.cacheHit set a key with
    | some e => hit ((d1.count R.TABLE_FC_HITS 1).cachePut set a e) e
    | none =>
      if !d.hbmRoom then (d, none)
      else
        let p := d1.start.probe d1.tables.bad a key
        let used : Dev := { d1 with tables := { d1.tables with hbmUsed := d1.tables.hbmUsed + 1 } }
        let d2 := ((used.count R.TABLE_FC_MISSES 1).count R.TABLE_HBM_LOOKUPS 1).each p.2 Dev.tableError
        match p.1 with
        | some e => hit (if d2.regs.entryIs a e key then d2.cachePut set a e else d2) e
        | none =>
          if p.2.isEmpty then (d2, some (lkMISS, (([] : List Word), some hA)))
          else (d2.count R.TABLE_ECC_MISS 1, some (lkECC, ([], some hA)))

/-- FLOOK. One that finds no room in HBM waits in the engine's queue (02 R83). -/
def execFlook (at_ : Issue) (rd ra cnt imm : Nat) (m : TableMem) (s : State) : Host.Outcome State Fault Refusal :=
  s.act (fun d => d.issue at_ (insWord 0x80 rd ra 0 0 cnt imm) (rangeOk rd ra cnt 4 && decide (immU imm < 16)) (fun d id t =>
    let a := immU imm
    let key := t.keyWords (ra % 32) (cnt % 32)
    if d.start.get R.TABLE_FT_CFG_VALID 0 a = 0 ∨ cnt % 32 ≠ d.start.get R.TABLE_FT_CFG_KEY_WORDS 0 a + 1 then
      .inl ((d.meet (m.only [])).setThread id (t.await false (replyWords (rd % 32) lkBAD [] 4)))
    else
      let r := (d.meet (m.only [.FLOW, .FLOWBKT])).flook a key
      .inl (match r.2 with
        | some x => r.1.setThread id (t.await false (replyWords (rd % 32) x.1 x.2.1 4) x.2.2)
        | none => ({ r.1 with tables := { r.1.tables with waiting := r.1.tables.waiting ++ [FlowAsk.mk (some id) (rd % 32) a key] } } : Dev).setThread
            id (t.await false []))))

/-- An FLOOK that waited is served, in its turn, by the table as it stands at the start of the Notch (02 R83). -/
def Dev.serveFlow (d : Dev) (x : FlowAsk) : Dev :=
  let tell := fun (d : Dev) (l : List (Nat × Word)) (hash : Option Nat) =>
    match x.who with
    | some id => d.modThread id (fun t => match t.st with | .blkReply => { t with reply := l, replyHash := hash } | _ => t)
    | none => d
  if d.start.get R.TABLE_FT_CFG_VALID 0 x.table = 0 ∨ x.key.length ≠ d.start.get R.TABLE_FT_CFG_KEY_WORDS 0 x.table + 1 then
    tell (d.count R.TABLE_HBM_WAITS 1) (replyWords x.rd lkBAD [] 4) none
  else
    let r := d.flook x.table x.key
    match r.2 with
    | some y => tell (r.1.count R.TABLE_HBM_WAITS 1) (replyWords x.rd y.1 y.2.1 4) y.2.2
    | none => { r.1 with tables := { r.1.tables with waiting := r.1.tables.waiting ++ [x] } }

/-- The table engine at the start of a Notch: erases, relocations and insertions, then the lookups that wait for HBM. -/
def Dev.stepTables (d : Dev) : Dev :=
  let d0 : Dev := { d with tables := { d.tables with hbmUsed := 0 } }
  if d.flows then
    let d1 := d0.stepLog.stepJobs
    ({ d1 with tables := { d1.tables with waiting := [] } }).each d1.tables.waiting Dev.serveFlow
  else d0

/-! ### RLOOK (07 R264 to R267) -/

/-- The length map of a VRF and family as lengths, longest first; a map in error counts as all ones (R275). -/
def Dev.lengths (d : Dev) (vrf fam : Nat) : List Nat :=
  let bad := d.tables.bad.any (fun k => decide (k.sp = .VRF) && k.idx == vrf && (if fam = 0 then k.word == 1 else within 2 4 k.word))
  ((List.range (if fam = 0 then 33 else 129)).filter (fun l =>
    let m := mapBit fam l
    bad || (d.start.word ⟨.VRF, vrf, m.1⟩).getLsbD m.2)).reverse

/-- The filter reports a key as possibly present; a counter in error counts as non-zero (R265, R275). -/
def Dev.filterSays (d : Dev) (key : List Word) : Bool :=
  let f := d.start.filterIdx key
  let one := fun n => d.start.filterAt n != 0 || d.tables.bad.contains ⟨.FILTER, n / 16, 0⟩
  one f.1 && one f.2

/-- Places in error that the filter and the map of a lookup met. -/
def Dev.routeBad (d : Dev) (vrf fam : Nat) (keys : List (List Word)) : List Key :=
  (d.tables.bad.filter (fun k => decide (k.sp = .VRF) && k.idx == vrf && (if fam = 0 then k.word == 1 else within 2 4 k.word))) ++
  (d.tables.bad.filter (fun k => decide (k.sp = .FILTER) && keys.any (fun key =>
    let f := d.start.filterIdx key
    k.idx == f.1 / 16 || k.idx == f.2 / 16)))

/-- Probes of candidate lengths, at most four at a time: the best length and its entry, and whether a probe of a longer
length met an error; `bad` tells that one has so far (R266). -/
def Dev.probeRoutes (d : Dev) (key : Nat → List Word) (bad : Bool) : Nat → List Nat → Dev × (Option (Nat × Nat) × Bool)
  | 0, _ => (d, (none, bad))
  | _, [] => (d, (none, bad))
  | fuel + 1, ls =>
    let now := ls.take 4
    let res := now.map (fun l => (l, (d.start.logHit d.tables.bad 16 (key l), d.start.find d.tables.bad 16 (key l))))
    let made := (res.filter (fun x => x.2.1.isNone)).length
    let d1 := (d.count R.TABLE_RT_PROBES made).each (res.flatMap (fun x => x.2.2.2)) Dev.tableError
    match res.find? (fun x => x.2.2.1.isSome) with
    | some x => (d1, (some (x.1, x.2.2.1.getD 0), bad || res.any (fun y => decide (x.1 < y.1) && !y.2.2.2.isEmpty)))
    | none => Dev.probeRoutes d1 key (bad || res.any (fun y => !y.2.2.2.isEmpty)) fuel (ls.drop 4)

/-- A route lookup: the device after it, the status, the matched length and the next hop. -/
def Dev.rlook (d : Dev) (vrf fam : Nat) (hi lo : Word) (m : TableMem) : Dev × (Nat × (Nat × Word)) :=
  if d.start.get R.VRF_W0_EN vrf = 0 then (d.meet (m.only []), (lkBAD, (0, 0)))
  else
    let d1 := d.meet (m.only [.ROUTE, .ROUTEBKT, .FILTER, .VRF])
    let key := fun l => routeKey vrf fam l hi lo
    let all := d1.lengths vrf fam
    let useF := d1.start.get R.VRF_W0_FILTER_EN vrf == 1
    let cand := if useF then all.filter (fun l => d1.filterSays (key l)) else all
    let d2 := (d1.count R.TABLE_RT_FILTER_SKIPS (all.length - cand.length)).each
      (d1.routeBad vrf fam (if useF then all.map key else [])) Dev.tableError
    let r := d2.probeRoutes key false (cand.length + 1) cand
    match r.2.1, r.2.2 with
    | some (l, e), false => (r.1, (lkHIT, (l, nth (r.1.start.dataOf 16 e) 0 0)))
    | _, true => (r.1.count R.TABLE_ECC_MISS 1, (lkECC, (0, 0)))
    | none, false => (r.1, (lkMISS, (0, 0)))

/-- RLOOK: MOD 0 IPv4, 1 IPv6. -/
def execRlook (at_ : Issue) (rd ra mod : Nat) (m : TableMem) (s : State) : Host.Outcome State Fault Refusal :=
  s.act (fun d =>
    let fam := mod % 16
    d.issue at_ (insWord 0x81 rd ra 0 mod) (decide (fam < 2) && decide (rd % 32 + 1 ≤ 31) && decide (ra % 32 + fam ≤ 31))
      (fun d id t =>
        let vrf := match t.pkt with | some p => p.tk.get T.VRF | none => 0
        let lo : Word := if fam = 1 then t.reg (ra % 32 + 1) else 0
        let r := d.rlook vrf fam (t.reg ra) lo m
        .inl (r.1.setThread id (t.await false (replyWords (rd % 32) (r.2.1 + r.2.2.1 * 256) [r.2.2.2] 1)))))

/-! ### MLOOK and MLEARN (07 R268 to R270) -/

/-- The key word of the MAC table. -/
def macKey (x : Word) : List Word := [x &&& 0x0FFFFFFFFFFFFFFF]

/-- MLOOK. -/
def execMlook (at_ : Issue) (rd ra : Nat) (m : TableMem) (s : State) : Host.Outcome State Fault Refusal :=
  s.act (fun d => d.issue at_ (insWord 0x82 rd ra) (decide (rd % 32 + 1 ≤ 31)) (fun d id t =>
    if d.start.get R.TABLE_MAC_CFG_EN = 0 then .inl (d.setThread id (t.await false (replyWords (rd % 32) lkBAD [] 1)))
    else
      let d1 := d.meet { m.only [.MACENT, .MACBKT] with corrected := [] }
      let p := d1.start.find d1.tables.bad 17 (macKey (t.reg ra))
      let d2 := d1.each p.2 Dev.tableError
      let r : Dev × (Nat × List Word) :=
        match p.1 with
        | some e => (d2, (lkHIT, d2.start.dataOf 17 e))
        | none => if p.2.isEmpty then (d2, (lkMISS, [])) else (d2.count R.TABLE_ECC_MISS 1, (lkECC, []))
      .inl (r.1.setThread id (t.await false (replyWords (rd % 32) r.2.1 r.2.2 1)))))

/-- An MLEARN put among those of its Notch, which the engine serves in order of slot, core and thread (R270). -/
def insertAsked (j : TableJob) : List TableJob → List TableJob
  | [] => [j]
  | k :: ks => if j.order < k.order then j :: k :: ks else k :: insertAsked j ks

/-- The place of a thread among the MLEARNs of a Notch. -/
def Dev.learnOrder (d : Dev) (id : ThreadId) : Nat :=
  d.get R.GPHYS_STATUS_SLOT id.glenNo * 256 + id.coreNo * 8 + id.threadNo

/-- MLEARN: the thread waits, and the engine serves it with the other MLEARNs of the Notch. -/
def execMlearn (at_ : Issue) (rd ra rb : Nat) (m : TableMem) (s : State) : Host.Outcome State Fault Refusal :=
  s.act (fun d => d.issue at_ (insWord 0x83 rd ra rb) true (fun d id t =>
    if d.start.get R.TABLE_MAC_CFG_EN = 0 then .inl (d.setThread id (t.await false [(rd % 32, BitVec.ofNat 64 lkBAD)]))
    else
      let d1 := d.meet { m.only [.MACENT, .MACBKT] with corrected := [] }
      let job : TableJob :=
        { table := 17, code := 0, key := macKey (t.reg ra), data := [t.reg rb],
          learner := match t.pkt with | some p => p.tk.get T.INSTANCE | none => 0
          arg := d.start.get R.TABLE_MAC_CFG_LEARN_EN, next := d.dial.notch + 1, who := some (id, rd % 32)
          order := d.learnOrder id }
      .inl (({ d1 with tables := { d1.tables with asked := insertAsked job d1.tables.asked } }).setThread id
        (t.await false []))))

/-! ### RULE (06 R222 to R227) -/

/-- Whether a rule matches a key (R224). -/
def Store.ruleMatches (s : Store) (row : Nat) (key : List Word) : Bool :=
  s.get R.RULE_CTRL_VALID row == 1 && key.zipIdx.all (fun x =>
    (x.1 ^^^ s.word ⟨.RULE, row, 3 + x.2⟩) &&& s.word ⟨.RULE, row, 11 + x.2⟩ == 0)

/-- Of two rows, the one that comes first in the order of R224. -/
def Store.ruleBefore (s : Store) (a b : Nat) : Bool :=
  let pa := s.get R.RULE_CTRL_PRIO a
  let pb := s.get R.RULE_CTRL_PRIO b
  decide (pb < pa) || (pa == pb && decide (a < b))

/-- The first of some rows in the order of R224. -/
def Store.bestRule (s : Store) (rows : List Nat) : Option Nat :=
  rows.foldl (fun b r => match b with | none => some r | some x => some (if s.ruleBefore r x then r else x)) none

/-- Key words with the bytes of a zero profile zeroed (R226). -/
def zeroBytes (mask : Word) (key : List Word) : List Word :=
  key.zipIdx.map (fun x => (List.range 8).foldl
    (fun (w : Word) j => if mask.getLsbD (8 * x.2 + j) then w.withField (8 * j) 8 0 else w) x.1)

/-- The first row of the rule that row `r` belongs to. -/
def ruleRow (two : Bool) (r : Nat) : Nat := if two then r / 2 * 2 else r

/-- A classification lookup: the device after it, the status and the row, and the action words. -/
def Dev.rule (d : Dev) (set cnt : Nat) (frag : Bool) (key : List Word) (m : TableMem) : Dev × (Nat × (Nat × List Word)) :=
  let d0 := d.count R.CLASSIFY_LOOKUPS 1
  if d.start.get R.CLASSIFY_RULESET_VALID 0 set = 0 ∨ cnt ≠ d.start.get R.CLASSIFY_RULESET_KEY_WORDS 0 set + 1 then
    (d0, (lkBAD, (0, [])))
  else
    let base := d.start.get R.CLASSIFY_RULESET_BASE 0 set
    let rows := d.start.get R.CLASSIFY_RULESET_ROWS 0 set
    let two := decide (4 < cnt)
    let inSet := fun r => decide (base ≤ r) && decide (r < base + rows)
    let m1 := m.only [.RULE]
    let d1 := d0.meet { bad := m1.bad.filter (fun k => inSet k.idx) }
    let key' := if frag then zeroBytes (d.start.word (fldKey R.CLASSIFY_ZERO_PROFILE 0 (d.start.get R.CLASSIFY_RULESET_ZPROF 0 set))) key
      else key
    let bad := ((d1.tables.bad.filter (fun k => decide (k.sp = .RULE) && inSet k.idx)).map Key.idx).eraseDups
    let badRules := (bad.map (ruleRow two)).eraseDups
    let d2 := d1.each badRules (fun d r => d.put R.RULE_PARITY_ERR 1 r)
    let listed := ((d.start.filter (fun e => decide (e.1.sp = .RULE))).map (fun e => e.1.idx)).eraseDups
    let clean := listed.filter (fun r => inSet r && (!two || r % 2 == 0) && !badRules.contains r && d.start.ruleMatches r key')
    let best := d.start.bestRule clean
    let d3 := match bad with
      | [] => d2
      | b :: bs => d2.error pgCLASSIFY 6 0 (bs.foldl min b)
    match best with
    | some r =>
      if badRules.all (fun b => d.start.ruleBefore r b) then
        (d3, (lkHIT, (r, [d.start.word ⟨.RULE, r, 1⟩, d.start.word ⟨.RULE, r, 2⟩])))
      else (d3.count R.CLASSIFY_ECC_MISS 1, (lkECC, (0, [])))
    | none => if badRules.isEmpty then (d3, (lkMISS, (0, []))) else (d3.count R.CLASSIFY_ECC_MISS 1, (lkECC, (0, [])))

/-- RULE. -/
def execRule (at_ : Issue) (rd ra cnt imm : Nat) (m : TableMem) (s : State) : Host.Outcome State Fault Refusal :=
  s.act (fun d => d.issue at_ (insWord 0x84 rd ra 0 0 cnt imm) (rangeOk rd ra cnt 2 && decide (immU imm < 256)) (fun d id t =>
    let frag := match t.pkt with | some p => p.tk.flag T.FRAG | none => false
    let r := d.rule (immU imm) (cnt % 32) frag (t.keyWords (ra % 32) (cnt % 32)) m
    .inl (r.1.setThread id (t.await false (replyWords (rd % 32) (r.2.1 + r.2.2.1 * 2 ^ 32) r.2.2.2 2)))))

/-! ### The table commands (07 R277 to R280) -/

/-- Statuses of TABLE.CMD (R281). -/
def tsDone : Nat := 0
def tsBusy : Nat := 1
def tsPending : Nat := 2
def tsExists : Nat := 3
def tsNotFound : Nat := 4
def tsFull : Nat := 5
def tsBadTable : Nat := 6
def tsBadArg : Nat := 7
def tsBadState : Nat := 8
def tsNotEmpty : Nat := 9

/-- The place of TABLE.CMD, and its readback. -/
def tableCmdKey : Key := ⟨.TABLE, 0, 8⟩
def Dev.tableStatus (d : Dev) (code a st : Nat) : Dev :=
  ((d.put R.TABLE_CMD_CODE code).put R.TABLE_CMD_ARG_TABLE a).put R.TABLE_CMD_STATUS st

/-- A table that R278 names: the route and MAC tables, and a flow table whose CFG.VALID is 1. -/
def Dev.tableNamed (d : Dev) (a : Nat) : Bool := a == 16 || a == 17 || (decide (a < 16) && d.flag R.TABLE_FT_CFG_VALID 0 a)

/-- The key words staged for a table, and whether they are a key (R277, R278). -/
def Dev.stagedKey (d : Dev) (a : Nat) : List Word × Bool :=
  let k := fun i => d.word ⟨.TABLE, 0, 12 + i⟩
  if a = 16 then
    let fam := d.get R.TABLE_STAGE_CTRL_FAMILY
    let len := d.get R.TABLE_STAGE_CTRL_LEN
    let key := routeKey (d.get R.TABLE_STAGE_CTRL_VRF) fam len (k 0) (k 1)
    (key, decide (len ≤ (if fam = 0 then 32 else 128)) && nth key 0 0 == k 0 && nth key 1 0 == k 1)
  else if a = 17 then (macKey (k 0), true)
  else ((List.range (d.get R.TABLE_FT_CFG_KEY_WORDS 0 a + 1)).map k, true)

/-- The refusal of a table command as it is written, if any: BAD_TABLE before every other (R277, R278). -/
def Dev.tableRefusal (d : Dev) (code a : Nat) : Option Nat :=
  let arg := d.get R.TABLE_CMD_ARG_ARG
  if !d.tableNamed a then some tsBadTable
  else if code ≤ 4 then (if (d.stagedKey a).2 then none else some tsBadArg)
  else if code = 5 then (if arg < arrayLen d.variant a then none else some tsBadArg)
  else if code = 6 then (if d.regs.rebuilding a then some tsBadState else none)
  else if code = 7 then
    (if !within 1 65536 arg then some tsBadArg else if !d.regs.rebuilding a then some tsBadState else none)
  else if code = 8 then
    (if !d.regs.rebuilding a then some tsBadState
     else if d.get (tabFlds a).cntA 0 (tabFlds a).inst ≠ 0 then some tsNotEmpty else none)
  else if a = 16 then some tsBadArg
  else none

/-- A command of TABLE.CMD written: refused, or the engine's to carry out (R279). -/
def Dev.tableCommand (d : Dev) (path : Path) (code a : Nat) : Dev :=
  d.command path pgTABLE 0x40 tableCmdKey (fun d => d.tableStatus code a tsBusy) (fun d =>
    if d.cmdBusy tableCmdKey then d.tableStatus code a tsBusy
    else
      match d.tableRefusal code a with
      | some st => d.tableStatus code a st
      | none =>
        let j : TableJob :=
          { table := a, code := code, key := (d.stagedKey a).1, data := (List.range 4).map (fun i => d.word ⟨.TABLE, 0, 20 + i⟩)
            static := d.flag R.TABLE_STAGE_CTRL_STATIC, arg := d.get R.TABLE_CMD_ARG_ARG, next := d.dial.notch + 1 }
        let d1 := (d.tableStatus code a tsPending).cmdStart tableCmdKey
        { d1 with tables := { d1.tables with cmd := some j } })

/-- INSERT. -/
def execInsert (path : Path) (table : Nat) (s : State) : Host.Outcome State Fault Refusal :=
  s.act (fun d => d.tableCommand path 1 (table % 32))
/-- REPLACE. -/
def execReplace (path : Path) (table : Nat) (s : State) : Host.Outcome State Fault Refusal :=
  s.act (fun d => d.tableCommand path 2 (table % 32))
/-- DELETE. -/
def execDelete (path : Path) (table : Nat) (s : State) : Host.Outcome State Fault Refusal :=
  s.act (fun d => d.tableCommand path 3 (table % 32))
/-- FIND. -/
def execFind (path : Path) (table : Nat) (s : State) : Host.Outcome State Fault Refusal :=
  s.act (fun d => d.tableCommand path 4 (table % 32))
/-- DELETE_INDEX. -/
def execDeleteIndex (path : Path) (table : Nat) (s : State) : Host.Outcome State Fault Refusal :=
  s.act (fun d => d.tableCommand path 5 (table % 32))
/-- REBUILD_BEGIN. -/
def execRebuildBegin (path : Path) (table : Nat) (s : State) : Host.Outcome State Fault Refusal :=
  s.act (fun d => d.tableCommand path 6 (table % 32))
/-- MIGRATE. -/
def execMigrate (path : Path) (table : Nat) (s : State) : Host.Outcome State Fault Refusal :=
  s.act (fun d => d.tableCommand path 7 (table % 32))
/-- SWITCH. -/
def execSwitch (path : Path) (table : Nat) (s : State) : Host.Outcome State Fault Refusal :=
  s.act (fun d => d.tableCommand path 8 (table % 32))
/-- FLUSH. -/
def execFlush (path : Path) (table : Nat) (s : State) : Host.Outcome State Fault Refusal :=
  s.act (fun d => d.tableCommand path 9 (table % 32))

/-- Where an insertion by command comes to: its status and the entry's index, or the job that goes on (R256, R257). -/
def Dev.insertJob (d : Dev) (j : TableJob) : Dev × (Option (Nat × Option Nat) × TableJob) :=
  match d.insertion j 0 with
  | (d1, .at_ e) => (d1.put R.TABLE_CMD_RESULT_MOVES j.made, (some (tsDone, some e), j))
  | (d1, .full) => (d1, (some (tsFull, none), j))
  | (d1, .later k) => (d1, (none, k))

/-- An entry that DELETE_INDEX of a table may name: one in use by the table, in error or not (R276). -/
def Dev.entryOf (d : Dev) (a e : Nat) : Bool :=
  d.get (entFlds a).valid e == 1 && (decide (16 ≤ a) || d.get R.FLOW_W0_TABLE e == a)

/-- An entry of a table's range that is in error and not in use: DELETE_INDEX only rewrites it (R276). -/
def Dev.strayOf (d : Dev) (a e : Nat) : Bool :=
  entryBad d.tables.bad a e && d.get (entFlds a).valid e == 0 && decide (d.regs.entBase a ≤ e) &&
    decide (e < d.regs.entBase a + d.regs.entCount a)

/-- SWITCH as the engine performs it (R255, R262, R276). -/
def Dev.switchBanks (d : Dev) (a : Nat) : Dev :=
  let t := tabFlds a
  let old := d.regs.activeBank a
  let lo := bktIdx a old 0
  let inOld := fun u => decide (lo ≤ u) && decide (u < lo + 2 ^ d.regs.logBuckets a)
  let d1 := ((((d.put t.active (1 - old) 0 t.inst).put t.state 0 0 t.inst).put t.rehash 0 0 t.inst).put t.cntA
    (d.get t.cntS 0 t.inst) 0 t.inst).put t.cntS 0 0 t.inst
  let d2 := d1.each ((d1.touched (bktSpace a)).filter inOld) (fun d u =>
    d.each (List.range 8) (fun d i => d.putWord ⟨bktSpace a, u, i⟩ 0))
  (d2.mend (fun k => decide (k.sp = bktSpace a) && inOld k.idx)).uncache (fun x _ => decide (a < 16) && x == a)

/-- Entries that FLUSH deletes; of one in error STATIC cannot be read. -/
def Dev.flushed (d : Dev) (a : Nat) (all : Bool) : List Nat :=
  (d.touched (entSpace a)).filter (fun e => d.get (entFlds a).valid e == 1 && (decide (16 ≤ a) || d.get R.FLOW_W0_TABLE e == a) &&
    (all || (!entryBad d.tables.bad a e && !d.regs.static a e)))

/-- The final effect of a command: its status and entry index, or the job that goes on. -/
def Dev.finishJob (d : Dev) (j : TableJob) : Dev × (Option (Nat × Option Nat) × TableJob) :=
  let a := j.table
  let found := (d.regs.find d.tables.bad a j.key).1
  let t := tabFlds a
  match j.code with
  | 1 => match found with
    | some _ => (d, (some (tsExists, none), j))
    | none => d.insertJob j
  | 2 => match found with
    | some e => (d.putData a e j.data j.static, (some (tsDone, some e), j))
    | none => d.insertJob j
  | 3 => match found with
    | some e => (d.deleteEntry a e, (some (tsDone, none), j))
    | none => (d, (some (tsNotFound, none), j))
  | 4 => match found with
    | some e => (d, (some (tsDone, some e), j))
    | none => (d, (some (tsNotFound, none), j))
  | 5 =>
    if d.entryOf a j.arg then (d.deleteEntry a j.arg, (some (tsDone, none), j))
    else if d.strayOf a j.arg then (d.wipeEntry a j.arg, (some (tsDone, none), j))
    else (d, (some (tsNotFound, none), j))
  | 6 => ((d.put t.state 1 0 t.inst).setCursor a 0 0, (some (tsDone, none), j))
  | 7 => match j.result with
    | some st => (d, (some (st, none), j))
    | none => (d, (none, j))
  | 8 => if d.get t.cntA 0 t.inst ≠ 0 then (d, (some (tsNotEmpty, none), j)) else (d.switchBanks a, (some (tsDone, none), j))
  | _ => (d.each (d.flushed a (j.arg % 2 == 1)) (fun d e => d.deleteEntry a e), (some (tsDone, none), j))

/-- A command of the MAC table waits for insertions of MLEARNs: one of its key, and any where it changes the bank that is
inserted into. -/
def Dev.learnsFirst (d : Dev) (j : TableJob) : Bool :=
  j.table == 17 && d.tables.learns.any (fun k => (decide (j.code ≤ 4) && k.key == j.key) || j.code == 6 || j.code == 8)

/-- TABLE_CMD_COMPLETE (R279): the engine ends the command it carries out, once no relocation of it is left, after the MLEARNs
of the Notch, which see the table as it was. -/
def execTableCmdComplete (s : State) : Host.Outcome State Fault Refusal :=
  s.live (fun d =>
    match d.tables.cmd with
    | none => d
    | some j =>
      if !j.moves.isEmpty ∨ d.dial.notch < j.next then d
      else
        let d0 := d.serveLearns
        if d0.learnsFirst j then d0
        else
          let r := d0.finishJob j
          match r.2.1 with
          | some (st, e) =>
            let d1 := match e with | some e => r.1.put R.TABLE_CMD_RESULT_ENTRY e | none => r.1
            ({ d1 with tables := { d1.tables with cmd := none } }).cmdFinish R.TABLE_CMD_STATUS st
          | none => { r.1 with tables := { r.1.tables with cmd := some r.2.2 } })

/-! ### Ageing (07 R272, R273) -/

/-- An entry visited by the sweep. -/
def Dev.ageVisit (d : Dev) (a e : Nat) (en : Bool) (limit stampF : Nat) : Dev :=
  if d.get (entFlds a).valid e = 1 && !d.regs.static a e && en && !entryBad d.tables.bad a e &&
      decide (limit ≤ (d.nowUnit + 2 ^ 32 - stampF) % 2 ^ 32) then
    let d1 := (d.deleteEntry a e).raiseBit R.TABLE_EVENTS 1
    if a = 17 then d1.count R.TABLE_MAC_AGED 1 else d1.count R.TABLE_FT_COUNTS_AGED 1 0 a
  else d

/-- TABLE_AGE_SWEEP (R272, R273): 16 flow entries and 16 MAC entries are visited, in index order, after the MLEARNs of the
Notch. -/
def execTableAgeSweep (s : State) : Host.Outcome State Fault Refusal :=
  s.live (fun d0 =>
    let d := d0.serveLearns
    let nf := 2 ^ d.variant.flowLog2
    let d1 := d.each (List.range 16) (fun d i =>
      let e := (d.tables.flowSweep + i) % nf
      let a := d.get R.FLOW_W0_TABLE e
      d.ageVisit a e (d.flag R.TABLE_FT_CFG_AGE_EN 0 a) (d.get R.TABLE_FT_AGE_LIMIT_UNITS 0 a) (d.get R.FLOW_W0_STAMP e))
    let d2 := d1.each (List.range 16) (fun d i =>
      let e := (d.tables.macSweep + i) % 524288
      d.ageVisit 17 e (d.flag R.TABLE_MAC_CFG_AGE_EN) (d.get R.TABLE_MAC_CFG_AGE_LIMIT) (d.get R.MACENT_W0_STAMP e))
    { d2 with tables := { d2.tables with
        flowSweep := (d2.tables.flowSweep + 16) % nf, macSweep := (d2.tables.macSweep + 16) % 524288 } })

end Sys2Proof.Machine
end

