-- ==== Sys2Proof/Machine/Sessions.lean ====
section
/-! DEFINITION. Sessions: challenges, OPEN and CLOSE, their ends and their registers (spec/16_roles_store.md R530 to R533,
R554, R555; 17 R574; 18 R589, R591). -/

namespace Sys2Proof.Machine

/-! ### Statuses (R555) -/

def ssDone : Nat := 0
def ssBusy : Nat := 1
def ssNoKey : Nat := 4
def ssBadSig : Nat := 5
def ssExpired : Nat := 6
def ssLocked : Nat := 7
def ssPath : Nat := 8
def ssRole : Nat := 9
def ssNoSession : Nat := 10
def ssDmaErr : Nat := 11
def ssStore : Nat := 12
def ssExhausted : Nat := 13
def ssBadArg : Nat := 14

/-! ### Sessions (R530 to R533) -/

/-- Notches in 60 s, the life of a challenge and of a lock. -/
def sixtySeconds : Nat := 937500000

/-- A path is locked (R532). -/
def Dev.locked (d : Dev) (bank : Nat) : Bool := (assoc d.roles.lockouts bank).any (fun n => decide (d.dial.notch < n))

/-- 32 random bytes, as four words. -/
def Dev.nonce (d : Dev) : List Word × Dev :=
  let a := d.free
  let b := a.2.free
  let c := b.2.free
  let e := c.2.free
  ([a.1, b.1, c.1, e.1], e.2)

/-- GET_CHALLENGE on a path (R530, R532): a nonce and a counter for a role and a slot. -/
def Dev.challenge (d : Dev) (path : Path) (role slot : Nat) : Dev × Nat :=
  let bank := path.bank
  if d.locked bank then ((d.journal path 6 pgROLE 0x40 0 (sessionWord role slot ssLocked)).raiseBit R.ROLE_EVENTS 1, ssLocked)
  else
    let r := d.nonce
    let n := r.2.store.counter + 1
    let c : Challenge := { bank := bank, role := role, slot := slot, counter := n
                           nonce := r.1.flatMap (fun w => leBytes 8 w.toNat), notch := d.dial.notch }
    let d1 : Dev := { r.2 with
      store := { r.2.store with counter := n }
      roles := { r.2.roles with challenges := r.2.roles.challenges.filter (fun x => x.bank != bank) ++ [c] } }
    let d2 := d1.putWord ⟨.ROLE, bank, 14⟩ (BitVec.ofNat 64 n)
    (d2.each (List.range 4) (fun d k => d.putWord ⟨.ROLE, bank, 10 + k⟩ (nth r.1 k 0)), ssDone)

/-- GET_CHALLENGE written to ROLE.SESS_CMD: it opens no operator session (R555). -/
def Dev.askChallenge (d : Dev) (path : Path) (role slot : Nat) : Dev × Nat :=
  if role < 2 then (d, ssPath) else d.challenge path role slot

/-- The ASCII bytes "KXD-SESSION". -/
def sessionTag : List Byte := [0x4B, 0x58, 0x44, 0x2D, 0x53, 0x45, 0x53, 0x53, 0x49, 0x4F, 0x4E]

/-- The 70 bytes that a signature for OPEN covers (R530). -/
def Dev.openMessage (d : Dev) (path : Path) (c : Challenge) : List Byte :=
  sessionTag ++ d.serialBytes ++ leBytes 1 c.role ++ leBytes 1 c.slot ++ leBytes 1 path.num ++ leBytes 8 c.counter ++ c.nonce

/-- Whether a signature for OPEN verifies under the key that the path's challenge names (R530). -/
def Dev.openSigned (d : Dev) (path : Path) (sig : List Byte) : Bool :=
  (d.roles.challenges.find? (fun x => x.bank == path.bank)).any
    (fun c => xmssVerify (d.keySlot c.role c.slot).key (d.openMessage path c) sig)

/-- The status with which OPEN is refused; none where the session opens (R531). `sig` is whether the signature verifies,
none where its read failed. -/
def Dev.openFault (d : Dev) (path : Path) (c : Option Challenge) (sig : Option Bool) : Option Nat :=
  match c with
  | none => some ssExpired
  | some c =>
    let overMctp : Bool := match path with | .mctp _ => true | _ => false
    if c.notch + sixtySeconds ≤ d.dial.notch then some ssExpired
    else if c.role = 1 ∧ !overMctp then some ssPath
    else if !d.keyActive c.role c.slot then some ssNoKey
    else match sig with
      | none => some ssDmaErr
      | some ok =>
        if !ok then some ssBadSig
        else if c.role = 3 ∧ d.roles.sessions.any (fun x => x.role == 3 && x.bank != path.bank) then some ssBusy
        else none

/-- A refusal for reason 4 or 5 counted; the eighth in a row locks the path (R532). -/
def Dev.countRefusal (d : Dev) (bank : Nat) : Dev :=
  let n := (assoc d.roles.refusals bank).getD 0 + 1
  if 8 ≤ n then
    ({ d with roles := { d.roles with
        refusals := assocDel d.roles.refusals bank
        lockouts := assocSet d.roles.lockouts bank (d.dial.notch + sixtySeconds) } }).raiseBit R.ROLE_EVENTS 2
  else { d with roles := { d.roles with refusals := assocSet d.roles.refusals bank n } }

/-- OPEN on a path with the outcome of its signature's check (R531 to R533): the challenge is used up, and the session opens
or is refused. -/
def Dev.openJudged (d : Dev) (path : Path) (sig : Option Bool) : Dev × Nat :=
  let bank := path.bank
  let c := d.roles.challenges.find? (fun x => x.bank == bank)
  let d1 := d.dropChallenge bank
  match d.openFault path c sig, c with
  | some st, _ =>
    let word := sessionWord (c.elim 0 Challenge.role) (c.elim 0 Challenge.slot) st
    let d2 := (d1.journal path 6 pgROLE 0x40 0 word).raiseBit R.ROLE_EVENTS 1
    (if st = ssNoKey ∨ st = ssBadSig then d2.countRefusal bank
      else d2.noteRead path (st == ssDmaErr) (d.word ⟨.ROLE, bank, 15⟩).toNat, st)
  | none, none => (d1, ssExpired)
  | none, some c =>
    let d2 := d1.endSession bank
    let x : Session := { bank := bank, path := path, role := c.role, slot := c.slot, counter := c.counter, last := d.dial.notch }
    let d3 : Dev := { d2 with roles := { d2.roles with
      sessions := d2.roles.sessions ++ [x], refusals := assocDel d2.roles.refusals bank
      staging := if bank = 4 then [] else d2.roles.staging } }
    ((d3.journal path 4 pgROLE 0x40 0 (sessionWord c.role c.slot ssDone)).raiseBit R.ROLE_EVENTS 0, ssDone)

/-- OPEN on a path (R530 to R533), with the signature, or none where its read failed. -/
def Dev.openSession (d : Dev) (path : Path) (sig : Option (List Byte)) : Dev × Nat :=
  d.openJudged path (sig.map (d.openSigned path))

/-- The signature that OPEN reads through its installer PF (R531): none where a read fails. -/
def Dev.openSource (d : Dev) (path : Path) (data : Option (List Byte)) : Option (List Byte) :=
  d.sourceBytes path (d.word ⟨.ROLE, path.bank, 15⟩).toNat xmssSigLen data

/-- CLOSE on a path (R533). -/
def Dev.closeSession (d : Dev) (path : Path) : Dev × Nat :=
  if (d.session path.bank).isNone then (d, ssNoSession)
  else if d.journalFull then (d.journalRefuse, ssBusy)
  else (d.endSession path.bank, ssDone)

/-- A request of a session refused with BUSY and counted where the buffer has no place for its records (R537). -/
def Dev.ifRoom (d : Dev) (r : Dev × Nat) : Dev × Nat :=
  if d.overfilled r.1 then (d.journalRefuse, ssBusy) else r

/-- SESSION_IDLE_END (R533): a session through which nothing was accessed for IDLE_S ends. -/
def execSessionIdleEnd (path : Path) (s : State) : Host.Outcome State Fault Refusal :=
  s.act (fun d =>
    match d.session path.bank with
    | some x =>
      if x.last + d.get R.ROLE_SESS_CFG_IDLE_S * 15625000 ≤ d.dial.notch then d.endSession path.bank else d
    | none => d)

/-- LOCKOUT_END (R532): the lock of a path ends. -/
def execLockoutEnd (path : Path) (s : State) : Host.Outcome State Fault Refusal :=
  s.act (fun d =>
    if d.locked path.bank then d
    else { d with roles := { d.roles with lockouts := assocDel d.roles.lockouts path.bank } })

/-- The session registers of a bank as they stand (R555). -/
def Dev.showSession (d : Dev) (bank : Nat) : Dev :=
  let idle := d.get R.ROLE_SESS_CFG_IDLE_S * 15625000
  let w := match d.session bank with
    | some x => 1 + x.role * 2 + x.slot * 2 ^ 3 + saturate 32 ((x.last + idle - d.dial.notch + 15624999) / 15625000) * 2 ^ 16
    | none => 0
  d.putWord ⟨.ROLE, bank, 9⟩ (BitVec.ofNat 64 (w + bit (d.locked bank) * 2 ^ 7))

/-- The journal's registers (R555). -/
def Dev.showJournal (d : Dev) : Dev :=
  let c := d.chainBefore
  let d1 := d.each (List.range 4) (fun d k => d.put R.ROLE_JOURNAL_HEAD (leNat ((c.drop (8 * k)).take 8)) 0 k)
  d1.put R.ROLE_JOURNAL_STAT_BUFFERED (saturate 11 d1.roles.buffer.length)

/-! ### ROLE.SESS_CMD -/

/-- ROLE.SESS_CMD written from an installer PF (R555; 18 R589, R591; 17 R574): it needs no role. It is discarded in Safe
Hold and refused with BUSY during a firmware swap and while the journal is full. -/
def Dev.sessCommand (d : Dev) (path : Path) (code role slot : Nat) (f : Dev → Dev × Nat) : Dev :=
  let bank := path.bank
  let k : Key := ⟨.ROLE, bank, 8⟩
  let st := fun (d : Dev) (x : Nat) =>
    d.putWord k (BitVec.ofNat 64 (code + role * 2 ^ 4 + slot * 2 ^ 6 + x * 2 ^ 16))
  if !d.reaches path pgROLE || d.held then d
  else if d.journalFull then st d.journalRefuse ssBusy
  else if d.stage == bsSwapping then st d ssBusy
  else
    let r := f (d.touch path)
    let d1 := st r.1 r.2
    let d2 := d1.journalAs (d.role path) (d.sessionNo path) path 1 pgROLE 0x40 (d.regs.word k) (d1.regs.word k)
    if d.overfilled d2 then st d.journalRefuse ssBusy else d2

end Sys2Proof.Machine
end

