-- ==== Sys2Proof/Machine/Standby.lean ====
section
/-! DEFINITION. The way into Standby, and what a loss of power leaves (spec/03_ports.md R114, R115, R122; 17 R560; 19 R616). -/

namespace Sys2Proof.Machine

/-! ### What goes with the power, and what stays -/

/-- The replacement reasons that the health record keeps: those the maker clears (15 R513, R514). -/
def keptReasons : Nat := 0x1F8

/-- What of the serial store and the fuses a reset finds: the reasons and the rollback floor as they stood. -/
def Dev.storeKept (d : Dev) : SerialStore :=
  { d.store with
    reasons := d.store.reasons ||| (d.get R.HEALTH_REPLACE_REASONS &&& keptReasons)
    floor := max d.store.floor (d.get R.SSTORE_FW_FLOOR) }

/-! ### ENTER_STANDBY (R114, R115) -/

/-- The place of WAKE.CMD. -/
def wakeKey : Key := fldKey R.WAKE_CMD_CODE 0 0

/-- The patterns of the WAKE page: the bytes, the mask over them and the length of each (R122). -/
def Dev.wakePatterns (d : Dev) : List (List Byte × Nat × Nat) :=
  (List.range 8).map (fun p =>
    ((List.range 16).flatMap (fun j => leBytes 8 (d.get R.WAKE_PATTERN 0 (16 * p + j))),
      d.get R.WAKE_MASK 0 (2 * p) + d.get R.WAKE_MASK 0 (2 * p + 1) * 2 ^ 64, d.get R.WAKE_LENGTH_LEN 0 p))

/-- Steps 1 to 3 of R115: the ports DOWN and the Basin empty, the open interval closed with PARTIAL, and the backlog written
while the ring takes it. -/
def Dev.standbyData (d : Dev) : Dev :=
  let ports := (List.range 16).filter (fun p => d.portInService p && d.get R.PORT_STATUS_LINK p != 0)
  let d1 := d.each ports Dev.linkDown
  let d2 := d1.each (d1.basin.frames.map Frame.head) Dev.freeFrame
  let d3 := d2.closeLedger false true
  d3.each (List.range d3.ledger.backlog.length) (fun d _ => d.ledgerWrite)

/-- Step 4: the journal buffer and the health record written to the serial store and verified (16 R540; 15 R514). -/
def Dev.standbyStore (d : Dev) (w : StoreWrite) : Dev :=
  let d0 := ({ d with roles := { d.roles with owed := [] } } : Dev).each d.roles.owed Dev.record
  let d1 := d0.flushJournal w d0.roles.buffer.length
  let r := d1.storeWrite w offHealth (fun c => c.erase offHealth)
  if r.2 then { r.1 with store := r.1.storeKept } else r.1

/-- Steps 5 and 6: the wake settings saved, and power removed from all but the detector. -/
def Dev.standbySleep (d : Dev) : Dev :=
  let w : Wake := { d.wake with
    standby := true, leaving := none, savedCtrl := (d.word ⟨.WAKE, 0, 8⟩).toNat, savedMac := d.get R.WAKE_MAGIC_MAC_MAC
    savedPatterns := d.wakePatterns }
  ({ d with wake := w }).outputsOff

/-- Steps 4 to 6 at the end of the Notch after the command's: until then WAKE.CMD reads PENDING (R115; DESIGN CHOICE,
notes/assumptions/118). -/
def Dev.standbyDue (d : Dev) : Option StoreWrite :=
  d.wake.leaving.bind (fun x => if x.1 < d.dial.notch then some x.2 else none)

/-- ENTER_STANDBY (R114, R115): `write` is what the writes to the serial store meet. Of INSTANCES and BUSY the first is
tested first (DESIGN CHOICE, notes/assumptions/118). -/
def execEnterStandby (path : Path) (write : StoreWrite) (s : State) : Host.Outcome State Fault Refusal :=
  s.act (fun d =>
    let st := fun (d : Dev) (x : Nat) => (d.put R.WAKE_CMD_CODE 1).put R.WAKE_CMD_STATUS x
    let d1 := d.command path pgWAKE 0x50 wakeKey (fun d => st d 1) (fun d =>
      if d.cmdBusy wakeKey then st d 1
      else if (d.touched .INST).any (fun i => i != 0 && d.instState i != stFree && d.instState i != stQuiesced) then st d 2
      else if !d.ports.recal.isEmpty || d.installNow (fun t => t == 2) then st d 1
      else (st d 4).cmdStart wakeKey)
    if d1.cmdBusy wakeKey && !d.cmdBusy wakeKey then
      (let d2 := d1.standbyData
       { d2 with wake := { d2.wake with leaving := some (d.dial.notch, write) } })
    else d1)

end Sys2Proof.Machine
end

