-- ==== Sys2Proof/Machine/Bus.lean ====
section
/-! DEFINITION. Writes of registers that are commands, whichever way the write comes, and UPD_CTRL's release
(spec/18_register_pages.md R588, R591, R592; 00 R20). -/

namespace Sys2Proof.Machine

/-- The device after a command performed within another one. -/
def Dev.after (d : Dev) (f : State → Host.Outcome State Fault Refusal) : Dev :=
  match f { pending := [], dev := d } with
  | .next s => s.dev
  | _ => d

/-- A register that holds a command: its word, its STATUS field, the code of the status that refuses a CODE not in use,
and the last CODE in use (the field tables of the pages). -/
def cmdReg (sp : Space) (word : Nat) : Option (Fld × Nat × Nat) :=
  match sp, word with
  | .DIAL, 18 => some (R.DIAL_STEP_CMD_STATUS, 3, 2)
  | .LANEGRP, 10 => some (R.LANEGRP_CMD_STATUS, 3, 2)
  | .WAKE, 10 => some (R.WAKE_CMD_STATUS, 3, 1)
  | .GLEN, 8 => some (R.GLEN_CMD_STATUS, 6, 5)
  | .GPHYS, 14 => some (R.GPHYS_DBG_CMD_STATUS, 7, 5)
  | .TABLE, 8 => some (R.TABLE_CMD_STATUS, 10, 9)
  | .SCHED, 8 => some (R.SCHED_CMD_STATUS, 7, 5)
  | .HOST, 10 => some (R.HOST_CMD_STATUS, 3, 1)
  | .INST, 9 => some (R.INST_CMD_STATUS, 4, 10)
  | .CRYPTO, 8 => some (R.CRYPTO_CMD_STATUS, 4, 3)
  | .MOVER, 8 => some (R.MOVER_CMD_STATUS, 4, 2)
  | .HEALTH, 24 => some (R.HEALTH_CMD_STATUS, 3, 5)
  | .ROLE, 17 => some (R.ROLE_KEY_CMD_STATUS, 3, 2)
  | .SSTORE, 19 => some (R.SSTORE_CMD_STATUS, 3, 3)
  | .BOOT, 11 => some (R.BOOT_CMD_STATUS, 3, 3)
  | _, _ => none

/-- The readback of a command register set: the CODE and arguments of the word written, and a status. -/
def Dev.cmdReadback (d : Dev) (k : Key) (w : Word) (f : Fld) (st : Nat) : Dev :=
  d.putWord k (readbackOf (d.word k) w k f st)

/-- Whether the command register takes a command of the path at all: it is served, not discarded in Safe Hold and no ROLE
error (18 R588; 15 R504). -/
def Dev.takesCommand (d : Dev) (p : Path) (page : Nat) : Bool :=
  match pageInfo d.variant page with
  | some i =>
    i.present && d.reaches p page && !(d.held && page != pgEVT && page != pgHEALTH) && rolePasses (d.role p) i.role
  | none => false

/-- A command written as the word `w`, performed by its own row `f`: the field reads back the arguments as they were written,
those that the command does not use included (00 R15; 18 R591). -/
def Dev.runWritten (d : Dev) (w : Word) (f : State → Host.Outcome State Fault Refusal) : Dev :=
  let d1 := ({ d with acc := { d.acc with cmdWord := some w } } : Dev).after f
  { d1 with acc := { d1.acc with cmdWord := none } }

/-- A write of CODE 0 to a command register: discarded, as a ROLE error from a path whose role is too low, and else as a
configuration error (18 R588, R591; 00 R629; 15 R504). -/
def Dev.noCommand (d : Dev) (p : Path) (page off : Nat) : Dev :=
  match pageInfo d.variant page with
  | some i =>
    if !i.present || !d.reaches p page || (d.held && page != pgEVT && page != pgHEALTH) then d
    else if !rolePasses (d.role p) i.role then d.roleError p page off
    else d.configError page off
  | none => d

/-- A command of a CODE not in use: refused with INVALID, or with BUSY while one is in progress (00 R20). -/
def Dev.unknownCommand (d : Dev) (p : Path) (page : Nat) (k : Key) (w : Word) (f : Fld) (inv : Nat) : Dev :=
  d.command p page (8 * k.word) k (fun d => d.cmdReadback k w f 1)
    (fun d => d.cmdReadback k w f (if d.cmdBusy k then 1 else inv))

/-! ### Commands written plainly

A command performed by a plain register write reads host memory and writes the serial store as its own
row does. What comes of that lies outside the device, and a plain write says nothing of it: free values
(notes/assumptions/20). -/

/-- A bit that nothing determines, and a store write's outcome, a copy read and what a write meets on a device made of such
values. -/
def Dev.outerBit (d : Dev) (n : Nat) : Bool := (Config.freeValue (d.fresh + n)).getLsbD 0
def Dev.outerStore (d : Dev) : StoreWrite :=
  { fail0 := d.outerBit 1, fail1 := d.outerBit 2 }
def Dev.outerCopy (d : Dev) : RegionCopy := if d.outerBit 0 then .first else if d.outerBit 1 then .second else .neither
def Dev.outerWrite (d : Dev) (k : Nat) : DeviceWrite :=
  { fails := d.outerBit (1 + k) }

/-- `n` bytes that a read of host memory returns, or none where it fails. -/
def Dev.outerRead (d : Dev) (n : Nat) : Option (List Byte) :=
  if d.outerBit 5 then none
  else some ((List.range n).map (fun i => (Config.freeValue (d.fresh + 6 + i / 8) >>> (8 * (i % 8))).setWidth 8))

/-- The free values of a command that reads `n` bytes are used up. -/
def Dev.usedOuter (d : Dev) (n : Nat) : Dev := { d with fresh := d.fresh + 7 + n / 8 }

/-- What a write of a whole word of a page does where the word is a command, or a register whose writes are commands of
their own; none where it is neither. -/
def Dev.namedCommand (d : Dev) (p : Path) (page : Nat) (i : PageInfo) (word : Nat) (w : Word) : Option Dev :=
  let code := w.field 0 4
  let u := i.unit
  match i.space with
  | none => none
  | some sp =>
    match cmdReg sp word with
    | some (f, inv, last) =>
      let run := fun (g : State → Host.Outcome State Fault Refusal) => some (d.runWritten w g)
      let outer := fun (n : Nat) (g : State → Host.Outcome State Fault Refusal) =>
        some ((if d.takesCommand p page then d.usedOuter n else d).runWritten w g)
      if code = 0 then some (d.noCommand p page (8 * word))
      else if last < code then some (d.unknownCommand p page ⟨sp, u, word⟩ w f inv)
      else match sp, code with
        | .DIAL, 1 => run (execStepRel p)
        | .DIAL, _ => run (execSetAbs p)
        | .LANEGRP, 1 => run (execApplyMode p u)
        | .LANEGRP, _ => run (execRecal p u (w.field 4 4))
        | .WAKE, _ => outer 0 (execEnterStandby p d.outerStore)
        | .GLEN, 1 =>
          let n := d.get R.GSLOT_PROG_INFO_LEN (w.field 4 4)
          outer n (execStageProg p (w.field 4 4) (d.outerRead n))
        | .GLEN, 2 => run (execHandover p (w.field 4 4) (w.field 8 5))
        | .GLEN, 3 => run (execAdmitGlen p (w.field 4 4) (w.field 8 5))
        | .GLEN, 4 => run (execSelftest p (w.field 8 5))
        | .GLEN, 5 => run (execRestartCore p (w.field 8 5) (w.field 13 5))
        | .GPHYS, 1 => run (execHalt p u)
        | .GPHYS, 2 => run (execGphysResume p u)
        | .GPHYS, 3 => run (execStep p u)
        | .GPHYS, 4 => run (execAbortStage p u)
        | .GPHYS, _ => run (execDropTicket p u)
        | .TABLE, 1 => run (execInsert p (w.field 4 5))
        | .TABLE, 2 => run (execReplace p (w.field 4 5))
        | .TABLE, 3 => run (execDelete p (w.field 4 5))
        | .TABLE, 4 => run (execFind p (w.field 4 5))
        | .TABLE, 5 => run (execDeleteIndex p (w.field 4 5))
        | .TABLE, 6 => run (execRebuildBegin p (w.field 4 5))
        | .TABLE, 7 => run (execMigrate p (w.field 4 5))
        | .TABLE, 8 => run (execSwitch p (w.field 4 5))
        | .TABLE, _ => run (execFlush p (w.field 4 5))
        | .SCHED, 1 => run (execAttachLeaf p (w.field 4 17) (w.field 21 15))
        | .SCHED, 2 => run (execAttachNode p (w.field 21 15) (w.field 36 5) (w.field 41 3))
        | .SCHED, 3 => run (execDetachLeaf p (w.field 4 17))
        | .SCHED, 4 => run (execDetachNode p (w.field 21 15))
        | .SCHED, _ => run (execGateSwitch p (w.field 36 5) (w.field 41 3))
        | .HOST, _ => run (execRetrain p (hostPort u))
        | .INST, 1 => run (execActivate p u)
        | .INST, 2 => run (execQuiesce p u)
        | .INST, 3 => run (execResume p u)
        | .INST, 4 => run (execFreeze p u)
        | .INST, 5 => run (execThaw p u)
        | .INST, 6 => run (execSave p u)
        | .INST, 7 => run (execRestore p u)
        | .INST, 8 => run (execReset p u)
        | .INST, 9 => run (execRemove p u)
        | .INST, _ => run (execHarvest p u)
        | .CRYPTO, 1 => run (execLoadKey p (w.field 4 20))
        | .CRYPTO, 2 => run (execClearKey p (w.field 4 20))
        | .CRYPTO, _ => run (execPopEvt p)
        | .MOVER, 1 =>
          outer 64 (execStart p (w.field 4 6) (d.outerRead 64))
        | .MOVER, _ => run (execClear p (w.field 4 6))
        | .HEALTH, 1 => run (execClearReasons p (w.field 22 10))
        | .HEALTH, 2 => run (execEnterSafeHold p)
        | .HEALTH, 3 => run (execResetDevice p)
        | .HEALTH, 4 => run (execRemapRegion p (w.field 4 1) (w.field 8 14))
        | .HEALTH, _ => run (execRetireBank p (w.field 8 14))
        | .ROLE, 1 => outer 68 (execEnrol p (w.field 4 2) (w.field 6 4) (d.outerRead 68) d.outerStore)
        | .ROLE, _ => outer 0 (execRevoke p (w.field 4 2) (w.field 6 4) d.outerStore)
        | .SSTORE, c =>
          let n := d.get R.SSTORE_SRC_LEN
          let g := if c = 1 then execInstallFw else if c = 2 then execInstallSet else execInstallIdentity
          outer n (g p (w.field 4 1) (d.outerRead n) (d.outerWrite 0) (d.outerWrite 1))
        | .BOOT, 1 => outer 0 (execSwapFw p (w.field 4 1) d.outerCopy)
        | .BOOT, 2 => run (execCommitFw p)
        | .BOOT, _ => run (execRevertFw p)
        | _, _ => none
    | none =>
      let run := fun (f : State → Host.Outcome State Fault Refusal) => some (d.after f)
      match sp, word with
      | .DIAL, 8 => run (execDialCtrlWrite p w)
      | .DIAL, 15 => run (execSlewWrite p w)
      | .MOVER, 9 => run (execSwreq p w)
      | .EVT, 8 => run (execSwset p w)
      | .EVT, 9 => run (execHostEoi p (w.field 0 11))
      | .BOOT, 13 => run (execWdogKick p)
      | .ROLE, 8 =>
        (match p with
         | .installer _ =>
           let role := w.field 4 2
           let slot := w.field 6 4
           if code = 0 then some (if d.reaches p page && !d.held then d.configError page 0x40 else d)
           else if code = 1 then some (d.sessCommand p 1 role slot (fun d => d.askChallenge p role slot))
           else if code = 2 then
             let sig := d.outerRead xmssSigLen
             some ((d.usedOuter xmssSigLen).sessCommand p 2 role slot (fun d => d.openSession p (d.openSource p sig)))
           else if code = 3 then some (d.sessCommand p 3 role slot (fun d => d.closeSession p))
           else some (d.sessCommand p code role slot (fun d => (d, 3)))
         | _ =>
           if !d.reaches p page || d.held then some d
           else if !rolePasses (d.role p) i.role then some (d.roleError p page 0x40)
           else some (d.configError page 0x40))
      | _, _ => none

/-- What follows a write of a word whose effect goes beyond its fields: ADMIN that went to 0 (03 R95), flow control that is no
longer sent (03 R108), and DISABLE that went to 1 (13 R452). `d0` is the device before the write. -/
def Dev.ownRows (d0 d : Dev) (i : PageInfo) (word : Nat) : Dev :=
  match i.space with
  | some .PORT =>
    if word = 8 ∧ d0.flag R.PORT_CTRL_ADMIN i.unit ∧ !d.flag R.PORT_CTRL_ADMIN i.unit then d.adminDown i.unit
    else if word = 10 then d.flowModes i.unit
    else d
  | some .MOVER =>
    (match fldInstance R.MOVERCH_CFG_DISABLE word with
     | some n =>
       if !d0.flag R.MOVERCH_CFG_DISABLE 0 n && d.flag R.MOVERCH_CFG_DISABLE 0 n then d.disableCh n false else d
     | none => d)
  | _ => d

/-- A write of a whole word served: a command, a write of the header that is one, or a write of registers. -/
def Dev.wordWrite (d : Dev) (p : Path) (page word : Nat) (w : Word) : Dev :=
  match pageInfo d.variant page with
  | none => d
  | some i =>
    if word = 3 then (if w.getLsbD 0 then d.after (execErrAck p page) else d.busWrite p page 0x18 true w)
    else
      match d.namedCommand p page i word w with
      | some d1 => d1
      | none =>
        d.ownRows (d.busWrite p page (8 * word) true w) i word

/-- UPD_RELEASE (18 R592, R593; 15 R504): 0 is written to UPD_CTRL.HOLD; the held writes act in the order they were held, or
are discarded when DROP is 1 or, but for those of the EVT page, the device is in Safe Hold. -/
def execUpdRelease (path : Path) (page : Nat) (drop : Bool) (s : State) : Host.Outcome State Fault Refusal :=
  s.act (fun d0 =>
    let d := d0.touch path
    match pageInfo d.variant page with
    | none => d
    | some i =>
      if !i.present || !d.reaches path page then d
      else if d.held && page != pgEVT && (path.isVf || !d.mayHold path page i) then d
      else if !d.mayHold path page i then d.roleError path page 0x3C
      else if path.isVf && d.instHeld i.unit then d.configError page 0x3C
      else
        let b := d.holdBank path page
        let d1 := d.updControl path page i { hold := false, drop := drop, overflow := false, writes := [] }
        if !b.hold || drop || (d.held && page != pgEVT) || (d1.holdBank path page).hold then d1
        else d1.each b.writes (fun d w =>
          d.ownRows (d.writeWord path page (w.off / 8) w.mask w.data) i (w.off / 8)))

/-- UPD_CTRL written (18 R585, R592): HOLD 1 holds, HOLD 0 releases. -/
def Dev.updWrite (d : Dev) (p : Path) (page : Nat) (v : Word) : Dev :=
  if v.getLsbD 0 then d.after (execUpdHold p page (v.getLsbD 1)) else d.after (execUpdRelease p page (v.getLsbD 1))

/-- A 32-bit write of one half of a 64-bit register: with the half before it, low half first, it makes the whole write `f`
(00 R14). -/
def Dev.halves (d : Dev) (p : Path) (page off : Nat) (data : Word) (f : Dev → Word → Dev) : Dev :=
  let word := off % 4096 / 8
  if off % 8 < 4 then d.busWrite p page off false data
  else
    match assoc d.acc.low (p.bank, page, word) with
    | some l =>
      f { d with acc := { d.acc with low := assocDel d.acc.low (p.bank, page, word) } } ((data <<< 32) ||| l)
    | none => d.busWrite p page off false data

/-- A write of 64 or 32 bits at a page offset, commands included. -/
def Dev.regWrite (d : Dev) (p : Path) (page off : Nat) (wide : Bool) (data : Word) : Dev :=
  let word := off % 4096 / 8
  if wide then
    (if word = 7 then (d.busWrite p page off true data).updWrite p page (data >>> 32) else d.wordWrite p page word data)
  else if isNarrow (off % 4096) then
    (if word = 7 ∧ off % 8 = 4 then d.updWrite p page data else d.busWrite p page off false data)
  else d.halves p page off data (fun d w => d.wordWrite p page word w)

end Sys2Proof.Machine
end

