-- ==== Sys2Proof/Machine/Windows.lean ====
section
/-! DEFINITION. Access windows: the objects they reach, READ and WRITE, and register writes as a path makes them
(spec/18_register_pages.md R594 to R602; 06 R242; 07 R283; 08 R313; 09 R348; 12 R442; 13 R470; 14 R492; 15 R520; 16 R556). -/

namespace Sys2Proof.Machine

/-! ### Statuses of WIN_CMD (R594) -/

def wsDone : Nat := 0
def wsBusy : Nat := 1
def wsInvalid : Nat := 3
def wsBadObject : Nat := 4
def wsBadIndex : Nat := 5
def wsNoRead : Nat := 6
def wsBadField : Nat := 7
def wsRefused : Nat := 8
def wsMemErr : Nat := 9
def wsRole : Nat := 10

/-! ### Objects (R596) -/

/-- An object of a window: its bytes, and where its words lie when they are words of the register space. -/
structure WinObj where
  len : Nat
  place : Option (Space × Nat) := none
  words : List Word := []

/-- What a selection names. -/
inductive WinPick where
  | badObject | badIndex
  | object (o : WinObj)

/-- An object of the register space, where its index is in range. -/
def pick (ok : Bool) (sp : Space) (idx len : Nat) : WinPick :=
  if ok then .object { len := len, place := some (sp, idx) } else .badIndex

/-- An object whose words are computed. -/
def pickWords (ok : Bool) (ws : List Word) : WinPick :=
  if ok then .object { len := 8 * ws.length, words := ws } else .badIndex

/-- Words of a byte string. -/
def wordsOf (bs : List Byte) : List Word :=
  (List.range ((bs.length + 7) / 8)).map (fun k => BitVec.ofNat 64 (leNat ((bs.drop (8 * k)).take 8)))

/-- A link to a frame or a cell: 0xF_FFFF for none (08 R313). -/
def linkNo (x : Option Nat) : Nat := x.getD 0xFFFFF

/-- The element before and the element after the first that meets a condition. -/
def beside {α : Type} (p : α → Bool) (l : List α) : Option α × Option α :=
  ((l.takeWhile (fun x => !p x)).getLast?, ((l.dropWhile (fun x => !p x)).drop 1).head?)

/-- A cell record (08 R285, R313). NEXT of a last cell is `free`; a cell that is never granted again reads as one that holds
no byte yet, of ingress 0 (DESIGN CHOICE, notes/assumptions/104). -/
def Dev.cellWord (d : Dev) (free : Word) (c : Nat) : Word :=
  match (d.basin.frames ++ d.basin.freeing).find? (fun f => (f.cells.map Prod.fst).contains c) with
  | some f =>
    let next := (beside (fun (x : Nat × Nat) => x.1 == c) f.cells).2
    let st := match f.stage with | .arriving | .ticketed => 1 | .queued => 2 | .egress => 3
    BitVec.ofNat 64 ((next.elim (free.toNat % 2 ^ 20) Prod.fst) + bit (f.head == c) * 2 ^ 20 + bit next.isNone * 2 ^ 21 +
      (assoc f.cells c).getD 0 * 2 ^ 22 + st * 2 ^ 32 + f.ingress * 2 ^ 34)
  | none =>
    match d.basin.granted.find? (fun x => x.2 == c) with
    | some x => BitVec.ofNat 64 (2 ^ 32 + x.1 * 2 ^ 34)
    | none => if d.basin.leaked.contains c then BitVec.ofNat 64 (2 ^ 32) else 0

/-- A frame record (08 R286, R313); of a cell that heads no frame, `free` words. -/
def Dev.frameWords (d : Dev) (free : Nat → Word) (h : Nat) : List Word :=
  match d.basin.frames.find? (fun f => f.head == h) with
  | none => (List.range 10).map free
  | some f =>
    let queued : Bool := f.stage == .queued || f.stage == .egress
    let isH := fun (g : Frame) => g.head == h
    let leaf := d.basin.frames.filter (fun g => g.stage == .queued && g.leaf == f.leaf)
    let cls := d.basin.frames.filter (fun g => (g.stage == .queued || g.stage == .egress) && g.egress == f.egress && g.cls == f.cls)
    let next := if f.stage == .queued then (beside isH leaf).2.map Frame.head else none
    let both := if queued then beside isH cls else (none, none)
    BitVec.ofNat 64 (linkNo next + linkNo (both.1.map Frame.head) * 2 ^ 20 + linkNo (both.2.map Frame.head) * 2 ^ 40) ::
    BitVec.ofNat 64 (bit f.complete + bit f.errored * 2 + bit f.started * 4 + bit f.ct * 8 + f.cells.length % 128 * 2 ^ 4 +
      f.egress * 2 ^ 11 + f.cls * 2 ^ 16 + f.leaf * 2 ^ 19) ::
    (List.range 8).map f.tk.quad

/-- A leaf record (08 R288, R313): MAX_CELLS as written, and what the leaf holds. -/
def Dev.leafWords (d : Dev) (l : Nat) : List Word :=
  let all := d.basin.frames.filter (fun g => (g.stage == .queued || g.stage == .egress) && g.leaf == l)
  let q := all.filter (fun g => g.stage == .queued)
  let eg := match d.leafClass l with | some k => k / 8 | none => 0x1F
  [(d.word ⟨.LEAFREC, l, 0⟩) ||| BitVec.ofNat 64 ((all.map (fun f => f.cells.length)).sum * 2 ^ 20 + all.length * 2 ^ 40),
    BitVec.ofNat 64 (linkNo (q.head?.map Frame.head) + linkNo (q.getLast?.map Frame.head) * 2 ^ 20 + eg * 2 ^ 40)]

/-- Cells of an ingress and a class (08 R288, R313). -/
def Dev.ingressCells (d : Dev) (k : Nat) : Nat :=
  d.ingressClassCells (k / 8) (k % 8)

/-- A lock (R601). -/
def Dev.lockWord (d : Dev) (g n : Nat) : Word :=
  let l := d.lock (lockKey g n)
  let h := fun (f : ThreadId → Nat) => l.holder.elim 0 f
  BitVec.ofNat 64 (bit l.holder.isSome + bit l.broken * 2 + h ThreadId.coreNo % 32 * 2 ^ 2 + h ThreadId.threadNo % 8 * 2 ^ 7 +
    h ThreadId.glenNo % 32 * 2 ^ 10 + l.waiters.length % 1024 * 2 ^ 16)

/-- A channel (R601). -/
def Dev.channelWords (d : Dev) (g n : Nat) : List Word :=
  let c := d.chan (g, n)
  let h := fun (f : ThreadId → Nat) => c.writer.elim 0 f
  let staged := match c.writer with | some w => (d.thread w).stage.elim 0 (fun x => x.2.length) | none => 0
  [BitVec.ofNat 64 (c.words + c.msgs.length % 256 * 2 ^ 9 + bit c.writer.isSome * 2 ^ 17 + h ThreadId.coreNo % 32 * 2 ^ 18 +
      h ThreadId.threadNo % 8 * 2 ^ 23 + staged % 32 * 2 ^ 26),
    BitVec.ofNat 64 (c.readers.length % 256 + c.writers.length % 256 * 2 ^ 8)]

/-- The thread that an index of the GPHYS window names. -/
def winThread (g idx : Nat) : ThreadId := .glen g (idx / 8) (idx % 8)

/-- The 96 bytes of the journal record whose SEQ is `idx` modulo the size of the journal; zeros where none is held. -/
def Dev.journalBytes (d : Dev) (idx : Nat) : List Byte :=
  match latestOf ((d.storedRecords ++ d.roles.buffer).filter (fun r => r.seq % journalSize == idx)) with
  | some r => r.body ++ (r.chain ++ List.replicate 32 0).take 32
  | none => List.replicate 96 0

/-- A flow bucket's index names a bucket of its table (07 R283). -/
def Dev.flowBucketOk (d : Dev) (idx : Nat) : Bool :=
  decide (idx / 2 ^ 23 < 16) && decide (idx % 2 ^ 22 < 2 ^ d.getStart R.TABLE_FT_CFG_BUCKET_LOG2 0 (idx / 2 ^ 23))

/-- The object that a code and an index name on a page, its words as they stand in `d`; `free` where the spec leaves them
open. A READ takes them of the device at the start of the Notch, a WRITE of the device as it stands. -/
def Dev.winPick (d : Dev) (i : PageInfo) (code idx : Nat) (free : Nat → Word) : WinPick :=
  let u := i.unit
  match i.space, code with
  | some .TABLE, 1 => pick (decide (idx < 2 ^ d.variant.flowLog2)) .FLOW idx 128
  | some .TABLE, 2 => pick (d.flowBucketOk idx) .FLOWBKT idx 64
  | some .TABLE, 3 => pick (decide (idx < 4194304)) .ROUTE idx 64
  | some .TABLE, 4 => pick (decide (idx < 1048576)) .ROUTEBKT idx 64
  | some .TABLE, 5 => pick (decide (idx < 524288)) .MACENT idx 32
  | some .TABLE, 6 => pick (decide (idx < 131072)) .MACBKT idx 64
  | some .TABLE, 7 => pick (decide (idx < 32)) .MOVELOG idx 16
  | some .TABLE, 8 => pick (decide (idx < 4096)) .VRF idx 40
  | some .TABLE, 9 => pick (decide (idx < 1048576)) .FILTER idx 8
  | some .BASIN, 1 => pickWords (decide (idx < 393216)) [d.cellWord (free 0) idx]
  | some .BASIN, 2 => pickWords (decide (idx < 393216)) (d.frameWords free idx)
  | some .BASIN, 3 =>
    if idx < 131072 then .object { len := 16, place := some (.LEAFREC, idx), words := d.leafWords idx } else .badIndex
  | some .BASIN, 4 => pick (decide (idx < 160) && d.egressPresent (idx / 8)) .ECSTAT idx 32
  | some .BASIN, 5 => pickWords (decide (idx < 160) && d.egressPresent (idx / 8)) [BitVec.ofNat 64 (d.ingressCells idx)]
  | some .SCHED, 1 => pick (decide (idx < 131072)) .LEAF idx 48
  | some .SCHED, 2 => pick (decide (idx < 32768)) .NODE idx 56
  | some .SCHED, 3 => pick (decide (idx < 160) && d.egressPresent (idx / 8)) .ECLASS idx 8
  | some .SCHED, 4 => pick (decide (idx < 262144)) .POLICER idx 72
  | some .SCHED, 5 => pick (decide (idx < 128) && d.egressPresent (idx / 8)) .GATE idx 80
  | some .SCHED, 6 => pick (decide (idx < 262144) && d.egressPresent (idx / 16384)) .GATEENT idx 8
  | some .CLASSIFY, 1 => pick (decide (idx < 131072)) .RULE idx 160
  | some .CRYPTO, 1 => pick (decide (idx < 1048576)) .SA idx 256
  | some .STORE, 1 => pick (decide (idx < 131072)) .CONN idx 128
  | some .EVT, 1 => pick (decide (idx < 2047)) .SRC idx 16
  | some .HEALTH, 1 =>
    pick (decide (idx / 16384 < d.variant.stacks) && decide (idx % 16384 < visibleRegions)) .HBMREG idx 8
  | some .HEALTH, 2 => pick (decide (idx < 32)) .BANK idx 8
  | some .ROLE, 1 =>
    pickWords (decide (1 ≤ idx / 8) && decide (idx % 8 < classSlots (idx / 8))) (wordsOf (d.keyRecord (idx / 8) (idx % 8)))
  | some .ROLE, 2 => pickWords (decide (idx < journalSize)) (wordsOf (d.journalBytes idx))
  | some .GPHYS, 1 => pickWords (decide (idx < 256)) ((List.range 32).map (d.thread (winThread u idx)).reg)
  | some .GPHYS, 2 =>
    pickWords (decide (idx < 256)) [BitVec.ofNat 64 (d.thread (winThread u idx)).pc, d.dbgWord (winThread u idx)]
  | some .GPHYS, 3 =>
    pickWords (decide (idx < 256)) ((List.range 8).map (fun q =>
      (d.thread (winThread u idx)).pkt.elim 0 (fun p => p.tk.quad q)))
  | some .GPHYS, 4 => pickWords (decide (idx < 5120)) [d.lockWord u idx]
  | some .GPHYS, 5 => pickWords (decide (idx < 64)) (d.channelWords u idx)
  | _, _ => .badObject

/-- The key words of the rule at a row: those of the valid set that holds it, 8 outside every set (06 R242). -/
def Store.ruleWords (s : Store) (row : Nat) : Nat :=
  let f := fun (x : Fld) k => (s.word (fldKey x 0 k)).field x.lo x.w
  let mine := (List.range 256).filter (fun k => f R.CLASSIFY_RULESET_VALID k == 1 && decide (f R.CLASSIFY_RULESET_BASE k ≤ row) &&
    decide (row < f R.CLASSIFY_RULESET_BASE k + f R.CLASSIFY_RULESET_ROWS k))
  if mine.isEmpty then 8 else (mine.map (fun k => f R.CLASSIFY_RULESET_KEY_WORDS k + 1)).foldl max 1

/-- A VALUE or MASK word that a rule of `n` key words does not have: reserved where `n` is at most 4 (06 R242). -/
def ruleReserved (n w : Nat) : Bool := decide (n ≤ 4) && within 3 18 w && decide (n ≤ (w - 3) % 8)

/-- The words of an object, those in the register space as they stand in a store. -/
def WinObj.at (o : WinObj) (s : Store) : List Word :=
  match o.place with
  | some (.LEAFREC, _) => o.words
  | some (.RULE, idx) =>
    let n := s.ruleWords idx
    (List.range 20).map (fun w => if ruleReserved n w then 0 else s.word ⟨.RULE, idx, w⟩)
  | some (sp, idx) => (List.range (o.len / 8)).map (fun w => s.word ⟨sp, idx, w⟩)
  | none => o.words

/-! ### READ (R597) -/

/-- The words of an object that cannot be corrected: those already known, and those the READ meets. -/
def Dev.badWords (d : Dev) (o : WinObj) (code : Nat) (i : PageInfo) (bad : List Nat) : List Nat :=
  let met := (bad.filter (fun w => decide (w < o.len / 8))).eraseDups
  match i.space, o.place with
  | some .TABLE, some (sp, idx) =>
    (met ++ (d.tables.bad.filter (fun k => decide (k.sp = sp) && k.idx == idx)).map Key.word).eraseDups
  | some .CLASSIFY, _ => met
  | some .CRYPTO, some (_, idx) => if met = [] ∧ d.units.badSa.contains idx then [0] else met
  | some .STORE, some (_, idx) => if met = [] ∧ d.units.badConn.contains idx then [0] else met
  | some .BASIN, _ => if code ≤ 2 then met else []
  | _, _ => []

/-- An uncorrectable word of an object recorded under the object's class (15 R494, R510, R511). -/
def Dev.noteBad (d : Dev) (o : WinObj) (code idx : Nat) (i : PageInfo) (bad : List Nat) : Dev :=
  match i.space, o.place with
  | some .TABLE, some (sp, _) =>
    let ks := bad.map (fun w => Key.mk sp idx w)
    ({ d with tables := { d.tables with bad := (d.tables.bad ++ ks).eraseDups } }).each ks Dev.tableError
  | some .CLASSIFY, _ =>
    (({ d with tables := { d.tables with bad := (d.tables.bad ++ [Key.mk .RULE idx 0]).eraseDups } }).put R.RULE_PARITY_ERR 1
      idx).error pgCLASSIFY 6 0 idx
  | some .CRYPTO, _ =>
    (({ d with units := { d.units with badSa := (d.units.badSa ++ [idx]).eraseDups } }).error pgCRYPTO 15 2 idx).each bad
      (fun d w => d.objectFault ⟨.SA, idx, w⟩)
  | some .STORE, _ =>
    ({ d with units := { d.units with badConn := (d.units.badConn ++ [idx]).eraseDups } }).error pgSTORE 15 3 idx
  | some .BASIN, _ =>
    if code = 2 then
      (match d.frame? idx with
       | some f => (d.readFault f .frame).1
       | none => (d.error pgBASIN 12 0 idx).bankError idx)
    else
      (match d.basin.frames.find? (fun f => (f.cells.map Prod.fst).contains idx) with
       | some f => (d.readFault f (.cell ((f.cells.map Prod.fst).takeWhile (fun c => c != idx)).length)).1
       | none => (d.error pgBASIN 12 0 idx).bankError idx)
  | _, _ => d

/-- The readback of WIN_CMD in a bank; a command performed stands there from the next Notch on (00 R20). -/
def WinBank.answer (b : WinBank) (code st : Nat) : WinBank :=
  { b with code := code, status := st, lastObject := b.object, lastIndex := b.index
           ran := if st = wsDone ∨ st = wsMemErr then some ((code, st), (b.object, b.index)) else b.ran }

/-- A bank after a WRITE that was performed: no word is dirty, and the staged copy has the words written (R598). -/
def WinBank.written (b : WinBank) (st : Nat) : WinBank :=
  { (b.answer 2 st) with
    dirty := 0, staged := b.staged.zipIdx.map (fun x => if b.dirty.testBit x.2 then nth b.data x.2 0 else x.1) }

/-- The words of an object in HBM that a READ corrected are counted (07 R274; 15 R507). -/
def Dev.countFixed (d : Dev) (o : WinObj) (fixed : List Nat) : Dev :=
  match o.place with
  | some (sp, idx) =>
    let ws := (fixed.filter (fun w => decide (w < o.len / 8))).eraseDups
    let d1 := if sp != .SA && inHbmSpace sp then d.count R.TABLE_ECC_CORR ws.length else d
    d1.each ws (fun d w => d.objectCorrected ⟨sp, idx, w⟩)
  | none => d

/-- A READ of an object. -/
def Dev.readObject (d0 : Dev) (p : Path) (page : Nat) (i : PageInfo) (o : WinObj) (m : ReadMem) : Dev :=
  let d := d0.countFixed o m.corrected
  let b := d.winBank p page
  let met := d.badWords o b.object i m.bad
  let ws := (o.at d.start).zipIdx.map (fun x => if met.contains x.2 then Config.freeValue (d.fresh + x.2) else x.1)
  let d1 : Dev := { d with fresh := d.fresh + 256 }
  let d2 := if met = [] then d1 else d1.noteBad o b.object b.index i met
  let d3 := match o.place with
    | some (sp, idx) =>
      if d2.mayClear p page then d2.each (List.range (o.len / 8)) (fun d w => d.clearWord ⟨sp, idx, w⟩) else d2
    | none => d2
  d3.setWin p page { (b.answer 1 (if met = [] then wsDone else wsMemErr)) with
    data := ws ++ List.replicate (32 - ws.length) 0, staged := ws, dirty := 0, len := o.len, err := met != []
    notch := d.dial.notch, read := some (b.object, b.index) }

/-- A READ of a slice of an instance page: 32 register reads of the path (R602). -/
def Dev.readSlice (d : Dev) (p : Path) (page : Nat) : Dev :=
  let b := d.winBank p page
  let r := (List.range 32).foldl (fun (x : List Word × Dev) k =>
    let y := x.2.busRead p (pgINST (b.index / 16)) (256 * (b.index % 16) + 8 * k) true
    (x.1 ++ [y.1], y.2)) ([], d)
  r.2.setWin p page { (b.answer 1 wsDone) with
    data := r.1, staged := r.1, dirty := 0, len := 256, err := false, notch := d.dial.notch
    read := some (b.object, b.index) }

/-- Whether the path has a bank of the page's window and reaches it. -/
def Dev.windowOf (d : Dev) (p : Path) (page : Nat) : Option PageInfo :=
  match pageInfo d.variant page with
  | some i => if i.present && i.window != 0 && pathHasWindow p && d.reaches p page then some i else none
  | none => none

/-- The window of a page refuses every command but a READ in RECOVERY, as other commands (17 R565), and a second command of a
Notch while the first is in progress (00 R20). -/
def Dev.winBusy (d : Dev) (p : Path) (page code : Nat) : Bool :=
  (d.winBank p page).ran.isSome ||
    (code != 1 && d.stage == bsRecovery && page != pgROLE && page != pgHEALTH && page != pgSSTORE)

/-- A window READ command. -/
def Dev.winRead (d0 : Dev) (p : Path) (page : Nat) (m : ReadMem) : Dev :=
  match d0.windowOf p page with
  | none => d0
  | some i =>
    let d := d0.touch p
    let b := d.winBank p page
    if d.winBusy p page 1 then d.setWin p page (b.answer 1 wsBusy)
    else if decide (i.space = some .INSTCTL) && b.object == 1 then
      (if b.index < 65536 then d.readSlice p page else d.setWin p page (b.answer 1 wsBadIndex))
    else
      match d.atStart.winPick i b.object b.index (fun w => Config.freeValue (d.fresh + 32 + w)) with
      | .badObject => d.setWin p page (b.answer 1 wsBadObject)
      | .badIndex => d.setWin p page (b.answer 1 wsBadIndex)
      | .object o => d.readObject p page i o m

/-! ### WRITE (R598) -/

/-- The writable bits of a word of the register space: its RW and RWL fields, the RC fields of an SA record too (12 R442),
of a gate's lists only those of the shadow bank (09 R342), and of a rule only the key words it has (06 R242). -/
def Dev.placeMask (d : Dev) (sp : Space) (idx w : Nat) : Word :=
  if sp = .RULE ∧ ruleReserved (d.regs.ruleWords idx) w then 0 else
  (fieldsOf sp).foldl (fun (m : Word) f =>
    match fldInstance f w with
    | none => m
    | some n =>
      let may : Bool := f.acc == .rw || f.acc == .rwl || (f.acc == .rc && decide (sp = .SA))
      let shadow : Bool :=
        if sp = .GATE ∧ f.stride = 3 then n != d.get R.GATE_W0_ACTIVE idx
        else if sp = .GATEENT then idx / 1024 % 2 != d.get R.GATE_W0_ACTIVE (idx / 2048)
        else true
      if may && shadow then m.withField f.lo f.w (2 ^ f.w - 1) else m) 0

/-- The bits of a quadword of a ticket that a program may change: its fields marked so, but for INSTANCE on ingress 16 and
17 (02 R69). -/
def ticketMask (t : Ticket) (q : Nat) : Word :=
  ticketFields.foldl (fun (m : Word) f => if f.q = q ∧ t.programMay f then m.withField f.lo f.w (2 ^ f.w - 1) else m) 0

/-- The writable bits of a word of an object. -/
def Dev.winMask (d : Dev) (i : PageInfo) (code idx : Nat) (o : WinObj) (w : Nat) : Word :=
  if o.len / 8 ≤ w then 0
  else match o.place with
    | some (sp, k) => d.placeMask sp k w
    | none =>
      match i.space, code with
      | some .GPHYS, 1 => if w = 0 then 0 else BitVec.allOnes 64
      | some .GPHYS, 2 => if w = 0 then 0x3FFFF else 0
      | some .GPHYS, 3 => (d.thread (winThread i.unit idx)).pkt.elim 0 (fun p => ticketMask p.tk w)
      | _, _ => 0

/-- The words of an object as they stand. -/
def Dev.winNow (d : Dev) (o : WinObj) : List Word := o.at d.regs

/-- A field of a record as the words to be written have it. -/
def newField (nw : Nat → Word) (f : Fld) (n : Nat := 0) : Nat := (nw (f.word + f.stride * n)).field f.lo f.w

/-- CIR and PIR that R329 allows; CIR may pass PIR where `any` holds. -/
def ratesOk (any : Bool) (cir pir : Nat) : Bool :=
  decide (cir ≤ 3200000) && decide (pir ≤ 3200000) && (any || decide (cir ≤ pir))

/-- A rule's row is odd in a valid set of 5 to 8 key words (06 R242). -/
def Dev.oddRow (d : Dev) (row : Nat) : Bool :=
  row % 2 == 1 && (List.range 256).any (fun k =>
    d.flag R.CLASSIFY_RULESET_VALID 0 k && decide (4 ≤ d.get R.CLASSIFY_RULESET_KEY_WORDS 0 k) &&
      decide (d.get R.CLASSIFY_RULESET_BASE 0 k ≤ row) &&
      decide (row < d.get R.CLASSIFY_RULESET_BASE 0 k + d.get R.CLASSIFY_RULESET_ROWS 0 k))

/-- A row of a valid rule set. -/
def Dev.inRuleSet (d : Dev) (row : Nat) : Bool :=
  (List.range 256).any (fun k => d.flag R.CLASSIFY_RULESET_VALID 0 k && decide (d.get R.CLASSIFY_RULESET_BASE 0 k ≤ row) &&
    decide (row < d.get R.CLASSIFY_RULESET_BASE 0 k + d.get R.CLASSIFY_RULESET_ROWS 0 k))

/-- The status with which an object's own chapter refuses the words `nw`, if it does; `ws` are the words written. -/
def Dev.winRefusal (d : Dev) (p : Path) (i : PageInfo) (code idx : Nat) (o : WinObj) (ws : List Nat) (nw : Nat → Word) :
    Option Nat :=
  let refuseUnless := fun (b : Bool) => if b then none else some wsRefused
  match o.place with
  | some (.FLOW, _) => refuseUnless (d.flag R.FLOW_W0_VALID idx)
  | some (.ROUTE, _) => refuseUnless (d.flag R.ROUTE_W0_VALID idx)
  | some (.MACENT, _) => refuseUnless (d.flag R.MACENT_W0_VALID idx)
  | some (.RULE, _) => refuseUnless (!d.oddRow idx)
  | some (.LEAF, _) =>
    refuseUnless (newField nw R.LEAF_W0_WEIGHT != 0 && ratesOk false (newField nw R.LEAF_W1_CIR) (newField nw R.LEAF_W1_PIR))
  | some (.NODE, _) =>
    refuseUnless (newField nw R.NODE_W0_WEIGHT != 0 && ratesOk false (newField nw R.NODE_W1_CIR) (newField nw R.NODE_W1_PIR))
  | some (.POLICER, _) =>
    refuseUnless (newField nw R.POLICER_W0_MODE != 3 &&
      ratesOk (newField nw R.POLICER_W0_MODE != 2) (newField nw R.POLICER_W1_CIR) (newField nw R.POLICER_W1_PIR))
  | some (.GATE, _) =>
    let b := 1 - d.get R.GATE_W0_ACTIVE idx
    refuseUnless (!d.flag R.GATE_W0_PENDING idx || ws.all (fun w => !within (3 + 3 * b) (5 + 3 * b) w ||
      nw w == d.word ⟨.GATE, idx, w⟩))
  | some (.GATEENT, _) => refuseUnless (!d.flag R.GATE_W0_PENDING (idx / 2048))
  | some (.SA, _) => refuseUnless (d.saOk idx (nw 0))
  | some (.CONN, _) =>
    refuseUnless (fieldOk d idx R.CONN_W0_MSS 0 (nw 0) && fieldOk d idx R.CONN_W0_BUF_LOG2 0 (nw 0) &&
      fieldOk d idx R.CONN_BUF_BASE 0 (nw 2))
  | some (.SRC, _) =>
    if d.role p = 1 ∧ (!(within 128 175 idx || within 256 511 idx) || newField nw R.SRC_W0_HOST_PF % 2 = 1) then some wsRole
    else none
  | some _ => none
  | none =>
    match i.space with
    | some .GPHYS => if code ≤ 3 then refuseUnless (d.thread (winThread i.unit idx)).halted else none
    | _ => none

/-- A ticket with the quadwords written. -/
def Ticket.setQuads (t : Ticket) (ws : List (Nat × Word)) : Ticket :=
  ws.foldl (fun t x => { q := setNth t.q x.1 x.2 }) t

/-- The words written, each with its writable bits, and what follows from them: shapers turned on start with the bursts in
force and policers that leave OFF with those written (09 R330, R332, R336), a record that was in error is in error no more (06 R242; 07 R276; 15 R511). Fields that are
not writable keep their current values (R598). -/
def Dev.winApply (d : Dev) (i : PageInfo) (code idx : Nat) (o : WinObj) (words : List (Nat × (Word × Word))) : Dev :=
  let merge := fun (now : Word) (x : Word × Word) => (now &&& ~~~x.1) ||| (x.2 &&& x.1)
  let ws := words.map (fun x => (x.1, merge (nth (o.at d.regs) x.1 0) x.2))
  match o.place with
  | some (sp, k) =>
    let d := if sp = .SA then d.recordWritten 18 k else if sp = .CONN then d.recordWritten 19 k else d
    let d1 := d.each words (fun d x => d.putWord ⟨sp, k, x.1⟩ (merge (d.word ⟨sp, k, x.1⟩) x.2))
    match sp with
    | .LEAF =>
      if !d.flag R.LEAF_W0_SH_EN k && d1.flag R.LEAF_W0_SH_EN k then
        let r := (assoc d.sched.leafRates k).getD { }
        (d1.setTokens R.LEAF_TC k (r.cbs * 8000)).setTokens R.LEAF_TP k (r.xbs * 8000)
      else d1
    | .NODE =>
      if !d.flag R.NODE_W0_SH_EN k && d1.flag R.NODE_W0_SH_EN k then
        let r := (assoc d.sched.nodeRates k).getD { }
        (d1.setTokens R.NODE_TC k (r.cbs * 8000)).setTokens R.NODE_TP k (r.xbs * 8000)
      else d1
    | .POLICER =>
      if d.get R.POLICER_W0_MODE k = 0 ∧ d1.get R.POLICER_W0_MODE k ≠ 0 then
        let d2 := (d1.setTokens R.POLICER_T1 k (d1.get R.POLICER_W2_CBS k * 8000)).setTokens R.POLICER_T2 k
          (d1.get R.POLICER_W2_XBS k * 8000)
        { d2 with sched := { d2.sched with policerRates := assocSet d2.sched.policerRates k (d2.policerSettings k) } }
      else d1
    | .RULE =>
      let two := decide (4 < d.regs.ruleWords k) && d.inRuleSet k
      (d1.put R.RULE_PARITY_ERR 0 k).mend (fun x => decide (x.sp = .RULE) && (x.idx == k || (two && x.idx == k + 1)))
    | .SA => { d1 with units := { d1.units with badSa := d1.units.badSa.filter (fun x => x != k) } }
    | .CONN => { d1 with units := { d1.units with badConn := d1.units.badConn.filter (fun x => x != k) } }
    | _ => d1.mend (fun x => decide (x.sp = sp) && x.idx == k && (ws.map Prod.fst).contains x.word)
  | none =>
    let id := winThread i.unit idx
    match i.space, code with
    | some .GPHYS, 1 => d.modThread id (fun t => t.setRegs ws)
    | some .GPHYS, 2 =>
      d.modThread id (fun t => match assoc ws 0 with | some w => { t with pc := w.field 0 18 } | none => t)
    | some .GPHYS, 3 =>
      d.modThread id (fun t => { t with pkt := t.pkt.map (fun q => { q with tk := q.tk.setQuads ws }) })
    | _, _ => d

/-- A WRITE of a slice of an instance page takes effect: register writes of the path, in word order, under the session with which
the WRITE was served (R602; 16 R554). -/
def Dev.serveSlice (d : Dev) (x : WinWrite) : Dev :=
  let kept := d.roles.sessions
  let d1 : Dev := { d with roles := { d.roles with
    sessions := kept.filter (fun s => s.bank != x.path.bank) ++ x.session.toList } }
  let d2 := d1.each x.words (fun d w => d.regWrite x.path (pgINST (x.index / 16)) (256 * (x.index % 16) + 8 * w.1) true w.2.2)
  { d2 with roles := { d2.roles with sessions := kept } }

/-- A window WRITE takes effect (R599). -/
def Dev.serveWindowed (d : Dev) (x : WinWrite) : Dev :=
  if x.page = pgINSTCTL then d.serveSlice x
  else match pageInfo d.variant x.page with
  | some i =>
    (match d.winPick i x.object x.index (fun _ => 0) with
     | .object o => d.winApply i x.object x.index o x.words
     | _ => d)
  | none => d

/-- The words of an object as the WRITEs of it served before in the Notch leave them. -/
def Dev.winAhead (d : Dev) (page : Nat) (i : PageInfo) (code idx : Nat) (o : WinObj) : List Word :=
  let d1 := d.each (d.acc.windowed.filter (fun x => x.page == page && x.object == code && x.index == idx)) Dev.serveWindowed
  match d1.winPick i code idx (fun _ => 0) with
  | .object o1 => d1.winNow o1
  | _ => d.winNow o

/-- A WRITE of an object that the bank has read: it takes effect at the end of the Notch, after every direct register write
of it (R598, R599). Its records are made as it is served, over what the WRITEs before it leave (16 R534; notes/assumptions/112). -/
def Dev.writeObject (d : Dev) (p : Path) (page : Nat) (i : PageInfo) (o : WinObj) : Dev :=
  let b := d.winBank p page
  let off := i.window + 8
  let dirty := (List.range 32).filter (fun w => b.dirty.testBit w)
  let data := fun w => nth b.data w 0
  let staged := fun w => nth b.staged w 0
  let mask := d.winMask i b.object b.index o
  let now := d.winAhead page i b.object b.index o
  let nw := fun w => (nth now w 0 &&& ~~~(mask w)) ||| (data w &&& mask w)
  let answer := fun (d : Dev) (st : Nat) => d.setWin p page (b.answer 2 st)
  let done := fun (d : Dev) => d.setWin p page (b.written wsDone)
  if !rolePasses (d.role p) i.role then answer (d.roleError p page off) wsRole
  else if dirty.all (fun w => data w == staged w) then done d
  else if dirty.any (fun w => (data w ^^^ staged w) &&& ~~~(mask w) != 0) then answer (d.configError page off) wsBadField
  else
    let ws := dirty.filter (fun w => decide (w < o.len / 8))
    let full := fun w => if ws.contains w then nw w else nth now w 0
    match d.winRefusal p i b.object b.index o ws full with
    | some st => if st = wsRole then answer (d.roleError p page off) st else answer (d.configError page off) st
    | none =>
      let changed := ws.filter (fun w => nw w != nth now w 0)
      if d.journals p i.audit && decide (1024 < d.roles.buffer.length + changed.length) then answer d.journalRefuse wsBusy
      else
        let late : WinWrite := ⟨p, d.session p.bank, page, b.object, b.index, ws.map (fun w => (w, (mask w, data w)))⟩
        let d1 : Dev := { d with acc := { d.acc with windowed := d.acc.windowed ++ [late] } }
        done (if d.journals p i.audit then
          d1.each changed (fun d w => d.journal p 2 page w (nth now w 0) (nw w) b.index) else d1)

/-- A WRITE of a slice of an instance page: its dirty words are written at the end of the Notch, after every direct register write
of it (R599, R602, R605; DESIGN CHOICE, notes/assumptions/150). -/
def Dev.writeSlice (d : Dev) (p : Path) (page : Nat) : Dev :=
  let b := d.winBank p page
  let dirty := (List.range 32).filter (fun w => b.dirty.testBit w)
  let late : WinWrite :=
    ⟨p, d.session p.bank, page, b.object, b.index, dirty.map (fun w => (w, (BitVec.allOnes 64, nth b.data w 0)))⟩
  ({ d with acc := { d.acc with windowed := d.acc.windowed ++ [late] } } : Dev).setWin p page (b.written wsDone)

/-- A selection that names a scheduler object of an absent egress: its write is a configuration error (09 R348). -/
def Dev.absentEgress (d : Dev) (i : PageInfo) (code idx : Nat) : Bool :=
  decide (i.space = some .SCHED) && ((code == 3 && idx < 160 || code == 5 && idx < 128) && !d.egressPresent (idx / 8) ||
    code == 6 && idx < 262144 && !d.egressPresent (idx / 16384))

/-- A window WRITE command: discarded in Safe Hold but on the EVT page (R600), and a role violation of a path that carries no
role, whatever status it reads (R589; 16 R522). A slice is written without a READ of it before (R602). -/
def Dev.winWrite (d0 : Dev) (p : Path) (page : Nat) : Dev :=
  match d0.windowOf p page with
  | none => d0
  | some i =>
    let d := d0.touch p
    let b := d.winBank p page
    let off := i.window + 8
    let slice : Bool := decide (i.space = some .INSTCTL) && b.object == 1
    let answer := fun (d : Dev) (st : Nat) => d.setWin p page (b.answer 2 st)
    let noRole := fun (d : Dev) => if d.role p = 0 then d.roleError p page off else d
    if d.held && page != pgEVT then d
    else if d.winBusy p page 2 then answer (noRole d) wsBusy
    else if slice then
      (if d.role p = 0 then answer (noRole d) wsRole
       else if 65536 ≤ b.index then answer d wsBadIndex else d.writeSlice p page)
    else if b.read ≠ some (b.object, b.index) then
      answer (if d.absentEgress i b.object b.index then (noRole d).configError page off else noRole d) wsNoRead
    else
      match d.winPick i b.object b.index (fun _ => 0) with
      | .badObject => answer (noRole d) wsBadObject
      | .badIndex => answer (noRole d) wsBadIndex
      | .object o => d.writeObject p page i o

/-- READ (R597): a window READ copies an object into the aperture; `m` names the words of it that the READ finds
uncorrectable, or corrects. -/
def execRead (path : Path) (page : Nat) (m : ReadMem) (s : State) : Host.Outcome State Fault Refusal :=
  s.act (fun d => d.winRead path page m)

/-- WRITE (R598): a window WRITE writes the dirty words back to the object. -/
def execWrite (path : Path) (page : Nat) (s : State) : Host.Outcome State Fault Refusal :=
  s.act (fun d => d.winWrite path page)

/-! ### Register writes -/

/-- A write of WIN_CMD: READ, WRITE, or a code that is no command. CODE 0 is discarded as on every command field (R591; 00
R629), and of these only a READ is taken from a path that carries no role (R589, R594). -/
def Dev.winCommand (d : Dev) (p : Path) (page : Nat) (w : Word) : Dev :=
  match w.field 0 4 with
  | 1 => d.winRead p page { }
  | 2 => d.winWrite p page
  | c =>
    match d.windowOf p page with
    | some i =>
      if d.held && page != pgEVT then d
      else if d.role p = 0 then d.roleError p page (i.window + 8)
      else if c = 0 then d.configError page (i.window + 8)
      else d.setWin p page ((d.winBank p page).answer c (if d.winBusy p page c then wsBusy else wsInvalid))
    | none => d

/-- A register write of a path, WIN_CMD included. -/
def Dev.accessWrite (d : Dev) (p : Path) (page off : Nat) (wide : Bool) (data : Word) : Dev :=
  let word := off % 4096 / 8
  match pageInfo d.variant page with
  | some i =>
    if i.window != 0 && word == i.window / 8 + 1 then
      (if wide then d.winCommand p page data else d.halves p page off data (fun d w => d.winCommand p page w))
    else d.regWrite p page off wide data
  | none => d

/-- A store of control firmware to register pages, served as 64-bit writes, and 32-bit ones where it covers half a word
(14 R476). -/
def Dev.serveStore (d : Dev) (x : PageStore) : Dev :=
  let first := x.addr / 8
  let at_ := fun (a n : Nat) => BitVec.ofNat 64 (leNat ((x.bytes.drop (a - x.addr)).take n))
  let covers := fun (a n : Nat) => decide (x.addr ≤ a) && decide (a + n ≤ x.addr + x.bytes.length)
  d.each ((List.range (x.bytes.length / 8 + 2)).map (fun k => 8 * (first + k))) (fun d a =>
    let w := fun (d : Dev) (a : Nat) (wide : Bool) (v : Word) => d.accessWrite .firmware (a / 4096) (a % 4096) wide v
    if covers a 8 then w d a true (at_ a 8)
    else if covers a 4 then w d a false (at_ a 4)
    else if covers (a + 4) 4 then w d (a + 4) false (at_ (a + 4) 4)
    else d)

/-- What acts at the end of a Notch after the register writes served in it: stores of control firmware, then window WRITEs
(01 R51; 14 R476; 18 R599; DESIGN CHOICE, notes/assumptions/150). -/
def Dev.lateWrites (d : Dev) : Dev :=
  let d1 := ({ d with acc := { d.acc with stores := [] } } : Dev).each d.acc.stores Dev.serveStore
  ({ d1 with acc := { d1.acc with windowed := [] } } : Dev).each d1.acc.windowed Dev.serveWindowed

/-- The readbacks of the commands accepted in the Notch that ends, in place of those refused after them (00 R20). -/
def Dev.showRan (d : Dev) : Dev :=
  let d1 := d.each d.acc.ran (fun d x => d.putWord x.1 x.2)
  { d1 with acc := { d1.acc with ran := [], wins := d1.acc.wins.map (fun x => (x.1, x.2.settled)) } }

/-- REGISTER_WRITE (18 R588): a register write is served. A tenant's VF reaches its own instance page, and through its
BAR0 its MSI-X table, whatever page it names (10 R356). -/
def execRegisterWrite (path : Path) (page off : Nat) (wide : Bool) (data : Word) (s : State) :
    Host.Outcome State Fault Refusal :=
  s.act (fun d => if !d.barOpen path then d.emit (.unsupported path) else
    match path with
    | .vf i => if 0x1000 ≤ off then d.vfBarWrite i off wide data else d.regWrite path (pgINST i) off wide data
    | _ => (d.touch path).accessWrite path page off wide data)

end Sys2Proof.Machine
end

