-- ==== Sys2Proof/Machine/Management.lean ====
section
/-! DEFINITION. Attestation reports and management messages over MCTP (spec/16_roles_store.md R546 to R555; 15 R517;
19 R625). -/

namespace Sys2Proof.Machine

/-! ### Attestation (R546 to R548, R553, R557) -/

/-- The slots of the key store, in order of index. -/
def keyStoreSlots : List (Nat × Nat) :=
  [1, 2, 3].flatMap (fun c => (List.range (classSlots c)).map (fun n => (c, n)))

/-- A measurement: the first 32 bytes of SHAKE256. -/
def digest32 (b : List Byte) : List Byte := (shake256 b 32 ++ List.replicate 32 0).take 32

/-- Bytes 0x000 to 0x187 of the report (R553). -/
def Dev.reportBody (d : Dev) (nonce : List Byte) : List Byte :=
  let fw := d.get R.SSTORE_FW_ACTIVE
  let set := d.get R.SSTORE_SET_ACTIVE
  leBytes 4 0x5241584B ++ leBytes 2 1 ++ leBytes 2 5997 ++ (nonce ++ List.replicate 32 0).take 32 ++
    leBytes 8 (identWord d.variant).toNat ++ leBytes 8 (capWord d.variant).toNat ++ d.serialBytes ++
    leBytes 8 d.dial.notch ++ leBytes 6 d.dial.sec ++ leBytes 4 d.dial.ns ++
    [BitVec.ofNat 8 (d.get R.DIAL_STATUS_STATE), BitVec.ofNat 8 fw] ++ leBytes 2 (d.get R.HEALTH_REPLACE_REASONS) ++
    [BitVec.ofNat 8 (d.get R.HEALTH_STATUS_SAFE_HOLD), 0] ++
    digest32 (objSigned (d.fwSlot fw)) ++ leBytes 8 (d.get R.SSTORE_FW_GEN 0 fw) ++
    leBytes 8 (if d.setValid set then d.get R.SSTORE_SET_GEN 0 set else 0) ++ digest32 (objSigned (d.setSlot set)) ++
    digest32 (keyStoreSlots.flatMap (fun x => d.keyRecord x.1 x.2)) ++
    (List.range 16).flatMap (fun k =>
      leBytes 4 (if k < d.variant.glensActive then d.get R.GSLOT_PROG_CRC_CUR k else 0)) ++
    leBytes 8 (d.get R.ROLE_JOURNAL_SEQ - 1) ++ (d.chainBefore ++ List.replicate 32 0).take 32 ++ leBytes 8 0 ++
    (XmssSeeds.ofBytes d.secretSeeds).publicKey ++ leBytes 4 0

/-- A leaf reserved, where none is left: none where the reservation record is made on neither device (R547). -/
def Dev.reserveLeaf (d : Dev) (w : StoreWrite) : Dev × Bool :=
  if d.get R.ROLE_ATTEST_LEAF_NEXT ≠ d.get R.ROLE_ATTEST_RES_END then (d, true)
  else
    let e := d.get R.ROLE_ATTEST_RES_END + 256
    let r := d.storeWrite w offSigning (fun c => c.reserve (reservation e))
    if r.2 then (r.1.put R.ROLE_ATTEST_RES_END e, true) else (r.1, false)

/-- GET_REPORT (R546, R547, R553): the report, or the status that refuses it. -/
def Dev.report (d : Dev) (nonce : List Byte) (w : StoreWrite) : Dev × (Nat × List Byte) :=
  let leaf := d.get R.ROLE_ATTEST_LEAF_NEXT
  if 2 ^ 40 ≤ leaf then (d, (ssExhausted, []))
  else
    let r := d.reserveLeaf w
    if !r.2 then (r.1, (ssStore, []))
    else
      let body := r.1.reportBody nonce
      (r.1.put R.ROLE_ATTEST_LEAF_NEXT (leaf + 1),
        (ssDone, body ++ (XmssSeeds.ofBytes d.secretSeeds).sign leaf body))

/-! ### Requests over MCTP (R549 to R551; 17 R565, R574) -/

/-- A response: type, vendor, CODE with bit 7 set, TAG, STATUS, and the payload. -/
def mctpResponse (code tag st : Nat) (payload : List Byte) : List Byte :=
  [0x7E, Config.vendorId 0, Config.vendorId 1, BitVec.ofNat 8 (code + 128), BitVec.ofNat 8 tag, BitVec.ofNat 8 st, 0, 0] ++
    payload

/-- The role errors recorded in the running Notch. -/
def Dev.roleErrors (d : Dev) : Nat := (d.errs.now.filter (fun e => e.cls == 2)).length

/-- A sensor's reading (19 R625): in tenths, hundredths or units, as its resolution has it. -/
def Dev.sensor (d : Dev) (id : Nat) (measured : Int) : Option Int :=
  match id with
  | 1 => some (d.health.temps.head?.getD measured)
  | 2 => some measured
  | 3 => some measured
  | 4 => some measured
  | 5 => some measured
  | 6 => some (d.get R.HEALTH_STATUS_POWER_W)
  | 7 => some ((List.range 12).filter (fun p => !(d.get R.HEALTH_PHASES_FAILED_MAP).testBit p)).length
  | _ => none

/-- A request served: the device after it, and the message that answers it. -/
def Dev.serveMctp (d0 : Dev) (bus : MctpBus) (tag : Nat) (q : MctpReq) : Dev × List Byte :=
  let path : Path := .mctp bus
  let d := d0.touch path
  let session : Bool := (d.session path.bank).isSome
  let recovery : Bool := d.stage == bsRecovery
  let say := fun (d : Dev) (code st : Nat) (p : List Byte) => (d, mctpResponse code tag st p)
  match q with
  | .getIdentity => if recovery then say d 0x01 ssBusy [] else say d 0x01 ssDone d.store.identity
  | .getReport nonce w =>
    if recovery then say d 0x02 ssBusy []
    else
      let r := d.report nonce w
      say r.1 0x02 r.2.1 r.2.2
  | .getChallenge role slot =>
    if role = 0 ∨ 3 < role then say d 0x10 ssBadArg []
    else if recovery ∧ role = 1 then say d 0x10 ssBusy []
    else
      let r := d.ifRoom (d.challenge path role slot)
      say r.1 0x10 r.2 (if r.2 = ssDone then leBytes 8 (r.1.word ⟨.ROLE, 4, 14⟩).toNat ++
        (List.range 4).flatMap (fun k => leBytes 8 (r.1.word ⟨.ROLE, 4, 10 + k⟩).toNat) else [])
  | .openSession sig =>
    let r := d.ifRoom (d.openSession path (some sig))
    say r.1 0x11 r.2 []
  | .close =>
    let r := d.closeSession path
    say r.1 0x12 r.2 []
  | .regRead page off =>
    if !session then say d 0x13 ssNoSession []
    else
      let r := d.busRead path page off true
      say r.2 0x13 ssDone (leBytes 8 r.1.toNat)
  | .regWrite page off data =>
    if !session then say d 0x14 ssNoSession []
    else
      let d1 := d.accessWrite path page off true data
      say d1 0x14 (if d.roleErrors < d1.roleErrors then ssRole else ssDone) []
  | .stageChunk off bytes =>
    if !session then say d 0x15 ssNoSession []
    else if bytes = [] ∨ 1024 < bytes.length ∨ stagingSize < off + bytes.length then say d 0x15 ssBadArg []
    else say { d with roles := { d.roles with staging := d.roles.staging.setBytes off bytes } } 0x15 ssDone []
  | .firmware image w =>
    if d.role path < 2 then (d, [BitVec.ofNat 8 ssNoSession])
    else if d.journalFull then (d.journalRefuse, [BitVec.ofNat 8 ssBusy])
    else if d.installNow (fun _ => true) then (d, [BitVec.ofNat 8 ssBusy])
    else
      let r := d.install path 1 image w
      (r.1, [BitVec.ofNat 8 r.2])
  | .sensor id m =>
    match d.sensor id m with
    | some v => (d, [BitVec.ofNat 8 id] ++ leBytes 4 (unsigned 32 v))
    | none => (d, [])
  | .setReceiver eid => ({ d with health := { d.health with receiver := some (bus, eid) } }, [])
  | .pollEvent =>
    match d.health.events with
    | [] => (d, [])
    | e :: rest => ({ d with health := { d.health with events := rest } }, e)

/-- The bytes of a request of the Velarmund type: eight, then its payload (R549, R550). -/
def mctpSize : MctpReq → Nat
  | .getReport nonce _ => 8 + nonce.length
  | .openSession sig => 8 + sig.length
  | .stageChunk _ bytes => 12 + bytes.length
  | _ => 20

/-- A request answered, or held while a firmware swap runs (17 R574); before anything serves MCTP, and where it is longer than
the device assembles, it is lost (R549). -/
def Dev.mctp (d : Dev) (bus : MctpBus) (tag : Nat) (q : MctpReq) : Dev :=
  if !d.barOpen (.mctp bus) || decide (8192 < mctpSize q) then d
  else
  let d := d.arrives (mctpSource bus)
  if d.stage == bsSwapping then { d with roles := { d.roles with held := d.roles.held ++ [(bus, (tag, q))] } }
  else
    let r := d.serveMctp bus tag q
    r.1.mctpEmit bus (.message (.mctp bus) r.2)

/-- The held requests answered, oldest first. -/
def Dev.serveHeld (d : Dev) : Dev :=
  ({ d with roles := { d.roles with held := [] } }).each d.roles.held (fun d x => d.mctp x.1 x.2.1 x.2.2)

/-- A command that a path may also give by a message: over an installer PF it is written to ROLE.SESS_CMD, where through an
operator PF the write is discarded. -/
def Dev.bySession (d : Dev) (path : Path) (tag code role slot : Nat) (q : MctpReq) (f : Dev → Dev × Nat) : Dev :=
  match path with
  | .mctp bus => d.mctp bus tag q
  | .installer _ => d.sessCommand path code role slot f
  | _ => d

/-- GET_CHALLENGE (R530, R555): a nonce and a counter for a role and a slot. -/
def execGetChallenge (path : Path) (tag role slot : Nat) (s : State) : Host.Outcome State Fault Refusal :=
  s.act (fun d => d.bySession path tag 1 (role % 4) (slot % 16) (.getChallenge role slot)
    (fun d => d.askChallenge path (role % 4) (slot % 16)))
/-- OPEN (R531): `sig` is the signature, none where its read through the installer PF failed. -/
def execOpen (path : Path) (tag : Nat) (sig : Option (List Byte)) (s : State) : Host.Outcome State Fault Refusal :=
  s.act (fun d => d.bySession path tag 2 0 0 (.openSession (sig.getD [])) (fun d => d.openSession path (d.openSource path sig)))
/-- CLOSE (R533): the session of the path is closed. -/
def execClose (path : Path) (tag : Nat) (s : State) : Host.Outcome State Fault Refusal :=
  s.act (fun d => d.bySession path tag 3 0 0 .close (fun d => d.closeSession path))
/-- GET_IDENTITY (R550): the endorsement object is returned. -/
def execGetIdentity (bus : MctpBus) (tag : Nat) (s : State) : Host.Outcome State Fault Refusal :=
  s.act (fun d => d.mctp bus tag .getIdentity)
/-- GET_REPORT (R550, R553): a signed attestation report. -/
def execGetReport (bus : MctpBus) (tag : Nat) (nonce : List Byte) (write : StoreWrite) (s : State) :
    Host.Outcome State Fault Refusal :=
  s.act (fun d => d.mctp bus tag (.getReport nonce write))
/-- REG_READ (R551). -/
def execRegRead (bus : MctpBus) (tag page off : Nat) (s : State) : Host.Outcome State Fault Refusal :=
  s.act (fun d => d.mctp bus tag (.regRead page off))
/-- REG_WRITE (R551): a register write of the session's role. -/
def execRegWrite (bus : MctpBus) (tag page off : Nat) (data : Word) (s : State) : Host.Outcome State Fault Refusal :=
  s.act (fun d => d.mctp bus tag (.regWrite page off data))
/-- STAGE_CHUNK (R551): bytes are written into the MCTP staging area. -/
def execStageChunk (bus : MctpBus) (tag off : Nat) (bytes : List Byte) (s : State) : Host.Outcome State Fault Refusal :=
  s.act (fun d => d.mctp bus tag (.stageChunk off bytes))
/-- PLDM_FIRMWARE_UPDATE (R545): a TYPE 1 object is installed while an installer session is open on MCTP. -/
def execPldmFirmwareUpdate (bus : MctpBus) (image : List Byte) (write0 write1 : DeviceWrite) (s : State) :
    Host.Outcome State Fault Refusal :=
  s.act (fun d => d.mctp bus 0 (.firmware image (.both write0 write1)))
/-- GET_SENSOR_READING (19 R625): `measured` is what sensors 2 to 5 measure. -/
def execGetSensorReading (bus : MctpBus) (id : Nat) (measured : Int) (s : State) : Host.Outcome State Fault Refusal :=
  s.act (fun d => d.mctp bus 0 (.sensor id measured))
/-- SET_EVENT_RECEIVER (15 R517). -/
def execSetEventReceiver (bus : MctpBus) (eid : Nat) (s : State) : Host.Outcome State Fault Refusal :=
  s.act (fun d => d.mctp bus 0 (.setReceiver eid))
/-- POLL_FOR_PLATFORM_EVENT (15 R517): the oldest held event is returned. -/
def execPollForPlatformEvent (bus : MctpBus) (s : State) : Host.Outcome State Fault Refusal :=
  s.act (fun d => d.mctp bus 0 .pollEvent)

/-- ENDPOINT_ID_ASSIGNED (R533; 18 R595): the device takes a new MCTP endpoint ID; the MCTP session ends. -/
def execEndpointIdAssigned (s : State) : Host.Outcome State Fault Refusal :=
  s.act (fun d => ((d.endSession 4).dropChallenge 4).resetBanks 4)

end Sys2Proof.Machine
end

