-- ==== Sys2Proof/Machine/Restart.lean ====
section
/-! DEFINITION. The end of a restart of the control firmware: the new firmware reports itself running
(spec/17_startup_update.md R571 to R574). -/

namespace Sys2Proof.Machine

/-- The trial of a swap opens (R571 step 3, R572). -/
def Dev.openTrial (d : Dev) : Dev :=
  let lim := d.get R.BOOT_TRIAL_LIMIT_S
  let d1 := ((d.put R.BOOT_STATUS_FW_TRIAL 1).put R.BOOT_TRIAL_LEFT_S lim).raiseBit R.BOOT_EVENTS 1
  { d1 with boot := { d1.boot with trialEnd := some (d.dial.sec + lim, d.dial.ns) } }

/-- Steps 1 to 3 of a restart end: STAGE reads what it read before, the watchdog counts afresh, the command that asked for
it ends, and the held MCTP requests are answered (R571 to R574). -/
def Dev.endSwap (d : Dev) (x : FwSwap) : Dev :=
  let d1 : Dev := { d.put R.BOOT_STATUS_STAGE x.stage with
    boot := { d.boot with swap := none, wdogFrom := d.dial.notch } }
  let failed : Bool := !x.trial && decide (((assoc d1.cmds bootKey).getD 0).field 0 4 = 1)
  let d2 := if x.command then d1.cmdFinish R.BOOT_CMD_STATUS (if failed then 7 else 0) else d1
  (if x.trial then d2.openTrial else d2).serveHeld

/-- The new firmware has reported itself in time: within 1,562,500 Notches of step 2, which is at the latest 312,500 after
step 1 (R571). A revert has no bound. -/
def Dev.swapTimely (d : Dev) (x : FwSwap) : Bool :=
  !x.trial || decide (d.dial.notch < x.stopped.getD (x.since + 312500) + 1562500)

/-- FW_RUNNING (R571): the new firmware accepts the handover and reports itself running, or refuses it. Where it comes
before the bound of step 1, the handover state was written in time and step 2 has taken place. -/
def execFwRunning (accepts : Bool) (s : State) : Host.Outcome State Fault Refusal :=
  s.act (fun d =>
    match d.boot.swap with
    | none => d
    | some x =>
      if !accepts then (if x.trial then d.failSwap x else d)
      else if d.swapTimely x then
        let d1 := if x.stopped.isNone then d.loadFirmware else d
        d1.endSwap x
      else d)

end Sys2Proof.Machine
end

