-- ==== Sys2Proof/Machine/Start.lean ====
section
/-! DEFINITION. Device-wide resets and the stages of a start (spec/17_startup_update.md R559 to R569; 16 R536, R538, R539,
R543, R548; 15 R505, R514; 19 R608, R610). -/

namespace Sys2Proof.Machine

/-! ### Device-wide resets (R559, R560) -/

/-- The power class that straps PCLASS1 and PCLASS0 give a variant, in watts (19 R610). -/
def powerClass (v : Variant) (strap : Nat) : Nat := v.powerMax * nth [55, 70, 85, 100] (strap % 4) 100 / 100

/-- A device-wide reset with a cause, and the POWER stage: the device as ROM finds it in Notch 0 (R559 to R561). What is kept:
the serial store with the journal in it, the fuses, the wake detector's settings and WAKE# after a wake match, the strap, and
the levels of the PERST# pins. -/
def Dev.restart (d0 : Dev) (cause strap : Nat) : Dev :=
  let d1 := d0.outputsOff
  let d := if cause = 1 then d1 else d1.releaseWake
  let n : Dev := { variant := d.variant, out := d.out, fresh := d.fresh, store := d.storeKept
                   wake := { d.wake with standby := false, leaving := none, serviceAt := none }
                   host := { links := d.host.links.map (fun (x : Nat × HostLink) => (x.1, { perst := x.2.perst })) }
                   boot := { strap := strap % 4 } }
  let n1 := ((n.put R.BOOT_STATUS_CAUSE cause).put R.HEALTH_STATUS_POWER_W (powerClass d.variant strap)).put R.SSTORE_FW_FLOOR
    n.store.floor
  let n2 := if d.variant.hasHostB then n1
    else ((n1.put R.HEALTH_HBM_VISIBLE 0 0 1).put R.HOST_LINK_CFG_VF_TOTAL 4096).put R.HOST_LINK_CFG_VF_TOTAL_NOW 4096
  let n3 := n2.each [0, 1] (fun n k => (n.put R.HEALTH_SSTORE_WEAR (d.get R.HEALTH_SSTORE_WEAR 0 k) 0 k).put
    R.HEALTH_SSTORE_PE_FAIL (d.get R.HEALTH_SSTORE_PE_FAIL 0 k) 0 k)
  { n3 with start := n3.regs, out := n3.out ++ [.pin "SS0_RESET#" false, .pin "SS1_RESET#" false] }

/-- SS_RESET# released 20 µs after the start of ROM (19 R617). -/
def Dev.storeReady (d : Dev) : Dev :=
  if d.boot.storeReset && decide (313 ≤ d.dial.notch) then
    (({ d with boot := { d.boot with storeReset := false } }).emit (.pin "SS0_RESET#" true)).emit (.pin "SS1_RESET#" true)
  else d

/-- POWER_ON (R559; 19 R608, R610): VIN has been within its range for 2 ms, and the POWER stage completes. -/
def execPowerOn (strap : Nat) (s : State) : Host.Outcome State Fault Refusal :=
  s.always (fun d => if d.boot.off && !d.boot.tripped then d.restart 0 strap else d)

/-- UNDERVOLTAGE (19 R608; 17 R578): VIN below 5.40 V for 10 µs removes every internal rail, the wake detector's too. -/
def execUndervoltage (s : State) : Host.Outcome State Fault Refusal :=
  s.always (fun d =>
    let d0 := if d.awake then d.tornInstall.tornPhase else d
    let d1 := d0.outputsOff.releaseWake
    { d1 with
      wake := { }
      boot := { d1.boot with off := true, tripped := false } })

/-! ### ROM (R561, R564) -/

/-- What SFDP must report (16 R539). -/
def sfdpOk (s : Sfdp) : Bool := decide (512 ≤ s.mbit) && s.sector == 65536 && s.page == 256

/-- The fastest transfer mode that SFDP reports: 0 for 1S-1S-1S, 1 for 1S-8D-8D, 2 for 8D-8D-8D (19 R617). -/
def sfdpMode (s : Sfdp) : Nat := if s.octal8D8D8D then 2 else if s.octal1S8D8D then 1 else 0

/-- A region is taken from device 1: SSTORE.EVENTS.FALLBACK (R564). -/
def Dev.noteCopy (d : Dev) (c : RegionCopy) : Dev := if c = .second then d.raiseBit R.SSTORE_EVENTS 3 else d

/-- SSTORE.DEV as the ROM finds the devices, the wear of each, and the mode used with it. -/
def Dev.showDevices (d : Dev) (r : RomReads) : Dev :=
  let one := fun (d : Dev) (k : Nat) (p : Bool) (s : Sfdp) =>
    (((d.put R.SSTORE_DEV_PRESENT (bit p) 0 k).put R.SSTORE_DEV_SFDP_OK (bit (p && sfdpOk s)) 0 k).put R.SSTORE_DEV_MIB
      (if p then s.mbit / 8 else 0) 0 k).put R.HEALTH_SSTORE_WEAR (saturate 8 (d.storeCopy k).wear) 0 k
  let d1 := one (one d 0 r.present.1 r.sfdp.1) 1 r.present.2 r.sfdp.2
  { d1 with boot := { d1.boot with storeMode := (sfdpMode r.sfdp.1, sfdpMode r.sfdp.2) } }

/-- Whether a maker key meets its fuses: the hash of its slot, and no blown revocation fuse (16 R527). -/
def Dev.makerFused (d : Dev) (n : Nat) : Bool :=
  shake256 (d.keySlot 3 n).key 32 == nth d.store.makerHash n [] && !d.store.blown.testBit n

/-- The key store read: without a copy no operator and no installer key is left, and a maker key that fails R527 is
REVOKED (R564). -/
def Dev.readKeys (d0 : Dev) (r : RegionCopy) : Dev :=
  let c := d0.choose r (fun _ => true)
  let d := d0.noteCopy c
  let held := (d.chosen c).keys
  let d1 : Dev := { d with store := { d.store with
    keys := if c = .neither then held.filter (fun x => decide (24 ≤ x.1)) else held } }
  d1.each (List.range 4) (fun d n =>
    if d.keyActive 3 n && !d.makerFused n then d.setKey 3 n { d.keySlot 3 n with state := 2 } else d)

/-- The identity region read: without an object that checks, host links train on nominal calibration (R564). -/
def Dev.readIdentity (d0 : Dev) (r : RegionCopy) : Dev :=
  let c := d0.choose r (fun x => d0.objectChecks 3 x.identity)
  let d := d0.noteCopy c
  { d with
    boot := { d.boot with nominal := c == .neither }
    store := { d.store with identity := (d.chosen c).identity, seeds := (d.chosen c).seeds } }

/-- The health record read: the reasons are set again, LAST_SAFE and the failed converter phases shown (R564; 15 R505,
R512, R514). -/
def Dev.readHealth (d0 : Dev) (r : RegionCopy) : Dev :=
  let c := d0.choose r (fun _ => true)
  let d := d0.noteCopy c
  let s := if c = .neither then { d.store with reasons := 0, lastSafe := [], committed := 0, phases := 0 } else d.store
  let d1 : Dev := { d with store := s }
  let failed := ((List.range 12).filter (fun p => s.phases.testBit p)).length
  let d2 := (((d1.put R.HEALTH_PHASES_FAILED_MAP s.phases).less R.HEALTH_STATUS_POWER_W (failed * (d.variant.powerMax / 12))).put
    R.HEALTH_LAST_SAFE (s.lastSafe.head?.getD 0).toNat).put R.BOOT_STATUS_COMMITTED_SLOT s.committed
  d2.each ((List.range 10).filter (fun r => s.reasons.testBit r)) Dev.setReason

/-- The signing state read: the largest END of any record that checks on either device (16 R548). -/
def Dev.readSigning (d : Dev) (on : Bool × Bool) : Dev :=
  let l := (if on.1 && d.storeUsed 0 then d.store.copy0.signing else []) ++
    (if on.2 && d.storeUsed 1 then d.store.copy1.signing else [])
  let n := largestEnd l
  (d.put R.ROLE_ATTEST_LEAF_NEXT n).put R.ROLE_ATTEST_RES_END n

/-- The journal's head found, of the records that read back: the one with the highest SEQ whose CHAIN checks; without one the
region is empty. The start's own record is made, of KIND RESTART (16 R534, R538; 17 R564). -/
def Dev.readJournal (d : Dev) (on : Bool × Bool) (bad : List Nat × List Nat) : Dev :=
  let of := fun (reads : Bool) (k : Nat) (l : List Nat) =>
    if reads && d.storeUsed k then ((d.storeCopy k).latest l).toList else []
  let last := latestOf (of on.1 0 bad.1 ++ of on.2 1 bad.2)
  let empty := fun (c : StoreCopy) => if last.isNone then { c with journal := [], begun := 0 } else c
  let d0 := (d.modCopy 0 empty).modCopy 1 empty
  let d1 := ({ d0 with roles := { d0.roles with
    buffer := [], owed := [], lastChain := last.map JRec.chain, storedChain := last.map JRec.chain } }).put
      R.ROLE_JOURNAL_SEQ (last.elim 0 (fun r => r.seq + 1))
  let d2 := d1.each [2, 3, 4] (fun d b => d.putWord ⟨.ROLE, b, 14⟩ (BitVec.ofNat 64 d.store.counter))
  d2.journalAs 4 0 .firmware 10 0 0 0 0

/-- A settings slot read: whether it checks, and its GENERATION (R566). -/
def Dev.readSet (d0 : Dev) (s : Nat) (r : RegionCopy) : Dev :=
  let held := fun (c : StoreCopy) => if s = 0 then c.setA else c.setB
  let c := d0.choose r (fun x => d0.objectChecks 2 (held x))
  let b := held (d0.chosen c)
  let d1 := d0.noteCopy c
  let d : Dev := { d1 with store := if s = 0 then { d1.store with setA := b } else { d1.store with setB := b } }
  (d.put (if s = 0 then R.SSTORE_SET_VALID_A else R.SSTORE_SET_VALID_B) (bit (c != .neither))).put R.SSTORE_SET_GEN (objGen b) 0 s

/-- The settings slot to be applied chosen (R566). -/
def Dev.chooseSet (d : Dev) : Dev :=
  let a := d.store.activeSet
  if d.setValid a then d.put R.SSTORE_SET_ACTIVE a
  else if d.setValid (1 - a) then
    ((({ d with store := { d.store with activeSet := 1 - a } }).put R.SSTORE_SET_ACTIVE (1 - a)).put
      R.BOOT_STATUS_SET_FALLBACK 1).raiseBit R.BOOT_EVENTS 4
  else (d.put R.SSTORE_SET_ACTIVE a).put R.BOOT_STATUS_SET_NONE 1

/-! ### Settings (R566; 16 R525, R543) -/

/-- The session that gives the writes of a start the signer's role. -/
def signerSession (role : Nat) : Session := { bank := 4, path := .mctp .i3c, role := role, slot := 0, counter := 0, last := 0 }

/-- The wait after an entry that writes a command: what ends with a Notch or within 1 ms ends (R566; DESIGN CHOICE,
notes/assumptions/153). -/
def Dev.waited (d : Dev) : Dev :=
  let d1 := d.lateWrites.showRan.stepInsts
  (d1.each d1.health.remaps (fun d x => d.remapDone x.1 x.2.1)).settleStep

/-- A settings entry applied: written with the signer's role over the bits of its mask, a command waited for, and
journaled as the device's own unless its page refuses it: whatever the refusal, a configuration error there. Each entry has a
Notch of its own, and what its command does within 1 ms is done before the next. -/
def Dev.applyEntry (d : Dev) (cls : Nat) (e : SetEntry) : Dev :=
  let p : Path := .mctp .i3c
  let d0 : Dev := { d with start := d.regs, errs := { d.errs with now := [], acked := [] }
                           roles := { d.roles with sessions := [signerSession cls], buffer := [] } }
  let old := d0.readWord p e.page (e.off / 8)
  let d' := d0.accessWrite p e.page e.off true ((old &&& ~~~e.mask) ||| (e.value &&& e.mask))
  let d1 := if d'.errs.now.any (fun x => x.cls == 2) then d0.configError e.page e.off else d'
  let refused : Bool := d1.errs.now.any (fun x => x.cls == 1)
  let d2 := { d1 with start := d1.regs }
  let new := d2.readWord p e.page (e.off / 8)
  let d3 := ({ d2 with roles := d.roles, errs := { d2.errs with now := [] } }.put R.ROLE_JOURNAL_SEQ
    (d.get R.ROLE_JOURNAL_SEQ)).waited
  if refused then d3 else d3.journalAs 4 0 .firmware 1 e.page e.off old new

/-- The entries of the chosen settings slot that meet a condition, in body order. -/
def Dev.applySettings (d : Dev) (which : SetEntry → Bool) : Dev :=
  let a := d.get R.SSTORE_SET_ACTIVE
  if d.setValid a then
    let b := d.setSlot a
    let d1 := (d.put R.BOOT_STATUS_STAGE bsSettings).each ((setEntries b).filter which) (fun d e => d.applyEntry (objClass b) e)
    let d2 := d1.put R.BOOT_STATUS_STAGE (d.get R.BOOT_STATUS_STAGE)
    { d2 with start := d2.regs }
  else d

/-- An entry of a host link's page. -/
def SetEntry.isHost (e : SetEntry) : Bool := e.page == pgHOST 0 || e.page == pgHOST 1

/-- ROM (R561, R562, R564, R566; 16 R538, R539, R548): the ROM stage completes. The serial store has been read, the HOSTA and
HOSTB entries applied, and ports whose PERST# is released start training. -/
def execRom (reads : RomReads) (s : State) : Host.Outcome State Fault Refusal :=
  s.act (fun d =>
    if d.stage ≠ bsRom then d
    else
      let d1 := d.showDevices reads
      let d2 := ((d1.readKeys reads.keys).readIdentity reads.identity).readHealth reads.health
      let d3 := (d2.readSigning reads.signing).readJournal reads.journal reads.badRecords
      let d4 := ((d3.readSet 0 reads.setA).readSet 1 reads.setB).chooseSet
      let d5 := d4.applySettings SetEntry.isHost
      let d6 := d5.each [0, 1] (fun d p => d.put R.HOST_LINK_CFG_VF_TOTAL_NOW (d.get R.HOST_LINK_CFG_VF_TOTAL p) p)
      let d7 := d6.put R.BOOT_STATUS_STAGE bsFirmware
      d7.each ([0, 1].filter (fun p => d7.hostFitted p && d7.mayTrain p))
        (fun d p => d.modLink p (fun l => { l with training := true })))

/-! ### The stages after ROM (R561, R565 to R568) -/

/-- A firmware slot read: whether it checks, and its GENERATION (R565). -/
def Dev.readFw (d0 : Dev) (s : Nat) (r : RegionCopy) : Dev :=
  let held := fun (c : StoreCopy) => if s = 0 then c.fwA else c.fwB
  let c := d0.choose r (fun x => d0.objectChecks 1 (held x))
  let b := held (d0.chosen c)
  let d1 := d0.noteCopy c
  let d : Dev := { d1 with store := if s = 0 then { d1.store with fwA := b } else { d1.store with fwB := b } }
  (d.put (if s = 0 then R.SSTORE_FW_VALID_A else R.SSTORE_FW_VALID_B) (bit (c != .neither))).put R.SSTORE_FW_GEN (objGen b) 0 s

/-- The firmware slot that a start runs: the committed one, or the other when only that one checks; none without identity
(R565). -/
def Dev.bootSlot (d : Dev) : Option Nat :=
  let c := d.store.committed
  if d.boot.nominal then none
  else if d.fwValid c then some c
  else if d.fwValid (1 - c) then some (1 - c)
  else none

/-- FIRMWARE (R561, R565): a firmware slot is chosen and the control firmware runs, or the device enters RECOVERY. The
operands are the copies that the checks of slots A and B use. -/
def execFirmware (slotA slotB : RegionCopy) (s : State) : Host.Outcome State Fault Refusal :=
  s.act (fun d =>
    if d.stage ≠ bsFirmware then d
    else
      let d1 := (d.readFw 0 slotA).readFw 1 slotB
      match d1.bootSlot with
      | none => d1.put R.BOOT_STATUS_STAGE bsRecovery
      | some n =>
        let d2 := (d1.put R.SSTORE_FW_ACTIVE n).put R.BOOT_STATUS_FW_FALLBACK (bit (n != d.store.committed))
        (d2.put R.BOOT_T_STAGE1_T_FW d.dial.notch).put R.BOOT_STATUS_STAGE bsSettings)

/-- SETTINGS (R561, R563, R566): the active settings slot is applied but for its host links' entries. -/
def execSettings (s : State) : Host.Outcome State Fault Refusal :=
  s.act (fun d =>
    if d.stage ≠ bsSettings then d
    else ((d.applySettings (fun e => !e.isHost)).put R.BOOT_T_STAGE1_T_SET d.dial.notch).put R.BOOT_STATUS_STAGE bsGlens)

/-- The start image (R567; 05 R206, R207): a header, three instructions and the trailer. -/
def startImage : List Byte :=
  let body := leBytes 8 (0x5141 + 2 ^ 16 + 2 ^ 24 + 24 * 2 ^ 32) ++ leBytes 8 0x0000000500000727 ++
    leBytes 8 0x000000130000E061 ++ leBytes 8 0x0000000000000090
  body ++ leBytes 8 (crc32c body)

/-- GLENS (R561, R567, R568; 04 R125): the Glens' self-tests are over, `failed` naming those that fail; slots are assigned and
hold the start image, and the units of the data path start. -/
def execGlens (failed : List Nat) (s : State) : Host.Outcome State Fault Refusal :=
  s.act (fun d =>
    if d.stage ≠ bsGlens ∨ d.boot.serving then d
    else
      let d1 := d.each (List.range d.variant.glensActive) (fun d k =>
        (d.modSlot k (fun x => { x with current := startImage })).put R.GSLOT_PROG_CRC_CUR (imageTrailer startImage) k)
      let d2 := (d1.assignGlens failed).put R.BOOT_T_STAGE2_T_GLENS d.dial.notch
      { d2 with boot := { d2.boot with serving := true } })

/-- SERVICE (R561, R568, R573; 15 R514): the work of the stage is complete. -/
def execService (s : State) : Host.Outcome State Fault Refusal :=
  s.act (fun d =>
    if d.stage ≠ bsGlens ∨ !d.boot.serving then d
    else
      let d1 := ((d.put R.BOOT_STATUS_STAGE bsService).put R.BOOT_T_STAGE2_T_SERVICE d.dial.notch).raiseBit R.BOOT_EVENTS 0
      let d2 := d1.each ((List.range 10).filter (fun r => d.store.reasons.testBit r)) Dev.setReason
      { d2 with
        boot := { d2.boot with wdogFrom := d.dial.notch }
        wake := { d2.wake with serviceAt := if d.wake.pinLow then some d.dial.notch else none } })

end Sys2Proof.Machine
end

