-- ==== Sys2Proof/Machine/Wake.lean ====
section
/-! DEFINITION. Wake from Standby (spec/03_ports.md R116, R117). -/

namespace Sys2Proof.Machine

/-! ### Wake (R116, R117) -/

/-- A saved pattern matches a frame. -/
def patternMatches (f : List Byte) (x : List Byte × Nat × Nat) : Bool :=
  decide (x.2.2 ≤ f.length) && (List.range x.2.2).all (fun i => !x.2.1.testBit i || nth f i 0 == nth x.1 i 0)

/-- A list begins with another at one of its places. -/
def holdsRun (pat : List Byte) : List Byte → Bool
  | [] => pat.isEmpty
  | b :: bs => pat.isPrefixOf (b :: bs) || holdsRun pat bs

/-- A frame is a magic packet for an address. -/
def magicMatches (f : List Byte) (mac : Nat) : Bool :=
  holdsRun (List.replicate 6 0xFF ++ (List.range 16).flatMap (fun _ => beBytes 6 mac)) (f.take 1518)

/-- The lowest-numbered enabled pattern that matches. -/
def Wake.pattern (w : Wake) (f : List Byte) : Option Nat :=
  (List.range 8).find? (fun p => w.savedCtrl.testBit p && patternMatches f (nth w.savedPatterns p ([], 0, 0)))

/-- The enabled magic packet matches. -/
def Wake.magic (w : Wake) (f : List Byte) : Bool := w.savedCtrl.testBit 8 && magicMatches f w.savedMac

/-- WAKE_MATCH (R116, R117): a frame received on lane 0 in Standby. On a match WAKE# goes low, the cause is recorded, and a
start begins. Which cause stands when both a pattern and the magic packet match is left open: a free value. -/
def execWakeMatch (frame : List Byte) (fcsGood : Bool) (s : State) : Host.Outcome State Fault Refusal :=
  s.always (fun d =>
    let pat := d.wake.pattern frame
    let magic := d.wake.magic frame
    if d.boot.off || !d.wake.standby || !fcsGood || (pat.isNone && !magic) then d
    else
      let r := if pat.isSome && magic then d.free else (0, d)
      let byMagic : Bool := if pat.isSome && magic then r.1.getLsbD 0 else magic
      let d1 := ({ r.2 with wake := { d.wake with pinLow := true } }).emit (.pin "WAKE#" false)
      let d2 := d1.restart 1 d.boot.strap
      let d3 := (d2.put R.WAKE_CAUSE_CAUSE (if byMagic then 2 else 1)).put R.WAKE_CAUSE_PATTERN
        (if byMagic then 0 else pat.getD 0)
      { d3 with start := d3.regs })

/-- WAKE_RELEASE_TIMEOUT (R117): WAKE# is released 1 s after STAGE first reads SERVICE. -/
def execWakeReleaseTimeout (s : State) : Host.Outcome State Fault Refusal :=
  s.act (fun d =>
    match d.wake.serviceAt with
    | some n => if n + 15625000 ≤ d.dial.notch then d.releaseWake else d
    | none => d)

end Sys2Proof.Machine
end

