-- ==== Sys2Proof/Machine/Notch.lean ====
section
/-! DEFINITION. The Notch boundary: what ends with a Notch, what a Notch starts with, and the registers that show state kept
elsewhere (spec/01_dial_and_notch.md R21 to R23, R45 to R52; 00 R17 to R19). -/

namespace Sys2Proof.Machine

/-! ### Registers that show a state -/

/-- Unmasked event bits or an unacknowledged error on an instance's page (11 R414; 18 R586). -/
def Dev.instRaised (d : Dev) (i : Nat) : Bool :=
  let bits := d.get R.INST_EVENTS i + d.get R.INST_RING_EVENTS i * 2 ^ 8
  bits != bits &&& d.get R.HDR_EVT_MASK_MASK (pgINST i) || d.pageErr (pgINST i)

/-- INSTCTL.SUMMARY, whose bits raise the page's event as they go from 0 to 1 (11 R414). -/
def Dev.showSummary (d : Dev) : Dev :=
  let paged := ((d.touched .HDR).filter (fun p => decide (4096 ≤ p))).map (fun p => p - 4096)
  let up := ((d.touched .INST ++ paged).eraseDups).filter d.instRaised
  let word := fun w => ((up.filter (fun i => i / 64 == w)).map (fun i => 2 ^ (i % 64))).sum
  let new : Bool := up.any (fun i => !(d.get R.INSTCTL_SUMMARY 0 (i / 64)).testBit (i % 64))
  let d1 := d.each (List.range 64) (fun d w => d.put R.INSTCTL_SUMMARY (word w) 0 w)
  if new && !d1.control.levels.contains srcINSTCTL then
    { d1 with control := { d1.control with levels := d1.control.levels ++ [srcINSTCTL] } }
  else d1

/-- Spares, vacant slots and stopped control cores in HEALTH.STATUS (15 R519). -/
def Dev.showHealth (d : Dev) : Dev :=
  let n := fun (l : List Nat) (p : Nat → Bool) => (l.filter p).length
  ((d.put R.HEALTH_STATUS_SPARE_READY (n (List.range d.variant.glensAll) (fun g => d.glState g == glSpare))).put
    R.HEALTH_STATUS_SLOTS_VACANT (n (List.range d.variant.glensActive) (fun k => d.slState k == slVacant))).put
    R.HEALTH_STATUS_CTRL_STOPPED (n (List.range 16) (fun c => (d.ctrl c).stopped))

/-- BOOT.TRIAL.LEFT_S (17 R579): whole seconds of dial time, rounded up. -/
def Dev.showTrial (d : Dev) : Dev :=
  match d.boot.trialEnd with
  | some t => d.put R.BOOT_TRIAL_LEFT_S (saturate 16 ((timeNs t - timeNs d.now + nsPerSec - 1) / nsPerSec))
  | none => d

/-- The registers that show state kept elsewhere, as that state stands when a Notch starts. -/
def Dev.show (d : Dev) : Dev :=
  let d1 := d.showGlens.showDefile.showHost.showSummary.showHealth.showTrial.showCores.showSources
  d1.showJournal.each [2, 3, 4] Dev.showSession

/-! ### The boundary -/

/-- What was kept for the Notch that ends is dropped: outputs, errors and clears of it, and what units took in it (00 R17 to
R20; 15 R498). -/
def Dev.endNotch (d0 : Dev) : Dev :=
  let d := d0.showRan
  { d with
    start := d.regs
    out := []
    acc := { d.acc with setNow := [], cleared := [] }
    errs := { d.errs with now := [], acked := [] }
    sched := { d.sched with colHeld := [], offers := [] }
    control := { d.control with
      withdrawn := [], presented := [], cores := d.control.cores.map (fun x => (x.1, { x.2 with mreqNow := 0 })) }
    mover := { d.mover with used := 0, taken := [] } }

/-- The first Notch after a dial step: every dial-time schedule is re-indexed, and a gate switch whose point a forward step
has passed over is made (01 R47; 09 R340, R342). -/
def Dev.reindex (d : Dev) : Dev :=
  if d.dial.stepped.isSome then
    (if d.held then d else d.evalGates (min (timeNs d.unstepped) (timeNs d.now)) (timeNs d.now)).ledgerStepped
  else d

/-- The state at the start of the next Notch, which its reads see (00 R17; 01 R52; 18 R597). -/
def Dev.startNotch (d : Dev) : Dev :=
  { d with
    start := d.regs
    snap := { acc := d.acc, roles := d.roles, store := d.store, basin := d.basin, glens := d.glens, host := d.host,
              sched := d.sched }
    acc := { d.acc with setNow := [] }
    control := { d.control with levels := d.levelsTaken }
    errs := { d.errs with now := [] } }

/-- What the device does by itself in a Notch: requests of software sources and of the minute boundary, table jobs,
instance commands of the Notch before, vectors whose masks have opened, a handover state written in time, heat and power (07
R258; 10 R385; 11 R394; 14 R475, R477; 17 R571; 19 R611, R617, R623). -/
def Dev.ownActions (d : Dev) : Dev :=
  let d1 := d.softRequests
  let d2 := if d1.dial.sec % 60 = 0 ∧ d1.dial.ns = 0 then d1.request 81 else d1
  d2.freeCells.stepTables.stepInsts.resetsDue.remapsDue.armWaiting.flushVecs.handoverDue.heatAlert.powerStep.storeReady

/-- A commanded reset whose 1 ms is over (17 R559). -/
def Dev.resetDue (d : Dev) : Bool := d.boot.resetAt.any (fun n => decide (n ≤ d.dial.notch))

/-- The end of a Notch in which power is removed for Standby (03 R115). -/
def Dev.fallAsleep (d : Dev) (w : StoreWrite) : Dev := (d.lateWrites.endNotch.standbyStore w).standbySleep

/-- The Notch boundary: the MLEARNs of the Notch are served, then its late writes. At 105 °C the rails go. -/
def Dev.tick (d : Dev) : Dev :=
  if d.trips then ({ d with out := [] } : Dev).trip
  else
  let d1 := d.heatDue.serveLearns.lateWrites.noteRisen.endNotch.tickPorts.tickBasin.tickUnits.tickDial.reindex.tickGlens.tickDefile.closeWindows
  if d1.resetDue then d1.restart 2 d1.boot.strap else d1.show.freeLogs.startNotch.ownActions

/-- NOTCH_TICK (R21 to R23, R50): a Notch boundary. In Standby and without supply there is none. -/
def execNotchTick (s : State) : Host.Outcome State Fault Refusal :=
  s.always (fun d =>
    if d.awake then (match d.standbyDue with | some w => d.fallAsleep w | none => d.tick) else { d with out := [] })

end Sys2Proof.Machine
end

