-- ==== Sys2Proof/Machine/Storage.lean ====
section
/-! DEFINITION. The storage unit: digests and segments of frames sent, and the PDU stream, digests and placement of frames
received (spec/13_block_mover_storage.md R458 to R466). -/

namespace Sys2Proof.Machine

/-! ### PDUs (R460) -/

/-- The common header: type, the two digest flags, HLEN, PDO and PLEN. -/
def pduType (h : List Byte) : Nat := leNat (sub h 0 1)
def pduHdgst (h : List Byte) : Bool := (leNat (sub h 1 1)).testBit 0
def pduDdgst (h : List Byte) : Bool := (leNat (sub h 1 1)).testBit 1
def pduHlen (h : List Byte) : Nat := leNat (sub h 2 1)
def pduPdo (h : List Byte) : Nat := leNat (sub h 3 1)
def pduPlen (h : List Byte) : Nat := leNat (sub h 4 4)
/-- CCCID, DATAO and DATAL of a C2HData PDU. -/
def pduCccid (h : List Byte) : Nat := leNat (sub h 8 2)
def pduDatao (h : List Byte) : Nat := leNat (sub h 12 4)
def pduDatal (h : List Byte) : Nat := leNat (sub h 16 4)

/-- Bytes of a header with its digest, and of the whole PDU, which is never shorter than its header. -/
def pduHead (h : List Byte) : Nat := max 8 (pduHlen h) + (if pduHdgst h then 4 else 0)
def pduLen (h : List Byte) : Nat := max (pduPlen h) (pduHead h)

/-- The PDUs a payload is made of; none where it is not one or more whole ones (R459). -/
def splitPdus : Nat → List Byte → Option (List (List Byte))
  | 0, _ => none
  | n + 1, b =>
    let l := pduPlen b
    if b.length < 8 ∨ l < 8 ∨ b.length < l then none
    else if b.length = l then some [b]
    else (splitPdus n (b.drop l)).map (fun t => b.take l :: t)

/-- A PDU with its digests written over their placeholders (R460). -/
def digestPdu (hEn dEn : Bool) (b : List Byte) : List Byte :=
  let b1 := if pduHdgst b && hEn then overlay b (pduHlen b) (leBytes 4 (crc32c (b.take (pduHlen b)))) else b
  if pduDdgst b && dEn then
    overlay b1 (b.length - 4) (leBytes 4 (crc32c (sub b1 (pduPdo b) (b.length - 4 - pduPdo b))))
  else b1

/-! ### Judging a frame (R459) -/

/-- Where the parts of a frame lie. -/
structure TcpPlace where
  l3 : Nat
  l4 : Nat
  /-- Start of the payload, and its end as the IP header gives it. -/
  pay : Nat
  fin : Nat
  v6 : Bool

/-- The layout of R459: IPv4 without options or IPv6 without extension headers, and TCP. -/
def tcpPlace (u : UnitFrame) : Option TcpPlace :=
  let b := u.bytes
  let l3 := u.tk.get T.L3_OFF
  let l4 := u.tk.get T.L4_OFF
  match ipAt b l3 with
  | none => none
  | some (v6, hl, proto) =>
    let len := if v6 then 40 + beAt b (l3 + 4) 2 else beAt b (l3 + 2) 2
    let fin := min (b.length - 4) (l3 + len)
    if proto ≠ 6 ∨ l4 ≠ l3 + hl ∨ (!v6 ∧ hl ≠ 20) then none
    else (tcpAt b l3 l4 fin).map (fun pay => ⟨l3, l4, pay, fin, v6⟩)

/-- The payload of a frame. -/
def TcpPlace.payload (p : TcpPlace) (b : List Byte) : List Byte := sub b p.pay (p.fin - p.pay)

/-- What the checks of R459 say of a frame: the code of the first that fails, or its layout and whether it is outbound. -/
def Dev.judgeStore (d : Dev) (conn : Nat) (u : UnitFrame) : Nat ⊕ (TcpPlace × Bool) :=
  if u.errored then .inl 4
  else if !d.flag R.CONN_W0_VALID conn || d.units.badConn.contains conn then .inl 1
  else if u.tk.get T.INSTANCE ≠ d.get R.CONN_W0_INSTANCE conn then .inl 2
  else
    match tcpPlace u with
    | none => .inl 3
    | some p =>
      let port := d.get R.CONN_W0_LOCAL_PORT conn
      let pay := p.payload u.bytes
      if beAt u.bytes p.l4 2 = port then
        (if (splitPdus (pay.length + 1) pay).isNone then .inl 3
         else if 255 * d.get R.CONN_W0_MSS conn < pay.length then .inl 5
         else .inr (p, true))
      else if beAt u.bytes (p.l4 + 2) 2 = port then .inr (p, false)
      else .inl 3

/-! ### Outbound (R460, R461, R464, R465) -/

/-- Segment `k` of `n` of a frame with the payload `pay`. -/
def segment (u : UnitFrame) (p : TcpPlace) (mss n k : Nat) (pay : List Byte) : UnitFrame :=
  let b := u.bytes
  let part := (pay.drop (mss * k)).take mss
  let b1 := b.take p.pay ++ part ++ b.drop (b.length - 4)
  let fin := p.pay + part.length
  let b2 := overlay b1 (p.l4 + 4) (beBytes 4 (beAt b (p.l4 + 4) 4 + mss * k))
  let b3 := if p.v6 then b2 else overlay b2 (p.l3 + 4) (beBytes 2 (beAt b (p.l3 + 4) 2 + k))
  let b4 := if k + 1 = n then b3 else overlay b3 (p.l4 + 13) [BitVec.ofNat 8 (beAt b (p.l4 + 13) 1) &&& 0xF6]
  { u with
    old := none
    bytes := tcpFix (ipFix b4 p.l3 fin 6) p.l3 p.l4 fin
    tx := if k + 1 = n then u.tx else none
    tk := u.tk.put T.TAG (2 ^ 8 + k * 2 ^ 16 + n * 2 ^ 24) }

/-- An outbound frame: its digests, its segments and its counts. -/
def Dev.storeOutbound (d : Dev) (conn : Nat) (u : UnitFrame) (p : TcpPlace) : Dev :=
  let raw := p.payload u.bytes
  let pdus := ((splitPdus (raw.length + 1) raw).getD []).map
    (digestPdu (d.flag R.CONN_W0_HDGST_EN conn) (d.flag R.CONN_W0_DDGST_EN conn))
  let pay := pdus.flatten
  let mss := d.get R.CONN_W0_MSS conn
  let n := (pay.length + mss - 1) / mss
  let ios := (pdus.filter (fun b => pduType b == 4)).length
  let d1 := ((d.count R.CONN_PDUS_TX pdus.length conn).count R.CONN_IOS ios conn).chargeStore (d.get R.CONN_W0_INSTANCE conn)
    ios
  { d1 with units := { d1.units with storeOut := d1.units.storeOut ++ (List.range n).map (fun k => segment u p mss n k pay) } }

/-! ### Inbound (R462, R463) -/

/-- Result codes (R464). -/
def srOk : Nat := 0
def srOld : Nat := 1
def srOoo : Nat := 2
def srOos : Nat := 3
def srCsum : Nat := 4
def srHdgst : Nat := 5
def srDdgst : Nat := 6
def srNoBuf : Nat := 7
def srRange : Nat := 8

/-- A connection's place in its PDU stream, and what has become of the frame that is parsed. -/
structure Parse where
  dev : Dev
  /-- Bytes known to be left of the PDU; 0 at a boundary. -/
  rem : Nat
  /-- The header bytes of an unfinished header. -/
  part : List Byte
  /-- The first 32 bytes of the header of the PDU in progress. -/
  head : List Byte
  acc : Nat
  datao : Nat
  /-- Buffer table entries still to be read. -/
  entries : List (Option (List Byte))
  /-- Bytes that stay in the frame, and how many were placed. -/
  kept : List Byte := []
  placed : Nat := 0
  result : Nat := 0
  /-- The frame passes unchanged with this code, and the connection is out of step. -/
  fail : Option Nat := none

/-- The first result that is not OK stands. -/
def Parse.mark (p : Parse) (r : Nat) : Parse := if p.result = srOk then { p with result := r } else p

/-- The digest register after a message and its own digest. -/
def goodDigest : Nat := crc32cStep 0xFFFFFFFF [0, 0, 0, 0]

/-- One more count in a half of STORE.DGST_FAIL. -/
def Dev.countDigest (d : Dev) (data : Bool) : Dev :=
  let v := d.get R.STORE_DGST_FAIL
  let lo := v % 2 ^ 32
  let hi := v / 2 ^ 32
  if data then d.put R.STORE_DGST_FAIL (lo + saturate 32 (hi + 1) * 2 ^ 32)
  else d.put R.STORE_DGST_FAIL (saturate 32 (lo + 1) + hi * 2 ^ 32)

/-- A header digest that fails (R462). -/
def Dev.headerFails (d : Dev) (conn : Nat) : Dev :=
  ((d.count R.CONN_W12_HDGST_FAILS 1 conn).countDigest false).raiseBit R.STORE_EVENTS 1

/-- The end of a PDU: it is counted, and its data digest judged (R462). -/
def Parse.endPdu (p : Parse) (conn : Nat) : Parse :=
  let d1 := p.dev.count R.CONN_PDUS_RX 1 conn
  if pduDdgst p.head && p.dev.flag R.CONN_W0_DDGST_EN conn && p.acc != goodDigest then
    { p with dev := ((d1.count R.CONN_W12_DDGST_FAILS 1 conn).countDigest true).raiseBit R.STORE_EVENTS 2 }.mark srDdgst
  else { p with dev := d1 }

/-- The data of a chunk placed in the host's buffer, `off` bytes after the start of the PDU's data (R463). -/
def Parse.place (p : Parse) (conn off : Nat) (data : List Byte) : Parse × Bool :=
  let d := p.dev
  let inst := d.get R.CONN_W0_INSTANCE conn
  if pduType p.head ≠ 7 ∨ !d.flag R.CONN_W0_PLACE_EN conn ∨ data = [] then (p, false)
  else if 2 ^ d.get R.CONN_W0_BUF_LOG2 conn ≤ pduCccid p.head then (p.mark srNoBuf, false)
  else
    let q : Parse := { p with entries := p.entries.tail }
    match p.entries.head?.join with
    | none =>
      let d1 := match d.instPort inst with
        | some h => if d.dmaOk h then d.readLost h (d.get R.CONN_BUF_BASE conn + 16 * pduCccid p.head) else d
        | none => d
      ({ q with dev := d1 }.mark srNoBuf, false)
    | some e =>
      if !(d.instPort inst).any d.dmaOk || !(leNat (sub e 12 4)).testBit 0 then (q.mark srNoBuf, false)
      else if leNat (sub e 8 4) < pduDatao p.head + pduDatal p.head then (q.mark srRange, false)
      else
        ({ q with
            dev := ((d.hostStore inst (leNat (sub e 0 8) + pduDatao p.head + off) data true).count R.CONN_PLACED data.length
              conn).count R.STORE_PLACED_BYTES data.length
            placed := p.placed + data.length }, true)

/-- Bytes of the payload taken as the continuation of the PDU stream (R462). -/
def Parse.run (conn : Nat) : Nat → Parse → List Byte → Parse
  | 0, p, _ => p
  | n + 1, p, b =>
    if b = [] then p
    else if p.rem = 0 ∨ p.part ≠ [] then
      let have_ := if p.rem = 0 then [] else p.part
      let avail := have_ ++ b
      if avail.length < 8 then { p with rem := 8 - avail.length, part := avail, kept := p.kept ++ b }
      else
        let hw := pduHead avail
        if 32 < hw ∧ (have_ ≠ [] ∨ avail.length < hw) then { p with fail := some srOos }
        else if avail.length < hw then
          { p with rem := pduLen avail - avail.length, part := avail, kept := p.kept ++ b }
        else if pduHdgst avail && p.dev.flag R.CONN_W0_HDGST_EN conn &&
            crc32c (avail.take (hw - 4)) != leNat (sub avail (hw - 4) 4) then
          { p with dev := p.dev.headerFails conn, fail := some srHdgst }
        else
          let used := hw - have_.length
          let p1 : Parse := { p with
            rem := pduLen avail - hw, part := [], head := avail.take 32, acc := 0xFFFFFFFF
            datao := if pduType avail = 7 then pduDatao avail else 0, kept := p.kept ++ b.take used }
          Parse.run conn n (if p1.rem = 0 then p1.endPdu conn else p1) (b.drop used)
    else
      let chunk := b.take p.rem
      let pos := pduLen p.head - p.rem
      let start := max (pduHead p.head) (pduPdo p.head)
      let stop := start + pduDatal p.head
      let before := chunk.take (start - pos)
      let data := (chunk.drop (start - pos)).take (stop - max pos start)
      let after := chunk.drop (before.length + data.length)
      let r := p.place conn (pos - start) data
      let p1 : Parse := { r.1 with
        rem := p.rem - chunk.length
        acc := crc32cStep p.acc (chunk.drop (start - pos))
        datao := if pduType p.head = 7 then p.datao + data.length else p.datao
        kept := p.kept ++ (if r.2 then before ++ after else chunk) }
      Parse.run conn n (if p1.rem = 0 then p1.endPdu conn else p1) (b.drop p.rem)

/-- The 32 staged header bytes of a connection. -/
def Dev.connStage (d : Dev) (conn : Nat) : List Byte :=
  (List.range 4).flatMap (fun k => leBytes 8 (d.get R.CONN_HDR_STAGE conn k))

/-- The record takes the place in the stream (R462). -/
def Parse.keep (p : Parse) (conn : Nat) : Dev :=
  let stage := if p.part = [] then p.head else p.part
  let d1 := ((((p.dev.put R.CONN_W1_PDU_REM p.rem conn).put R.CONN_W3_HDR_BYTES p.part.length conn).put
    R.CONN_W3_CUR_CCCID (if pduType p.head = 7 then pduCccid p.head else 0) conn).put R.CONN_W3_DGST_ACC p.acc conn).put
    R.CONN_CUR_DATAO p.datao conn
  d1.each (List.range 4) (fun d k => d.put R.CONN_HDR_STAGE (leNat (sub stage (8 * k) 8)) conn k)

/-- A frame to be returned with its result word (R464). -/
def Dev.storeResult (d : Dev) (u : UnitFrame) (bytes : List Byte) (result placed : Nat) : Dev :=
  { d with units := { d.units with storeOut := d.units.storeOut ++
      [{ u with old := none, bytes := bytes, tk := u.tk.put T.TAG (result + placed * 2 ^ 32) }] } }

/-- RX_SYNC goes to 0 (R462). -/
def Dev.outOfSync (d : Dev) (conn : Nat) : Dev :=
  if d.flag R.CONN_W0_RX_SYNC conn then (d.put R.CONN_W0_RX_SYNC 0 conn).raiseBit R.STORE_EVENTS 3 else d

/-- A frame passed unchanged (R462), with the bytes of it that have been placed (R464). -/
def Dev.passStore (d : Dev) (u : UnitFrame) (result : Nat) (placed : Nat := 0) : Dev :=
  (d.count R.STORE_PASS 1).storeResult u u.bytes result placed

/-- An inbound frame (R462). -/
def Dev.storeInbound (d : Dev) (conn : Nat) (u : UnitFrame) (p : TcpPlace) (entries : List (Option (List Byte))) : Dev :=
  let b := u.bytes
  let seq := beAt b (p.l4 + 4) 4
  let want := d.get R.CONN_W1_RCV_NXT conn
  if !tcpGood b p.l3 p.l4 p.fin then d.passStore u srCsum
  else if seq ≠ want ∧ (want + 2 ^ 32 - seq) % 2 ^ 32 < 2 ^ 31 then d.passStore u srOld
  else if !d.flag R.CONN_W0_RX_SYNC conn then d.passStore u srOos
  else if seq ≠ want then (d.outOfSync conn).passStore u srOoo
  else
    let pay := p.payload b
    let rem := d.get R.CONN_W1_PDU_REM conn
    let hb := d.get R.CONN_W3_HDR_BYTES conn
    let r := Parse.run conn (2 * pay.length + 1)
      { dev := d, rem := rem, part := if rem = 0 then [] else (d.connStage conn).take hb
        head := if rem ≠ 0 ∧ hb = 0 then d.connStage conn else List.replicate 32 0
        acc := d.get R.CONN_W3_DGST_ACC conn, datao := d.get R.CONN_CUR_DATAO conn, entries := entries } pay
    match r.fail with
    | some code => (r.dev.outOfSync conn).passStore u code r.placed
    | none =>
      ((r.keep conn).put R.CONN_W1_RCV_NXT (want + pay.length) conn).storeResult u (b.take p.pay ++ r.kept ++ b.drop p.fin)
        r.result r.placed

/-- A frame whose data is to be placed waits while the port of its instance retrains (10 R389; 17 R578). -/
def Dev.storeWaits (d : Dev) (conn : Nat) (u : UnitFrame) : Bool :=
  match d.judgeStore conn u with
  | .inr (_, false) => d.flag R.CONN_W0_PLACE_EN conn && (d.instPort (d.get R.CONN_W0_INSTANCE conn)).any d.retraining
  | _ => false

/-- STORE_PROCESS (R459 to R466; 15 R511): a frame that has started is judged, cut into segments, or parsed as
the continuation of its connection's stream. `entries` are the buffer-table entries as host memory returns them, in the
order in which they are read, `ecc` that the connection's record met an uncorrectable error. -/
def execStoreProcess (entries : List (Option (List Byte))) (ecc : Bool) (s : State) :
    Host.Outcome State Fault Refusal :=
  s.live (fun d0 =>
    match d0.nextUnit 19 with
    | none => d0
    | some u =>
     let conn := unitRecord 19 u.tk
     let d1 := (d0.setUnitIn 19 ((d0.unitIn 19).erase u)).underRecord 19 u
     if d1.storeWaits conn u then d0
     else
      let d1 := d1.count R.STORE_FRAMES_IN 1
      let d2 := if ecc && !d1.units.badConn.contains conn then
          ({ d1 with units := { d1.units with badConn := d1.units.badConn ++ [conn] } }).error pgSTORE 15 3 conn
        else d1
      let d3 := match d2.judgeStore conn u with
       | .inl code =>
        (((((d2.count R.STORE_DROPS 1 0 code).put R.STORE_LAST_DROP_CODE code).put R.STORE_LAST_DROP_CONN conn).put
          R.STORE_LAST_DROP_NOTCH d0.dial.notch).raiseBit R.STORE_EVENTS 0).unitGone 19 u
       | .inr (p, true) => d2.storeOutbound conn u p
       | .inr (p, false) => d2.storeInbound conn u p entries
      d3.afterRecord 19 u (d0.recordNow 19 conn))

/-- STORE_RETURN (R461; 02 R76; 06 R234): the result or segment whose turn it is returns on ingress 19, when enough cells
are granted to it. -/
def execStoreReturn (s : State) : Host.Outcome State Fault Refusal :=
  s.live (fun d =>
    match d.nextResult 19 with
    | none => d
    | some u =>
      match (d.setUnitOut 19 ((d.unitOut 19).erase u)).returnFrame 19 u with
      | none => d
      | some d1 => d1.count R.STORE_FRAMES_OUT 1)

end Sys2Proof.Machine
end

