-- ==== Sys2Proof/Machine/Dispatch.lean ====
section
/-! DEFINITION. One arm per command: its meaning. -/

namespace Sys2Proof.Machine

/-- The effect of a command on everything but the queue of waiting commands. -/
def exec (i : Instr) (s : State) : Host.Outcome State Fault Refusal :=
  match i with
  | .notchTick => Sys2Proof.Machine.execNotchTick s
  | .registerWrite path page off wide data => Sys2Proof.Machine.execRegisterWrite path page off wide data s
  | .rcRead path page off wide => Sys2Proof.Machine.execRcRead path page off wide s
  | .errAck path page => Sys2Proof.Machine.execErrAck path page s
  | .slewWrite path ppb => Sys2Proof.Machine.execSlewWrite path ppb s
  | .dialCtrlWrite path data => Sys2Proof.Machine.execDialCtrlWrite path data s
  | .servoSample offset => Sys2Proof.Machine.execServoSample offset s
  | .srcTimeout => Sys2Proof.Machine.execSrcTimeout s
  | .holdoverEnd => Sys2Proof.Machine.execHoldoverEnd s
  | .ppsInEdge sub => Sys2Proof.Machine.execPpsInEdge sub s
  | .todMessage line => Sys2Proof.Machine.execTodMessage line s
  | .ppsMissed => Sys2Proof.Machine.execPpsMissed s
  | .ppsOutRise => Sys2Proof.Machine.execPpsOutRise s
  | .ppsOutFall => Sys2Proof.Machine.execPpsOutFall s
  | .stepRel path => Sys2Proof.Machine.execStepRel path s
  | .setAbs path => Sys2Proof.Machine.execSetAbs path s
  | .notchCountRead path => Sys2Proof.Machine.execNotchCountRead path s
  | .frameReceive port sub chunk last fcsGood => Sys2Proof.Machine.execFrameReceive port sub chunk last fcsGood s
  | .cellGrant ingress pick => Sys2Proof.Machine.execCellGrant ingress pick s
  | .ticketCreate ingress => Sys2Proof.Machine.execTicketCreate ingress s
  | .deal hop => Sys2Proof.Machine.execDeal hop s
  | .dispatch hop => Sys2Proof.Machine.execDispatch hop s
  | .defileArrival glen index fabric => Sys2Proof.Machine.execDefileArrival glen index fabric s
  | .holeSkip ingress => Sys2Proof.Machine.execHoleSkip ingress s
  | .defileSkipLost => Sys2Proof.Machine.execDefileSkipLost s
  | .admission hop => Sys2Proof.Machine.execAdmission hop s
  | .egressRequest egress => Sys2Proof.Machine.execEgressRequest egress s
  | .frameStart egress sub short fault => Sys2Proof.Machine.execFrameStart egress sub short fault s
  | .frameComplete egress index fault => Sys2Proof.Machine.execFrameComplete egress index fault s
  | .ageDrop leaf => Sys2Proof.Machine.execAgeDrop leaf s
  | .basinAgeSweep => Sys2Proof.Machine.execBasinAgeSweep s
  | .bankRetired bank => Sys2Proof.Machine.execBankRetired bank s
  | .applyMode path group => Sys2Proof.Machine.execApplyMode path group s
  | .recal path group port => Sys2Proof.Machine.execRecal path group port s
  | .linkTrainingStart port => Sys2Proof.Machine.execLinkTrainingStart port s
  | .linkUp port => Sys2Proof.Machine.execLinkUp port s
  | .linkDown port => Sys2Proof.Machine.execLinkDown port s
  | .adminDown path port => Sys2Proof.Machine.execAdminDown path port s
  | .fecWindow port corrected uncorrectable received => Sys2Proof.Machine.execFecWindow port corrected uncorrectable received s
  | .calDrift port lane recalled => Sys2Proof.Machine.execCalDrift port lane recalled s
  | .pauseReceived port => Sys2Proof.Machine.execPauseReceived port s
  | .pfcReceived port => Sys2Proof.Machine.execPfcReceived port s
  | .pauseTimerExpiry port cls => Sys2Proof.Machine.execPauseTimerExpiry port cls s
  | .flowControlSend port => Sys2Proof.Machine.execFlowControlSend port s
  | .pfcRefresh port cls => Sys2Proof.Machine.execPfcRefresh port cls s
  | .enterStandby path write => Sys2Proof.Machine.execEnterStandby path write s
  | .wakeMatch frame fcsGood => Sys2Proof.Machine.execWakeMatch frame fcsGood s
  | .wakeReleaseTimeout => Sys2Proof.Machine.execWakeReleaseTimeout s
  | .coreStop glen core => Sys2Proof.Machine.execCoreStop glen core s
  | .coreRestartAuto glen core => Sys2Proof.Machine.execCoreRestartAuto glen core s
  | .restartCore path phys core => Sys2Proof.Machine.execRestartCore path phys core s
  | .stallAll glen core => Sys2Proof.Machine.execStallAll glen core s
  | .stallGlen glen => Sys2Proof.Machine.execStallGlen glen s
  | .halt path glen => Sys2Proof.Machine.execHalt path glen s
  | .gphysResume path glen => Sys2Proof.Machine.execGphysResume path glen s
  | .step path glen => Sys2Proof.Machine.execStep path glen s
  | .abortStage path glen => Sys2Proof.Machine.execAbortStage path glen s
  | .dropTicket path glen => Sys2Proof.Machine.execDropTicket path glen s
  | .break_ glen core thread => Sys2Proof.Machine.execBreak glen core thread s
  | .heartbeatSend glen => Sys2Proof.Machine.execHeartbeatSend glen s
  | .heartbeatCheck => Sys2Proof.Machine.execHeartbeatCheck s
  | .fillStart slot => Sys2Proof.Machine.execFillStart slot s
  | .fillComplete glen => Sys2Proof.Machine.execFillComplete glen s
  | .fillFail glen => Sys2Proof.Machine.execFillFail glen s
  | .stageProg path slot data => Sys2Proof.Machine.execStageProg path slot data s
  | .handover path slot phys => Sys2Proof.Machine.execHandover path slot phys s
  | .handoverDrainEnd slot => Sys2Proof.Machine.execHandoverDrainEnd slot s
  | .admitGlen path slot phys => Sys2Proof.Machine.execAdmitGlen path slot phys s
  | .selftest path phys => Sys2Proof.Machine.execSelftest path phys s
  | .selftestDone glen pass => Sys2Proof.Machine.execSelftestDone glen pass s
  | .nop at_ => Sys2Proof.Machine.execNop at_ s
  | .add at_ rd ra rb => Sys2Proof.Machine.execAdd at_ rd ra rb s
  | .sub at_ rd ra rb => Sys2Proof.Machine.execSub at_ rd ra rb s
  | .and_ at_ rd ra rb => Sys2Proof.Machine.execAnd at_ rd ra rb s
  | .or_ at_ rd ra rb => Sys2Proof.Machine.execOr at_ rd ra rb s
  | .xor at_ rd ra rb => Sys2Proof.Machine.execXor at_ rd ra rb s
  | .shl at_ rd ra rb => Sys2Proof.Machine.execShl at_ rd ra rb s
  | .shr at_ rd ra rb => Sys2Proof.Machine.execShr at_ rd ra rb s
  | .sar at_ rd ra rb => Sys2Proof.Machine.execSar at_ rd ra rb s
  | .mul at_ rd ra rb => Sys2Proof.Machine.execMul at_ rd ra rb s
  | .sltu at_ rd ra rb => Sys2Proof.Machine.execSltu at_ rd ra rb s
  | .slt at_ rd ra rb => Sys2Proof.Machine.execSlt at_ rd ra rb s
  | .crc32c at_ rd ra rb => Sys2Proof.Machine.execCrc32c at_ rd ra rb s
  | .minu at_ rd ra rb => Sys2Proof.Machine.execMinu at_ rd ra rb s
  | .maxu at_ rd ra rb => Sys2Proof.Machine.execMaxu at_ rd ra rb s
  | .addi at_ rd ra imm => Sys2Proof.Machine.execAddi at_ rd ra imm s
  | .andi at_ rd ra imm => Sys2Proof.Machine.execAndi at_ rd ra imm s
  | .ori at_ rd ra imm => Sys2Proof.Machine.execOri at_ rd ra imm s
  | .xori at_ rd ra imm => Sys2Proof.Machine.execXori at_ rd ra imm s
  | .shli at_ rd ra imm => Sys2Proof.Machine.execShli at_ rd ra imm s
  | .shri at_ rd ra imm => Sys2Proof.Machine.execShri at_ rd ra imm s
  | .sari at_ rd ra imm => Sys2Proof.Machine.execSari at_ rd ra imm s
  | .movi at_ rd imm => Sys2Proof.Machine.execMovi at_ rd imm s
  | .movhi at_ rd imm => Sys2Proof.Machine.execMovhi at_ rd imm s
  | .ext at_ rd ra imm => Sys2Proof.Machine.execExt at_ rd ra imm s
  | .ins at_ rd ra imm => Sys2Proof.Machine.execIns at_ rd ra imm s
  | .bcc at_ ra rb mod imm => Sys2Proof.Machine.execBcc at_ ra rb mod imm s
  | .jmp at_ imm => Sys2Proof.Machine.execJmp at_ imm s
  | .call at_ rd imm => Sys2Proof.Machine.execCall at_ rd imm s
  | .jr at_ ra => Sys2Proof.Machine.execJr at_ ra s
  | .ld at_ rd ra mod imm => Sys2Proof.Machine.execLd at_ rd ra mod imm s
  | .st at_ ra rb mod imm => Sys2Proof.Machine.execSt at_ ra rb mod imm s
  | .amoadd at_ rd ra rb imm => Sys2Proof.Machine.execAmoadd at_ rd ra rb imm s
  | .scratchReply thread => Sys2Proof.Machine.execScratchReply thread s
  | .wld at_ rd ra mod imm => Sys2Proof.Machine.execWld at_ rd ra mod imm s
  | .wst at_ rd ra rb mod imm => Sys2Proof.Machine.execWst at_ rd ra rb mod imm s
  | .wpush at_ rd ra imm => Sys2Proof.Machine.execWpush at_ rd ra imm s
  | .wpushs at_ rd ra rb imm => Sys2Proof.Machine.execWpushs at_ rd ra rb imm s
  | .wpop at_ rd ra imm => Sys2Proof.Machine.execWpop at_ rd ra imm s
  | .wcpy at_ rd ra rb imm => Sys2Proof.Machine.execWcpy at_ rd ra rb imm s
  | .tld at_ rd imm => Sys2Proof.Machine.execTld at_ rd imm s
  | .tst at_ ra imm => Sys2Proof.Machine.execTst at_ ra imm s
  | .tldq at_ rd imm => Sys2Proof.Machine.execTldq at_ rd imm s
  | .stat at_ rd => Sys2Proof.Machine.execStat at_ rd s
  | .chwr at_ rb imm => Sys2Proof.Machine.execChwr at_ rb imm s
  | .chcommit at_ => Sys2Proof.Machine.execChcommit at_ s
  | .chrd at_ rd cnt imm => Sys2Proof.Machine.execChrd at_ rd cnt imm s
  | .chtry at_ rd cnt imm => Sys2Proof.Machine.execChtry at_ rd cnt imm s
  | .lkacq at_ ra imm => Sys2Proof.Machine.execLkacq at_ ra imm s
  | .lkrel at_ ra imm => Sys2Proof.Machine.execLkrel at_ ra imm s
  | .lktry at_ rd ra imm => Sys2Proof.Machine.execLktry at_ rd ra imm s
  | .evpost at_ imm => Sys2Proof.Machine.execEvpost at_ imm s
  | .evwait at_ => Sys2Proof.Machine.execEvwait at_ s
  | .flook at_ rd ra cnt imm m => Sys2Proof.Machine.execFlook at_ rd ra cnt imm m s
  | .rlook at_ rd ra mod m => Sys2Proof.Machine.execRlook at_ rd ra mod m s
  | .mlook at_ rd ra m => Sys2Proof.Machine.execMlook at_ rd ra m s
  | .mlearn at_ rd ra rb m => Sys2Proof.Machine.execMlearn at_ rd ra rb m s
  | .rule at_ rd ra cnt imm m => Sys2Proof.Machine.execRule at_ rd ra cnt imm m s
  | .tableReply thread => Sys2Proof.Machine.execTableReply thread s
  | .emit at_ => Sys2Proof.Machine.execEmit at_ s
  | .trap at_ imm => Sys2Proof.Machine.execTrap at_ imm s
  | .csrr at_ rd imm => Sys2Proof.Machine.execCsrr at_ rd imm s
  | .csrw at_ ra imm => Sys2Proof.Machine.execCsrw at_ ra imm s
  | .swint at_ ra => Sys2Proof.Machine.execSwint at_ ra s
  | .mreq at_ ra => Sys2Proof.Machine.execMreq at_ ra s
  | .eret at_ => Sys2Proof.Machine.execEret at_ s
  | .wfi at_ => Sys2Proof.Machine.execWfi at_ s
  | .mld at_ rd ra mod imm => Sys2Proof.Machine.execMld at_ rd ra mod imm s
  | .mst at_ ra rb mod imm => Sys2Proof.Machine.execMst at_ ra rb mod imm s
  | .fence at_ => Sys2Proof.Machine.execFence at_ s
  | .coreTimer core => Sys2Proof.Machine.execCoreTimer core s
  | .insert path table => Sys2Proof.Machine.execInsert path table s
  | .replace path table => Sys2Proof.Machine.execReplace path table s
  | .delete path table => Sys2Proof.Machine.execDelete path table s
  | .find path table => Sys2Proof.Machine.execFind path table s
  | .deleteIndex path table => Sys2Proof.Machine.execDeleteIndex path table s
  | .rebuildBegin path table => Sys2Proof.Machine.execRebuildBegin path table s
  | .migrate path table => Sys2Proof.Machine.execMigrate path table s
  | .switch path table => Sys2Proof.Machine.execSwitch path table s
  | .flush path table => Sys2Proof.Machine.execFlush path table s
  | .tableCmdComplete => Sys2Proof.Machine.execTableCmdComplete s
  | .tableAgeSweep => Sys2Proof.Machine.execTableAgeSweep s
  | .attachLeaf path leaf node => Sys2Proof.Machine.execAttachLeaf path leaf node s
  | .attachNode path node egress cls => Sys2Proof.Machine.execAttachNode path node egress cls s
  | .detachLeaf path leaf => Sys2Proof.Machine.execDetachLeaf path leaf s
  | .detachNode path node => Sys2Proof.Machine.execDetachNode path node s
  | .gateSwitch path port cls => Sys2Proof.Machine.execGateSwitch path port cls s
  | .gateSwitched port cls => Sys2Proof.Machine.execGateSwitched port cls s
  | .gateEval => Sys2Proof.Machine.execGateEval s
  | .refill => Sys2Proof.Machine.execRefill s
  | .doorbell inst ring size value descs ecc => Sys2Proof.Machine.execDoorbell inst ring size value descs ecc s
  | .txChainServe port data => Sys2Proof.Machine.execTxChainServe port data s
  | .txCompletion ring => Sys2Proof.Machine.execTxCompletion ring s
  | .rxHoldStart ring => Sys2Proof.Machine.execRxHoldStart ring s
  | .rxNobuf ring => Sys2Proof.Machine.execRxNobuf ring s
  | .interruptRaise ring => Sys2Proof.Machine.execInterruptRaise ring s
  | .retrain path port => Sys2Proof.Machine.execRetrain path port s
  | .hostLinkUp port speed width flit => Sys2Proof.Machine.execHostLinkUp port speed width flit s
  | .hostLinkDown port => Sys2Proof.Machine.execHostLinkDown port s
  | .perstAssert port => Sys2Proof.Machine.execPerstAssert port s
  | .perstRelease port => Sys2Proof.Machine.execPerstRelease port s
  | .configRequest fn op => Sys2Proof.Machine.execConfigRequest fn op s
  | .pfFlr fn => Sys2Proof.Machine.execPfFlr fn s
  | .vfFlr inst => Sys2Proof.Machine.execVfFlr inst s
  | .activate path inst => Sys2Proof.Machine.execActivate path inst s
  | .quiesce path inst => Sys2Proof.Machine.execQuiesce path inst s
  | .quiesceDrainDone inst => Sys2Proof.Machine.execQuiesceDrainDone inst s
  | .quiesceForced inst => Sys2Proof.Machine.execQuiesceForced inst s
  | .resume path inst => Sys2Proof.Machine.execResume path inst s
  | .freeze path inst => Sys2Proof.Machine.execFreeze path inst s
  | .thaw path inst => Sys2Proof.Machine.execThaw path inst s
  | .save path inst => Sys2Proof.Machine.execSave path inst s
  | .saveComplete inst ok => Sys2Proof.Machine.execSaveComplete inst ok s
  | .restore path inst => Sys2Proof.Machine.execRestore path inst s
  | .restoreComplete inst data descs => Sys2Proof.Machine.execRestoreComplete inst data descs s
  | .reset path inst => Sys2Proof.Machine.execReset path inst s
  | .remove path inst => Sys2Proof.Machine.execRemove path inst s
  | .harvest path inst => Sys2Proof.Machine.execHarvest path inst s
  | .harvestComplete inst ok => Sys2Proof.Machine.execHarvestComplete inst ok s
  | .ledgerSnapshot => Sys2Proof.Machine.execLedgerSnapshot s
  | .ledgerRecordWrite => Sys2Proof.Machine.execLedgerRecordWrite s
  | .ledgerLate => Sys2Proof.Machine.execLedgerLate s
  | .loadKey path sa => Sys2Proof.Machine.execLoadKey path sa s
  | .clearKey path sa => Sys2Proof.Machine.execClearKey path sa s
  | .popEvt path => Sys2Proof.Machine.execPopEvt path s
  | .cryptoProcess hit ecc => Sys2Proof.Machine.execCryptoProcess hit ecc s
  | .cryptoReturn => Sys2Proof.Machine.execCryptoReturn s
  | .start path ch desc => Sys2Proof.Machine.execStart path ch desc s
  | .clear path ch => Sys2Proof.Machine.execClear path ch s
  | .swreq path data => Sys2Proof.Machine.execSwreq path data s
  | .moverRequest line => Sys2Proof.Machine.execMoverRequest line s
  | .notchTimer ch => Sys2Proof.Machine.execNotchTimer ch s
  | .dialTime ch => Sys2Proof.Machine.execDialTime ch s
  | .chain ch => Sys2Proof.Machine.execChain ch s
  | .moverBeats reads => Sys2Proof.Machine.execMoverBeats reads s
  | .descriptorComplete ch next => Sys2Proof.Machine.execDescriptorComplete ch next s
  | .disable path ch => Sys2Proof.Machine.execDisable path ch s
  | .storeProcess entries ecc => Sys2Proof.Machine.execStoreProcess entries ecc s
  | .storeReturn => Sys2Proof.Machine.execStoreReturn s
  | .presentation => Sys2Proof.Machine.execPresentation s
  | .acknowledge core => Sys2Proof.Machine.execAcknowledge core s
  | .sourceComplete src => Sys2Proof.Machine.execSourceComplete src s
  | .hostDelivery src => Sys2Proof.Machine.execHostDelivery src s
  | .hostEoi path src => Sys2Proof.Machine.execHostEoi path src s
  | .swset path data => Sys2Proof.Machine.execSwset path data s
  | .safeHoldEntry => Sys2Proof.Machine.execSafeHoldEntry s
  | .clearReasons path reasons => Sys2Proof.Machine.execClearReasons path reasons s
  | .enterSafeHold path => Sys2Proof.Machine.execEnterSafeHold path s
  | .resetDevice path => Sys2Proof.Machine.execResetDevice path s
  | .remapRegion path stack region => Sys2Proof.Machine.execRemapRegion path stack region s
  | .hbmRemapDone stack region => Sys2Proof.Machine.execHbmRemapDone stack region s
  | .retireBank path bank => Sys2Proof.Machine.execRetireBank path bank s
  | .phaseFail phase clk => Sys2Proof.Machine.execPhaseFail phase clk s
  | .getChallenge path tag role slot => Sys2Proof.Machine.execGetChallenge path tag role slot s
  | .open_ path tag sig => Sys2Proof.Machine.execOpen path tag sig s
  | .close path tag => Sys2Proof.Machine.execClose path tag s
  | .sessionIdleEnd path => Sys2Proof.Machine.execSessionIdleEnd path s
  | .lockoutEnd path => Sys2Proof.Machine.execLockoutEnd path s
  | .enrol path cls slot data write => Sys2Proof.Machine.execEnrol path cls slot data write s
  | .revoke path cls slot write => Sys2Proof.Machine.execRevoke path cls slot write s
  | .journalFlush n write => Sys2Proof.Machine.execJournalFlush n write s
  | .installFw path src data write0 write1 => Sys2Proof.Machine.execInstallFw path src data write0 write1 s
  | .installSet path src data write0 write1 => Sys2Proof.Machine.execInstallSet path src data write0 write1 s
  | .installIdentity path src data write0 write1 => Sys2Proof.Machine.execInstallIdentity path src data write0 write1 s
  | .getIdentity bus tag => Sys2Proof.Machine.execGetIdentity bus tag s
  | .getReport bus tag nonce write => Sys2Proof.Machine.execGetReport bus tag nonce write s
  | .regRead bus tag page off => Sys2Proof.Machine.execRegRead bus tag page off s
  | .regWrite bus tag page off data => Sys2Proof.Machine.execRegWrite bus tag page off data s
  | .stageChunk bus tag off bytes => Sys2Proof.Machine.execStageChunk bus tag off bytes s
  | .pldmFirmwareUpdate bus image write0 write1 => Sys2Proof.Machine.execPldmFirmwareUpdate bus image write0 write1 s
  | .getSensorReading bus id measured => Sys2Proof.Machine.execGetSensorReading bus id measured s
  | .setEventReceiver bus eid => Sys2Proof.Machine.execSetEventReceiver bus eid s
  | .pollForPlatformEvent bus => Sys2Proof.Machine.execPollForPlatformEvent bus s
  | .endpointIdAssigned => Sys2Proof.Machine.execEndpointIdAssigned s
  | .powerOn strap => Sys2Proof.Machine.execPowerOn strap s
  | .undervoltage => Sys2Proof.Machine.execUndervoltage s
  | .rom reads => Sys2Proof.Machine.execRom reads s
  | .firmware slotA slotB => Sys2Proof.Machine.execFirmware slotA slotB s
  | .settings => Sys2Proof.Machine.execSettings s
  | .glens failed => Sys2Proof.Machine.execGlens failed s
  | .service => Sys2Proof.Machine.execService s
  | .swapFw path slot copy => Sys2Proof.Machine.execSwapFw path slot copy s
  | .fwRunning accepts => Sys2Proof.Machine.execFwRunning accepts s
  | .swapTimeout step2 => Sys2Proof.Machine.execSwapTimeout step2 s
  | .commitFw path => Sys2Proof.Machine.execCommitFw path s
  | .revertFw path => Sys2Proof.Machine.execRevertFw path s
  | .trialExpiry => Sys2Proof.Machine.execTrialExpiry s
  | .wdogKick path => Sys2Proof.Machine.execWdogKick path s
  | .watchdogExpiry => Sys2Proof.Machine.execWatchdogExpiry s
  | .updHold path page drop => Sys2Proof.Machine.execUpdHold path page drop s
  | .updRelease path page drop => Sys2Proof.Machine.execUpdRelease path page drop s
  | .read path page m => Sys2Proof.Machine.execRead path page m s
  | .write path page => Sys2Proof.Machine.execWrite path page s
  | .thermalSample temp => Sys2Proof.Machine.execThermalSample temp s
  | .heartbeatArrival glen => Sys2Proof.Machine.execHeartbeatArrival glen s
  | .linkTrainingFail port => Sys2Proof.Machine.execLinkTrainingFail port s
  | .functionWideResetComplete inst => Sys2Proof.Machine.execFunctionWideResetComplete inst s
  | .ncSiReceive present => Sys2Proof.Machine.execNcSiReceive present s
  | .fwHandoverTimeout => Sys2Proof.Machine.execFwHandoverTimeout s
  | .controlCoreDebugHalt core halt => Sys2Proof.Machine.execControlCoreDebugHalt core halt s

end Sys2Proof.Machine
end

