-- ==== Sys2Proof/WellFormed.lean ====
section
/-! DEFINITION. Which commands are well formed: every operand lies in the range that its field, its register or its unit
gives it. `exec` answers a next state for the others too; no statement rests on what it does with them but where it says
so. -/

namespace Sys2Proof

/-- A number below a bound. -/
def lt (bound n : Nat) : Bool := decide (n < bound)

/-- A path names an instance that there is (11 R391). -/
def pathOk : Path → Bool
  | .vf i => lt 4096 i
  | _ => true

/-- A thread of a Glen core, or of a control core (04 R129; 14 R471). -/
def threadOk : ThreadId → Bool
  | .glen g c t => lt 18 g && lt 32 c && lt 8 t
  | .ctrl c => lt 16 c

/-- A command is well formed. -/
def Instr.wellFormed (i : Instr) : Bool :=
  match i with
  | .registerWrite path page off _ _ => pathOk path && lt 8192 page && lt 8192 off
  | .rcRead path page off _ => pathOk path && lt 8192 page && lt 8192 off
  | .errAck path page => pathOk path && lt 8192 page
  | .slewWrite path _ => pathOk path
  | .dialCtrlWrite path _ => pathOk path
  | .servoSample _ => true
  | .ppsInEdge sub_ => lt 64 sub_
  | .todMessage _ => true
  | .stepRel path => pathOk path
  | .setAbs path => pathOk path
  | .notchCountRead path => pathOk path
  | .frameReceive port sub_ _ _ _ => lt 16 port && lt 64 sub_
  | .cellGrant ingress _ => lt 20 ingress
  | .ticketCreate ingress => lt 20 ingress
  | .deal hop => lt 20 hop.num
  | .dispatch hop => lt 16 hop.num
  | .defileArrival glen _ _ => lt 18 glen
  | .holeSkip ingress => lt 20 ingress
  | .admission _ => true
  | .egressRequest egress => lt 20 egress
  | .frameStart egress sub_ _ _ => lt 20 egress && lt 64 sub_
  | .frameComplete egress _ _ => lt 20 egress
  | .ageDrop leaf => lt 131072 leaf
  | .bankRetired bank => lt 32 bank
  | .applyMode path group => pathOk path && lt 2 group
  | .recal path group port => pathOk path && lt 2 group && lt 16 port
  | .linkTrainingStart port => lt 16 port
  | .linkUp port => lt 16 port
  | .linkDown port => lt 16 port
  | .adminDown path port => pathOk path && lt 16 port
  | .fecWindow port _ _ _ => lt 16 port
  | .calDrift port lane _ => lt 16 port && lt 16 lane
  | .pauseReceived port => lt 16 port
  | .pfcReceived port => lt 16 port
  | .pauseTimerExpiry port cls => lt 16 port && lt 8 cls
  | .flowControlSend port => lt 16 port
  | .pfcRefresh port cls => lt 16 port && lt 9 cls
  | .enterStandby path _ => pathOk path
  | .wakeMatch _ _ => true
  | .coreStop glen core => lt 18 glen && lt 32 core
  | .coreRestartAuto glen core => lt 18 glen && lt 32 core
  | .restartCore path phys core => pathOk path && lt 32 phys && lt 32 core
  | .stallAll glen core => lt 18 glen && lt 32 core
  | .stallGlen glen => lt 18 glen
  | .halt path glen => pathOk path && lt 18 glen
  | .gphysResume path glen => pathOk path && lt 18 glen
  | .step path glen => pathOk path && lt 18 glen
  | .abortStage path glen => pathOk path && lt 18 glen
  | .dropTicket path glen => pathOk path && lt 18 glen
  | .break_ glen core thread => lt 18 glen && lt 32 core && lt 8 thread
  | .heartbeatSend glen => lt 18 glen
  | .fillStart slot => lt 16 slot
  | .fillComplete glen => lt 18 glen
  | .fillFail glen => lt 18 glen
  | .stageProg path slot _ => pathOk path && lt 16 slot
  | .handover path slot phys => pathOk path && lt 16 slot && lt 32 phys
  | .handoverDrainEnd slot => lt 16 slot
  | .admitGlen path slot phys => pathOk path && lt 16 slot && lt 32 phys
  | .selftest path phys => pathOk path && lt 32 phys
  | .selftestDone glen _ => lt 18 glen
  | .nop at_ => threadOk at_.thread
  | .add at_ rd ra rb => threadOk at_.thread && lt 32 rd && lt 32 ra && lt 32 rb
  | .sub at_ rd ra rb => threadOk at_.thread && lt 32 rd && lt 32 ra && lt 32 rb
  | .and_ at_ rd ra rb => threadOk at_.thread && lt 32 rd && lt 32 ra && lt 32 rb
  | .or_ at_ rd ra rb => threadOk at_.thread && lt 32 rd && lt 32 ra && lt 32 rb
  | .xor at_ rd ra rb => threadOk at_.thread && lt 32 rd && lt 32 ra && lt 32 rb
  | .shl at_ rd ra rb => threadOk at_.thread && lt 32 rd && lt 32 ra && lt 32 rb
  | .shr at_ rd ra rb => threadOk at_.thread && lt 32 rd && lt 32 ra && lt 32 rb
  | .sar at_ rd ra rb => threadOk at_.thread && lt 32 rd && lt 32 ra && lt 32 rb
  | .mul at_ rd ra rb => threadOk at_.thread && lt 32 rd && lt 32 ra && lt 32 rb
  | .sltu at_ rd ra rb => threadOk at_.thread && lt 32 rd && lt 32 ra && lt 32 rb
  | .slt at_ rd ra rb => threadOk at_.thread && lt 32 rd && lt 32 ra && lt 32 rb
  | .crc32c at_ rd ra rb => threadOk at_.thread && lt 32 rd && lt 32 ra && lt 32 rb
  | .minu at_ rd ra rb => threadOk at_.thread && lt 32 rd && lt 32 ra && lt 32 rb
  | .maxu at_ rd ra rb => threadOk at_.thread && lt 32 rd && lt 32 ra && lt 32 rb
  | .addi at_ rd ra imm => threadOk at_.thread && lt 32 rd && lt 32 ra && lt (2 ^ 32) imm
  | .andi at_ rd ra imm => threadOk at_.thread && lt 32 rd && lt 32 ra && lt (2 ^ 32) imm
  | .ori at_ rd ra imm => threadOk at_.thread && lt 32 rd && lt 32 ra && lt (2 ^ 32) imm
  | .xori at_ rd ra imm => threadOk at_.thread && lt 32 rd && lt 32 ra && lt (2 ^ 32) imm
  | .shli at_ rd ra imm => threadOk at_.thread && lt 32 rd && lt 32 ra && lt (2 ^ 32) imm
  | .shri at_ rd ra imm => threadOk at_.thread && lt 32 rd && lt 32 ra && lt (2 ^ 32) imm
  | .sari at_ rd ra imm => threadOk at_.thread && lt 32 rd && lt 32 ra && lt (2 ^ 32) imm
  | .movi at_ rd imm => threadOk at_.thread && lt 32 rd && lt (2 ^ 32) imm
  | .movhi at_ rd imm => threadOk at_.thread && lt 32 rd && lt (2 ^ 32) imm
  | .ext at_ rd ra imm => threadOk at_.thread && lt 32 rd && lt 32 ra && lt (2 ^ 32) imm
  | .ins at_ rd ra imm => threadOk at_.thread && lt 32 rd && lt 32 ra && lt (2 ^ 32) imm
  | .bcc at_ ra rb mod imm => threadOk at_.thread && lt 32 ra && lt 32 rb && lt 16 mod && lt (2 ^ 32) imm
  | .jmp at_ imm => threadOk at_.thread && lt (2 ^ 32) imm
  | .call at_ rd imm => threadOk at_.thread && lt 32 rd && lt (2 ^ 32) imm
  | .jr at_ ra => threadOk at_.thread && lt 32 ra
  | .ld at_ rd ra mod imm => threadOk at_.thread && lt 32 rd && lt 32 ra && lt 16 mod && lt (2 ^ 32) imm
  | .st at_ ra rb mod imm => threadOk at_.thread && lt 32 ra && lt 32 rb && lt 16 mod && lt (2 ^ 32) imm
  | .amoadd at_ rd ra rb imm => threadOk at_.thread && lt 32 rd && lt 32 ra && lt 32 rb && lt (2 ^ 32) imm
  | .scratchReply thread => threadOk thread
  | .wld at_ rd ra mod imm => threadOk at_.thread && lt 32 rd && lt 32 ra && lt 16 mod && lt (2 ^ 32) imm
  | .wst at_ rd ra rb mod imm => threadOk at_.thread && lt 32 rd && lt 32 ra && lt 32 rb && lt 16 mod && lt (2 ^ 32) imm
  | .wpush at_ rd ra imm => threadOk at_.thread && lt 32 rd && lt 32 ra && lt (2 ^ 32) imm
  | .wpushs at_ rd ra rb imm => threadOk at_.thread && lt 32 rd && lt 32 ra && lt 32 rb && lt (2 ^ 32) imm
  | .wpop at_ rd ra imm => threadOk at_.thread && lt 32 rd && lt 32 ra && lt (2 ^ 32) imm
  | .wcpy at_ rd ra rb imm => threadOk at_.thread && lt 32 rd && lt 32 ra && lt 32 rb && lt (2 ^ 32) imm
  | .tld at_ rd imm => threadOk at_.thread && lt 32 rd && lt (2 ^ 32) imm
  | .tst at_ ra imm => threadOk at_.thread && lt 32 ra && lt (2 ^ 32) imm
  | .tldq at_ rd imm => threadOk at_.thread && lt 32 rd && lt (2 ^ 32) imm
  | .stat at_ rd => threadOk at_.thread && lt 32 rd
  | .chwr at_ rb imm => threadOk at_.thread && lt 32 rb && lt (2 ^ 32) imm
  | .chcommit at_ => threadOk at_.thread
  | .chrd at_ rd cnt imm => threadOk at_.thread && lt 32 rd && lt 32 cnt && lt (2 ^ 32) imm
  | .chtry at_ rd cnt imm => threadOk at_.thread && lt 32 rd && lt 32 cnt && lt (2 ^ 32) imm
  | .lkacq at_ ra imm => threadOk at_.thread && lt 32 ra && lt (2 ^ 32) imm
  | .lkrel at_ ra imm => threadOk at_.thread && lt 32 ra && lt (2 ^ 32) imm
  | .lktry at_ rd ra imm => threadOk at_.thread && lt 32 rd && lt 32 ra && lt (2 ^ 32) imm
  | .evpost at_ imm => threadOk at_.thread && lt (2 ^ 32) imm
  | .evwait at_ => threadOk at_.thread
  | .flook at_ rd ra cnt imm _ => threadOk at_.thread && lt 32 rd && lt 32 ra && lt 32 cnt && lt (2 ^ 32) imm
  | .rlook at_ rd ra mod _ => threadOk at_.thread && lt 32 rd && lt 32 ra && lt 16 mod
  | .mlook at_ rd ra _ => threadOk at_.thread && lt 32 rd && lt 32 ra
  | .mlearn at_ rd ra rb _ => threadOk at_.thread && lt 32 rd && lt 32 ra && lt 32 rb
  | .rule at_ rd ra cnt imm _ => threadOk at_.thread && lt 32 rd && lt 32 ra && lt 32 cnt && lt (2 ^ 32) imm
  | .tableReply thread => threadOk thread
  | .emit at_ => threadOk at_.thread
  | .trap at_ imm => threadOk at_.thread && lt (2 ^ 32) imm
  | .csrr at_ rd imm => threadOk at_.thread && lt 32 rd && lt (2 ^ 32) imm
  | .csrw at_ ra imm => threadOk at_.thread && lt 32 ra && lt (2 ^ 32) imm
  | .swint at_ ra => threadOk at_.thread && lt 32 ra
  | .mreq at_ ra => threadOk at_.thread && lt 32 ra
  | .eret at_ => threadOk at_.thread
  | .wfi at_ => threadOk at_.thread
  | .mld at_ rd ra mod imm => threadOk at_.thread && lt 32 rd && lt 32 ra && lt 16 mod && lt (2 ^ 32) imm
  | .mst at_ ra rb mod imm => threadOk at_.thread && lt 32 ra && lt 32 rb && lt 16 mod && lt (2 ^ 32) imm
  | .fence at_ => threadOk at_.thread
  | .coreTimer core => lt 16 core
  | .insert path table => pathOk path && lt 32 table
  | .replace path table => pathOk path && lt 32 table
  | .delete path table => pathOk path && lt 32 table
  | .find path table => pathOk path && lt 32 table
  | .deleteIndex path table => pathOk path && lt 32 table
  | .rebuildBegin path table => pathOk path && lt 32 table
  | .migrate path table => pathOk path && lt 32 table
  | .switch path table => pathOk path && lt 32 table
  | .flush path table => pathOk path && lt 32 table
  | .attachLeaf path leaf node => pathOk path && lt 131072 leaf && lt 32768 node
  | .attachNode path node egress cls => pathOk path && lt 32768 node && lt 20 egress && lt 8 cls
  | .detachLeaf path leaf => pathOk path && lt 131072 leaf
  | .detachNode path node => pathOk path && lt 32768 node
  | .gateSwitch path port cls => pathOk path && lt 16 port && lt 8 cls
  | .gateSwitched port cls => lt 16 port && lt 8 cls
  | .doorbell inst ring _ _ _ _ => lt 4096 inst && lt 8192 ring
  | .txChainServe _ _ => true
  | .txCompletion ring => lt 8192 ring
  | .rxHoldStart ring => lt 8192 ring
  | .rxNobuf ring => lt 8192 ring
  | .interruptRaise ring => lt 8192 ring
  | .retrain path _ => pathOk path
  | .hostLinkUp _ speed width _ => lt 6 speed && lt 3 width
  | .hostLinkDown _ => true
  | .perstAssert _ => true
  | .perstRelease _ => true
  | .configRequest fn _ => lt 4100 fn
  | .pfFlr fn => lt 4 fn
  | .vfFlr inst => lt 4096 inst
  | .activate path inst => pathOk path && lt 4096 inst
  | .quiesce path inst => pathOk path && lt 4096 inst
  | .quiesceDrainDone inst => lt 4096 inst
  | .quiesceForced inst => lt 4096 inst
  | .resume path inst => pathOk path && lt 4096 inst
  | .freeze path inst => pathOk path && lt 4096 inst
  | .thaw path inst => pathOk path && lt 4096 inst
  | .save path inst => pathOk path && lt 4096 inst
  | .saveComplete inst _ => lt 4096 inst
  | .restore path inst => pathOk path && lt 4096 inst
  | .restoreComplete inst _ _ => lt 4096 inst
  | .reset path inst => pathOk path && lt 4096 inst
  | .remove path inst => pathOk path && lt 4096 inst
  | .harvest path inst => pathOk path && lt 4096 inst
  | .harvestComplete inst _ => lt 4096 inst
  | .loadKey path sa => pathOk path && lt 1048576 sa
  | .clearKey path sa => pathOk path && lt 1048576 sa
  | .popEvt path => pathOk path
  | .cryptoProcess _ _ => true
  | .start path ch _ => pathOk path && lt 64 ch
  | .clear path ch => pathOk path && lt 64 ch
  | .swreq path _ => pathOk path
  | .moverRequest line => lt 128 line
  | .notchTimer ch => lt 64 ch
  | .dialTime ch => lt 64 ch
  | .chain ch => lt 64 ch
  | .moverBeats _ => true
  | .descriptorComplete ch _ => lt 64 ch
  | .disable path ch => pathOk path && lt 64 ch
  | .storeProcess _ _ => true
  | .acknowledge core => lt 16 core
  | .sourceComplete src => lt 2048 src
  | .hostDelivery src => lt 2048 src
  | .hostEoi path src => pathOk path && lt 2048 src
  | .swset path _ => pathOk path
  | .clearReasons path reasons => pathOk path && lt 1024 reasons
  | .enterSafeHold path => pathOk path
  | .resetDevice path => pathOk path
  | .remapRegion path stack region => pathOk path && lt 2 stack && lt 11904 region
  | .hbmRemapDone stack region => lt 2 stack && lt 11904 region
  | .retireBank path bank => pathOk path && lt 32 bank
  | .phaseFail phase clk => lt 12 phase && lt 17 clk
  | .getChallenge path tag role slot => pathOk path && lt 256 tag && lt 4 role && lt 16 slot
  | .open_ path tag _ => pathOk path && lt 256 tag
  | .close path tag => pathOk path && lt 256 tag
  | .sessionIdleEnd path => pathOk path
  | .lockoutEnd path => pathOk path
  | .enrol path cls slot _ _ => pathOk path && lt 4 cls && lt 16 slot
  | .revoke path cls slot _ => pathOk path && lt 4 cls && lt 16 slot
  | .journalFlush _ _ => true
  | .installFw path src _ _ _ => pathOk path && lt 2 src
  | .installSet path src _ _ _ => pathOk path && lt 2 src
  | .installIdentity path src _ _ _ => pathOk path && lt 2 src
  | .getIdentity _ tag => lt 256 tag
  | .getReport _ tag _ _ => lt 256 tag
  | .regRead _ tag page off => lt 256 tag && lt 8192 page && lt 4096 off
  | .regWrite _ tag page off _ => lt 256 tag && lt 8192 page && lt 4096 off
  | .stageChunk _ tag off _ => lt 256 tag && lt (2 ^ 24) off
  | .pldmFirmwareUpdate _ _ _ _ => true
  | .getSensorReading _ id _ => lt 256 id
  | .setEventReceiver _ eid => lt 256 eid
  | .pollForPlatformEvent _ => true
  | .powerOn strap => lt 4 strap
  | .rom _ => true
  | .firmware _ _ => true
  | .glens _ => true
  | .swapFw path slot _ => pathOk path && lt 2 slot
  | .fwRunning _ => true
  | .swapTimeout _ => true
  | .commitFw path => pathOk path
  | .revertFw path => pathOk path
  | .wdogKick path => pathOk path
  | .updHold path page _ => pathOk path && lt 8192 page
  | .updRelease path page _ => pathOk path && lt 8192 page
  | .read path page _ => pathOk path && lt 8192 page
  | .write path page => pathOk path && lt 8192 page
  | .thermalSample _ => true
  | .heartbeatArrival glen => lt 18 glen
  | .linkTrainingFail port => lt 16 port
  | .functionWideResetComplete inst => lt 4096 inst
  | .ncSiReceive _ => true
  | .controlCoreDebugHalt core _ => lt 16 core
  | .notchTick => true
  | .srcTimeout => true
  | .holdoverEnd => true
  | .ppsMissed => true
  | .ppsOutRise => true
  | .ppsOutFall => true
  | .defileSkipLost => true
  | .basinAgeSweep => true
  | .wakeReleaseTimeout => true
  | .heartbeatCheck => true
  | .tableCmdComplete => true
  | .tableAgeSweep => true
  | .gateEval => true
  | .refill => true
  | .ledgerSnapshot => true
  | .ledgerRecordWrite => true
  | .ledgerLate => true
  | .cryptoReturn => true
  | .storeReturn => true
  | .presentation => true
  | .safeHoldEntry => true
  | .endpointIdAssigned => true
  | .undervoltage => true
  | .settings => true
  | .service => true
  | .trialExpiry => true
  | .watchdogExpiry => true
  | .fwHandoverTimeout => true

end Sys2Proof
end

