-- ==== Sys2Proof/Safety.lean ====
section
/-! DEFINITION. What counts as a run of the block: plain data in its one form, and the order in which the events of a Notch
are given to it (spec/01_dial_and_notch.md R50, R51). -/

namespace Sys2Proof

/-- The level at which a request of a host's configuration space acts: its writes, those of the MSI-X masks among them, are
configuration writes (10 R385; 01 R50). -/
def ConfigOp.level (op : ConfigOp) : Nat :=
  match op with
  | .write .. => 7
  | .msixControl .. => 7
  | .msixEntry .. => 7
  | .corrected _ => 3
  | .read _ => 5
  | .msixRead _ => 5

/-- The level of R50 at which a command acts in its Notch, 1 the highest; 8 for the end of an idle session, which an access of
the same Notch keeps open (16 R554), and 9 for the boundary that ends the Notch. -/
def Instr.level (i : Instr) : Nat :=
  match i with
  | .registerWrite .. => 7
  | .rcRead .. => 7
  | .errAck .. => 7
  | .slewWrite .. => 7
  | .dialCtrlWrite .. => 7
  | .servoSample .. => 5
  | .ppsInEdge .. => 5
  | .todMessage .. => 5
  | .stepRel .. => 7
  | .setAbs .. => 7
  | .notchCountRead .. => 7
  | .frameReceive .. => 5
  | .cellGrant .. => 5
  | .ticketCreate .. => 5
  | .deal .. => 5
  | .dispatch .. => 5
  | .defileArrival .. => 5
  | .holeSkip .. => 6
  | .admission .. => 5
  | .egressRequest .. => 5
  | .frameStart .. => 5
  | .frameComplete .. => 5
  | .ageDrop .. => 6
  | .bankRetired .. => 3
  | .applyMode .. => 7
  | .recal .. => 7
  | .linkTrainingStart .. => 5
  | .linkUp .. => 5
  | .linkDown .. => 3
  | .adminDown .. => 7
  | .fecWindow .. => 3
  | .calDrift .. => 3
  | .pauseReceived .. => 5
  | .pfcReceived .. => 5
  | .pauseTimerExpiry .. => 6
  | .flowControlSend .. => 5
  | .pfcRefresh .. => 6
  | .enterStandby .. => 7
  | .wakeMatch .. => 2
  | .coreStop .. => 3
  | .coreRestartAuto .. => 4
  | .restartCore .. => 7
  | .stallAll .. => 3
  | .stallGlen .. => 3
  | .halt .. => 7
  | .gphysResume .. => 7
  | .step .. => 7
  | .abortStage .. => 7
  | .dropTicket .. => 7
  | .break_ .. => 5
  | .heartbeatSend .. => 6
  | .fillStart .. => 4
  | .fillComplete .. => 3
  | .fillFail .. => 3
  | .stageProg .. => 7
  | .handover .. => 7
  | .handoverDrainEnd .. => 4
  | .admitGlen .. => 7
  | .selftest .. => 7
  | .selftestDone .. => 4
  | .nop .. => 5
  | .add .. => 5
  | .sub .. => 5
  | .and_ .. => 5
  | .or_ .. => 5
  | .xor .. => 5
  | .shl .. => 5
  | .shr .. => 5
  | .sar .. => 5
  | .mul .. => 5
  | .sltu .. => 5
  | .slt .. => 5
  | .crc32c .. => 5
  | .minu .. => 5
  | .maxu .. => 5
  | .addi .. => 5
  | .andi .. => 5
  | .ori .. => 5
  | .xori .. => 5
  | .shli .. => 5
  | .shri .. => 5
  | .sari .. => 5
  | .movi .. => 5
  | .movhi .. => 5
  | .ext .. => 5
  | .ins .. => 5
  | .bcc .. => 5
  | .jmp .. => 5
  | .call .. => 5
  | .jr .. => 5
  | .ld .. => 5
  | .st .. => 5
  | .amoadd .. => 5
  | .scratchReply .. => 5
  | .wld .. => 5
  | .wst .. => 5
  | .wpush .. => 5
  | .wpushs .. => 5
  | .wpop .. => 5
  | .wcpy .. => 5
  | .tld .. => 5
  | .tst .. => 5
  | .tldq .. => 5
  | .stat .. => 5
  | .chwr .. => 5
  | .chcommit .. => 5
  | .chrd .. => 5
  | .chtry .. => 5
  | .lkacq .. => 5
  | .lkrel .. => 5
  | .lktry .. => 5
  | .evpost .. => 5
  | .evwait .. => 5
  | .flook .. => 5
  | .rlook .. => 5
  | .mlook .. => 5
  | .mlearn .. => 5
  | .rule .. => 5
  | .tableReply .. => 5
  | .emit .. => 5
  | .trap .. => 5
  | .csrr .. => 5
  | .csrw .. => 5
  | .swint .. => 5
  | .mreq .. => 5
  | .eret .. => 5
  | .wfi .. => 5
  | .mld .. => 5
  | .mst .. => 5
  | .fence .. => 5
  | .coreTimer .. => 5
  | .insert .. => 7
  | .replace .. => 7
  | .delete .. => 7
  | .find .. => 7
  | .deleteIndex .. => 7
  | .rebuildBegin .. => 7
  | .migrate .. => 7
  | .switch .. => 7
  | .flush .. => 7
  | .attachLeaf .. => 7
  | .attachNode .. => 7
  | .detachLeaf .. => 7
  | .detachNode .. => 7
  | .gateSwitch .. => 7
  | .gateSwitched .. => 6
  | .doorbell .. => 5
  | .txChainServe .. => 5
  | .txCompletion .. => 5
  | .rxHoldStart .. => 5
  | .rxNobuf .. => 6
  | .interruptRaise .. => 5
  | .retrain .. => 7
  | .hostLinkUp .. => 5
  | .hostLinkDown .. => 3
  | .perstAssert .. => 2
  | .perstRelease .. => 2
  | .configRequest _ op => op.level
  | .pfFlr .. => 2
  | .vfFlr .. => 2
  | .activate .. => 7
  | .quiesce .. => 7
  | .quiesceDrainDone .. => 4
  | .quiesceForced .. => 4
  | .resume .. => 7
  | .freeze .. => 7
  | .thaw .. => 7
  | .save .. => 7
  | .saveComplete .. => 4
  | .restore .. => 7
  | .restoreComplete .. => 4
  | .reset .. => 7
  | .remove .. => 7
  | .harvest .. => 7
  | .harvestComplete .. => 4
  | .loadKey .. => 7
  | .clearKey .. => 7
  | .popEvt .. => 7
  | .cryptoProcess .. => 5
  | .start .. => 7
  | .clear .. => 7
  | .swreq .. => 7
  | .moverRequest .. => 5
  | .notchTimer .. => 6
  | .dialTime .. => 6
  | .chain .. => 5
  | .moverBeats .. => 5
  | .descriptorComplete .. => 5
  | .disable .. => 7
  | .storeProcess .. => 5
  | .acknowledge .. => 5
  | .sourceComplete .. => 5
  | .hostDelivery .. => 5
  | .hostEoi .. => 7
  | .swset .. => 7
  | .clearReasons .. => 7
  | .enterSafeHold .. => 7
  | .resetDevice .. => 7
  | .remapRegion .. => 7
  | .hbmRemapDone .. => 3
  | .retireBank .. => 7
  | .phaseFail .. => 1
  | .getChallenge .. => 7
  | .open_ .. => 7
  | .close .. => 7
  | .sessionIdleEnd .. => 8
  | .lockoutEnd .. => 6
  | .enrol .. => 7
  | .revoke .. => 7
  | .journalFlush .. => 6
  | .installFw .. => 7
  | .installSet .. => 7
  | .installIdentity .. => 7
  | .getIdentity .. => 7
  | .getReport .. => 7
  | .regRead .. => 7
  | .regWrite .. => 7
  | .stageChunk .. => 7
  | .pldmFirmwareUpdate .. => 7
  | .getSensorReading .. => 7
  | .setEventReceiver .. => 7
  | .pollForPlatformEvent .. => 7
  | .powerOn .. => 1
  | .rom .. => 2
  | .firmware .. => 2
  | .glens .. => 2
  | .swapFw .. => 7
  | .fwRunning .. => 2
  | .swapTimeout .. => 6
  | .commitFw .. => 7
  | .revertFw .. => 7
  | .wdogKick .. => 7
  | .updHold .. => 7
  | .updRelease .. => 7
  | .read .. => 7
  | .write .. => 7
  | .thermalSample .. => 1
  | .heartbeatArrival .. => 5
  | .linkTrainingFail .. => 3
  | .functionWideResetComplete .. => 2
  | .ncSiReceive .. => 5
  | .controlCoreDebugHalt .. => 5
  | .notchTick => 9
  | .srcTimeout => 6
  | .holdoverEnd => 6
  | .ppsMissed => 6
  | .ppsOutRise => 6
  | .ppsOutFall => 6
  | .defileSkipLost => 6
  | .basinAgeSweep => 6
  | .wakeReleaseTimeout => 2
  | .heartbeatCheck => 6
  | .tableCmdComplete => 6
  | .tableAgeSweep => 6
  | .gateEval => 6
  | .refill => 6
  | .ledgerSnapshot => 6
  | .ledgerRecordWrite => 6
  | .ledgerLate => 6
  | .cryptoReturn => 5
  | .storeReturn => 5
  | .presentation => 5
  | .safeHoldEntry => 1
  | .endpointIdAssigned => 5
  | .undervoltage => 1
  | .settings => 2
  | .service => 2
  | .trialExpiry => 6
  | .watchdogExpiry => 6
  | .fwHandoverTimeout => 6

/-- The path over which a command that is a register access, or a management request, comes; none for an event of the device
or of its pins and links. -/
def Instr.source (i : Instr) : Option Path :=
  match i with
  | .registerWrite p _ _ _ _ => some p
  | .rcRead p _ _ _ => some p
  | .errAck p _ => some p
  | .slewWrite p _ => some p
  | .dialCtrlWrite p _ => some p
  | .servoSample .. => none
  | .ppsInEdge .. => none
  | .todMessage .. => none
  | .stepRel p => some p
  | .setAbs p => some p
  | .notchCountRead p => some p
  | .frameReceive .. => none
  | .cellGrant .. => none
  | .ticketCreate .. => none
  | .deal .. => none
  | .dispatch .. => none
  | .defileArrival .. => none
  | .holeSkip .. => none
  | .admission .. => none
  | .egressRequest .. => none
  | .frameStart .. => none
  | .frameComplete .. => none
  | .ageDrop .. => none
  | .bankRetired .. => none
  | .applyMode p _ => some p
  | .recal p _ _ => some p
  | .linkTrainingStart .. => none
  | .linkUp .. => none
  | .linkDown .. => none
  | .adminDown p _ => some p
  | .fecWindow .. => none
  | .calDrift .. => none
  | .pauseReceived .. => none
  | .pfcReceived .. => none
  | .pauseTimerExpiry .. => none
  | .flowControlSend .. => none
  | .pfcRefresh .. => none
  | .enterStandby p _ => some p
  | .wakeMatch .. => none
  | .coreStop .. => none
  | .coreRestartAuto .. => none
  | .restartCore p _ _ => some p
  | .stallAll .. => none
  | .stallGlen .. => none
  | .halt p _ => some p
  | .gphysResume p _ => some p
  | .step p _ => some p
  | .abortStage p _ => some p
  | .dropTicket p _ => some p
  | .break_ .. => none
  | .heartbeatSend .. => none
  | .fillStart .. => none
  | .fillComplete .. => none
  | .fillFail .. => none
  | .stageProg p _ _ => some p
  | .handover p _ _ => some p
  | .handoverDrainEnd .. => none
  | .admitGlen p _ _ => some p
  | .selftest p _ => some p
  | .selftestDone .. => none
  | .nop .. => none
  | .add .. => none
  | .sub .. => none
  | .and_ .. => none
  | .or_ .. => none
  | .xor .. => none
  | .shl .. => none
  | .shr .. => none
  | .sar .. => none
  | .mul .. => none
  | .sltu .. => none
  | .slt .. => none
  | .crc32c .. => none
  | .minu .. => none
  | .maxu .. => none
  | .addi .. => none
  | .andi .. => none
  | .ori .. => none
  | .xori .. => none
  | .shli .. => none
  | .shri .. => none
  | .sari .. => none
  | .movi .. => none
  | .movhi .. => none
  | .ext .. => none
  | .ins .. => none
  | .bcc .. => none
  | .jmp .. => none
  | .call .. => none
  | .jr .. => none
  | .ld .. => none
  | .st .. => none
  | .amoadd .. => none
  | .scratchReply .. => none
  | .wld .. => none
  | .wst .. => none
  | .wpush .. => none
  | .wpushs .. => none
  | .wpop .. => none
  | .wcpy .. => none
  | .tld .. => none
  | .tst .. => none
  | .tldq .. => none
  | .stat .. => none
  | .chwr .. => none
  | .chcommit .. => none
  | .chrd .. => none
  | .chtry .. => none
  | .lkacq .. => none
  | .lkrel .. => none
  | .lktry .. => none
  | .evpost .. => none
  | .evwait .. => none
  | .flook .. => none
  | .rlook .. => none
  | .mlook .. => none
  | .mlearn .. => none
  | .rule .. => none
  | .tableReply .. => none
  | .emit .. => none
  | .trap .. => none
  | .csrr .. => none
  | .csrw .. => none
  | .swint .. => none
  | .mreq .. => none
  | .eret .. => none
  | .wfi .. => none
  | .mld .. => none
  | .mst .. => none
  | .fence .. => none
  | .coreTimer .. => none
  | .insert p _ => some p
  | .replace p _ => some p
  | .delete p _ => some p
  | .find p _ => some p
  | .deleteIndex p _ => some p
  | .rebuildBegin p _ => some p
  | .migrate p _ => some p
  | .switch p _ => some p
  | .flush p _ => some p
  | .attachLeaf p _ _ => some p
  | .attachNode p _ _ _ => some p
  | .detachLeaf p _ => some p
  | .detachNode p _ => some p
  | .gateSwitch p _ _ => some p
  | .gateSwitched .. => none
  | .doorbell .. => none
  | .txChainServe .. => none
  | .txCompletion .. => none
  | .rxHoldStart .. => none
  | .rxNobuf .. => none
  | .interruptRaise .. => none
  | .retrain p _ => some p
  | .hostLinkUp .. => none
  | .hostLinkDown .. => none
  | .perstAssert .. => none
  | .perstRelease .. => none
  | .configRequest .. => none
  | .pfFlr .. => none
  | .vfFlr .. => none
  | .activate p _ => some p
  | .quiesce p _ => some p
  | .quiesceDrainDone .. => none
  | .quiesceForced .. => none
  | .resume p _ => some p
  | .freeze p _ => some p
  | .thaw p _ => some p
  | .save p _ => some p
  | .saveComplete .. => none
  | .restore p _ => some p
  | .restoreComplete .. => none
  | .reset p _ => some p
  | .remove p _ => some p
  | .harvest p _ => some p
  | .harvestComplete .. => none
  | .loadKey p _ => some p
  | .clearKey p _ => some p
  | .popEvt p => some p
  | .cryptoProcess .. => none
  | .start p _ _ => some p
  | .clear p _ => some p
  | .swreq p _ => some p
  | .moverRequest .. => none
  | .notchTimer .. => none
  | .dialTime .. => none
  | .chain .. => none
  | .moverBeats .. => none
  | .descriptorComplete .. => none
  | .disable p _ => some p
  | .storeProcess .. => none
  | .acknowledge .. => none
  | .sourceComplete .. => none
  | .hostDelivery .. => none
  | .hostEoi p _ => some p
  | .swset p _ => some p
  | .clearReasons p _ => some p
  | .enterSafeHold p => some p
  | .resetDevice p => some p
  | .remapRegion p _ _ => some p
  | .hbmRemapDone .. => none
  | .retireBank p _ => some p
  | .phaseFail .. => none
  | .getChallenge p _ _ _ => some p
  | .open_ p _ _ => some p
  | .close p _ => some p
  | .sessionIdleEnd .. => none
  | .lockoutEnd .. => none
  | .enrol p _ _ _ _ => some p
  | .revoke p _ _ _ => some p
  | .journalFlush .. => none
  | .installFw p _ _ _ _ => some p
  | .installSet p _ _ _ _ => some p
  | .installIdentity p _ _ _ _ => some p
  | .getIdentity b _ => some (.mctp b)
  | .getReport b _ _ _ => some (.mctp b)
  | .regRead b _ _ _ => some (.mctp b)
  | .regWrite b _ _ _ _ => some (.mctp b)
  | .stageChunk b _ _ _ => some (.mctp b)
  | .pldmFirmwareUpdate b _ _ _ => some (.mctp b)
  | .getSensorReading b _ _ => some (.mctp b)
  | .setEventReceiver b _ => some (.mctp b)
  | .pollForPlatformEvent b => some (.mctp b)
  | .powerOn .. => none
  | .rom .. => none
  | .firmware .. => none
  | .glens .. => none
  | .swapFw p _ _ => some p
  | .fwRunning .. => none
  | .swapTimeout .. => none
  | .commitFw p => some p
  | .revertFw p => some p
  | .wdogKick p => some p
  | .updHold p _ _ => some p
  | .updRelease p _ _ => some p
  | .read p _ _ => some p
  | .write p _ => some p
  | .thermalSample .. => none
  | .heartbeatArrival .. => none
  | .linkTrainingFail .. => none
  | .functionWideResetComplete .. => none
  | .ncSiReceive .. => none
  | .controlCoreDebugHalt .. => none
  | .notchTick => none
  | .srcTimeout => none
  | .holdoverEnd => none
  | .ppsMissed => none
  | .ppsOutRise => none
  | .ppsOutFall => none
  | .defileSkipLost => none
  | .basinAgeSweep => none
  | .wakeReleaseTimeout => none
  | .heartbeatCheck => none
  | .tableCmdComplete => none
  | .tableAgeSweep => none
  | .gateEval => none
  | .refill => none
  | .ledgerSnapshot => none
  | .ledgerRecordWrite => none
  | .ledgerLate => none
  | .cryptoReturn => none
  | .storeReturn => none
  | .presentation => none
  | .safeHoldEntry => none
  | .endpointIdAssigned => none
  | .undervoltage => none
  | .settings => none
  | .service => none
  | .trialExpiry => none
  | .watchdogExpiry => none
  | .fwHandoverTimeout => none

/-- A command's turns among those of its level, in the Basin, at the rings and in the Event Concentrator; 0 where the spec gives it
none there. -/
structure Turns where
  basin : Nat := 0
  ring : Nat := 0
  event : Nat := 0
deriving DecidableEq, Repr

/-- The turns that the spec gives within level 5: in the Basin frame completions, starts, admissions and cell grants (08 R308); at the
rings completion writes, doorbells, starts from a hold and vectors (10 R367, R378, R384); in the Concentrator acknowledges,
completions, edge requests and assignment (14 R490). -/
def Instr.turns (i : Instr) : Turns :=
  match i with
  | .frameComplete .. => { basin := 1, ring := 1 }
  | .frameStart .. => { basin := 2 }
  | .admission .. => { basin := 3 }
  | .cellGrant .. => { basin := 4 }
  | .txCompletion .. => { ring := 1 }
  | .txChainServe .. => { ring := 1 }
  | .doorbell .. => { ring := 2 }
  | .rxHoldStart .. => { ring := 3 }
  | .interruptRaise .. => { ring := 4 }
  | .acknowledge .. => { event := 1 }
  | .sourceComplete .. => { event := 2 }
  | .ppsInEdge .. => { event := 3 }
  | .coreTimer .. => { event := 3 }
  | .descriptorComplete .. => { event := 3 }
  | .presentation => { event := 4 }
  | .hostDelivery .. => { event := 4 }
  | _ => { }

/-- A turn is not before one already taken. -/
def inTurn (latest mine : Nat) : Bool := mine == 0 || decide (latest ≤ mine)

/-- Turns `t` come no earlier than the latest taken, and the latest once they are taken. -/
def Turns.allows (latest t : Turns) : Bool :=
  inTurn latest.basin t.basin && inTurn latest.ring t.ring && inTurn latest.event t.event
def Turns.after (latest t : Turns) : Turns :=
  { basin := max latest.basin t.basin, ring := max latest.ring t.ring, event := max latest.event t.event }

/-- Commands in an order that R50 and the turns of level 5 allow, after a command of a level and of the latest turns taken: within a
Notch the levels never fall, nor do the turns, and a boundary ends the Notch. -/
def orderlyFrom (level : Nat) (turns : Turns) : List Instr → Bool
  | [] => true
  | i :: rest =>
    if i.level = 9 then orderlyFrom 0 { } rest
    else decide (level ≤ i.level) && turns.allows i.turns && orderlyFrom i.level (turns.after i.turns) rest

/-- Commands in an order that R50, R51, 08 R308, 10 R367, R378 and R384, and 14 R490 allow. -/
def orderly (l : List Instr) : Bool := orderlyFrom 0 { } l

/-- The issue of an instruction row, and the instruction's word by the tables of R181 to R205; none for the other rows. -/
def Instr.coded (c : Instr) : Option (Issue × Word) :=
  match c with
  | .nop i => some (i, Machine.insWord 0x01)
  | .add i rd ra rb => some (i, Machine.insWord 0x10 rd ra rb)
  | .sub i rd ra rb => some (i, Machine.insWord 0x11 rd ra rb)
  | .and_ i rd ra rb => some (i, Machine.insWord 0x12 rd ra rb)
  | .or_ i rd ra rb => some (i, Machine.insWord 0x13 rd ra rb)
  | .xor i rd ra rb => some (i, Machine.insWord 0x14 rd ra rb)
  | .shl i rd ra rb => some (i, Machine.insWord 0x15 rd ra rb)
  | .shr i rd ra rb => some (i, Machine.insWord 0x16 rd ra rb)
  | .sar i rd ra rb => some (i, Machine.insWord 0x17 rd ra rb)
  | .mul i rd ra rb => some (i, Machine.insWord 0x18 rd ra rb)
  | .sltu i rd ra rb => some (i, Machine.insWord 0x19 rd ra rb)
  | .slt i rd ra rb => some (i, Machine.insWord 0x1A rd ra rb)
  | .crc32c i rd ra rb => some (i, Machine.insWord 0x1B rd ra rb)
  | .minu i rd ra rb => some (i, Machine.insWord 0x1C rd ra rb)
  | .maxu i rd ra rb => some (i, Machine.insWord 0x1D rd ra rb)
  | .addi i rd ra imm => some (i, Machine.insWord 0x20 rd ra 0 0 0 imm)
  | .andi i rd ra imm => some (i, Machine.insWord 0x21 rd ra 0 0 0 imm)
  | .ori i rd ra imm => some (i, Machine.insWord 0x22 rd ra 0 0 0 imm)
  | .xori i rd ra imm => some (i, Machine.insWord 0x23 rd ra 0 0 0 imm)
  | .shli i rd ra imm => some (i, Machine.insWord 0x24 rd ra 0 0 0 imm)
  | .shri i rd ra imm => some (i, Machine.insWord 0x25 rd ra 0 0 0 imm)
  | .sari i rd ra imm => some (i, Machine.insWord 0x26 rd ra 0 0 0 imm)
  | .movi i rd imm => some (i, Machine.insWord 0x27 rd 0 0 0 0 imm)
  | .movhi i rd imm => some (i, Machine.insWord 0x28 rd 0 0 0 0 imm)
  | .ext i rd ra imm => some (i, Machine.insWord 0x29 rd ra 0 0 0 imm)
  | .ins i rd ra imm => some (i, Machine.insWord 0x2A rd ra 0 0 0 imm)
  | .bcc i ra rb mod imm => some (i, Machine.insWord 0x30 0 ra rb mod 0 imm)
  | .jmp i imm => some (i, Machine.insWord 0x31 0 0 0 0 0 imm)
  | .call i rd imm => some (i, Machine.insWord 0x32 rd 0 0 0 0 imm)
  | .jr i ra => some (i, Machine.insWord 0x33 0 ra)
  | .ld i rd ra mod imm => some (i, Machine.insWord 0x40 rd ra 0 mod 0 imm)
  | .st i ra rb mod imm => some (i, Machine.insWord 0x41 0 ra rb mod 0 imm)
  | .amoadd i rd ra rb imm => some (i, Machine.insWord 0x42 rd ra rb 3 0 imm)
  | .wld i rd ra mod imm => some (i, Machine.insWord 0x50 rd ra 0 mod 0 imm)
  | .wst i rd ra rb mod imm => some (i, Machine.insWord 0x51 rd ra rb mod 0 imm)
  | .wpush i rd ra imm => some (i, Machine.insWord 0x52 rd ra 0 0 0 imm)
  | .wpushs i rd ra rb imm => some (i, Machine.insWord 0x53 rd ra rb 0 0 imm)
  | .wpop i rd ra imm => some (i, Machine.insWord 0x54 rd ra 0 0 0 imm)
  | .wcpy i rd ra rb imm => some (i, Machine.insWord 0x55 rd ra rb 0 0 imm)
  | .tld i rd imm => some (i, Machine.insWord 0x60 rd 0 0 0 0 imm)
  | .tst i ra imm => some (i, Machine.insWord 0x61 0 ra 0 0 0 imm)
  | .tldq i rd imm => some (i, Machine.insWord 0x62 rd 0 0 0 0 imm)
  | .stat i rd => some (i, Machine.insWord 0x63 rd)
  | .chwr i rb imm => some (i, Machine.insWord 0x70 0 0 rb 0 0 imm)
  | .chcommit i => some (i, Machine.insWord 0x71)
  | .chrd i rd cnt imm => some (i, Machine.insWord 0x72 rd 0 0 0 cnt imm)
  | .chtry i rd cnt imm => some (i, Machine.insWord 0x73 rd 0 0 0 cnt imm)
  | .lkacq i ra imm => some (i, Machine.insWord 0x78 0 ra 0 0 0 imm)
  | .lkrel i ra imm => some (i, Machine.insWord 0x79 0 ra 0 0 0 imm)
  | .lktry i rd ra imm => some (i, Machine.insWord 0x7A rd ra 0 0 0 imm)
  | .evpost i imm => some (i, Machine.insWord 0x7C 0 0 0 0 0 imm)
  | .evwait i => some (i, Machine.insWord 0x7D)
  | .flook i rd ra cnt imm _ => some (i, Machine.insWord 0x80 rd ra 0 0 cnt imm)
  | .rlook i rd ra mod _ => some (i, Machine.insWord 0x81 rd ra 0 mod)
  | .mlook i rd ra _ => some (i, Machine.insWord 0x82 rd ra)
  | .mlearn i rd ra rb _ => some (i, Machine.insWord 0x83 rd ra rb)
  | .rule i rd ra cnt imm _ => some (i, Machine.insWord 0x84 rd ra 0 0 cnt imm)
  | .emit i => some (i, Machine.insWord 0x90)
  | .trap i imm => some (i, Machine.insWord 0x9F 0 0 0 0 0 imm)
  | .csrr i rd imm => some (i, Machine.insWord 0xC0 rd 0 0 0 0 imm)
  | .csrw i ra imm => some (i, Machine.insWord 0xC1 0 ra 0 0 0 imm)
  | .swint i ra => some (i, Machine.insWord 0xC1 0 ra 0 0 0 0x00B)
  | .mreq i ra => some (i, Machine.insWord 0xC1 0 ra 0 0 0 0x00C)
  | .eret i => some (i, Machine.insWord 0xC2)
  | .wfi i => some (i, Machine.insWord 0xC3)
  | .mld i rd ra mod imm => some (i, Machine.insWord 0xC4 rd ra 0 mod 0 imm)
  | .mst i ra rb mod imm => some (i, Machine.insWord 0xC5 0 ra rb mod 0 imm)
  | .fence i => some (i, Machine.insWord 0xC6)
  | _ => none

namespace Machine

/-- The registers, the byte memories and the staging area are in their canonical form, so that equal contents are equal
data. -/
def State.canonical (s : State) : Prop := s.dev.regs.wf ∧ s.dev.mem.wf ∧ s.dev.roles.staging.wf

/-- A run of the block that the spec speaks of: canonical data, well-formed commands, and an orderly queue. -/
def State.proper (s : State) : Prop :=
  s.canonical ∧ s.pending.all Instr.wellFormed = true ∧ orderly s.pending = true

/-- Command `c` in state `s` answers a next state: the queue of `s`, and a device that meets `P`. -/
def State.leads (s : State) (c : Instr) (P : Dev → Prop) : Prop :=
  ∃ d, exec c s = .next { s with dev := d } ∧ P d

/-- Device `e` reads as `d` in every register word but those at the places of `ks`. -/
def Dev.agrees (d e : Dev) (ks : List Key) : Prop := ∀ k, k ∉ ks → e.word k = d.word k

/-- The places a journal record of a command changes: the next SEQ, and the event of a full buffer (16 R535, R537). -/
def journalKeys : List Key := [fldKey R.ROLE_JOURNAL_SEQ 0 0, fldKey R.ROLE_EVENTS 0 0]

/-- Notches that the first `k` entries of a bank of a gate list last (09 R339). -/
def Dev.gateSum (d : Dev) (g b k : Nat) : Nat :=
  ((List.range k).map (fun j => d.get R.GATEENT_W0_DURATION (2048 * g + 1024 * b + j))).sum

/-- Device `e` shows the gate of port-class `g` that R339 gives at dial time `t`, in ns, for a bank of `d`: open when not
enabled, INIT_OPEN before the bank's BASE, and from then on OPEN of the first entry whose durations reach past the position,
or of the last. -/
def Dev.gateShows (d e : Dev) (g b t : Nat) : Prop :=
  let pos := (t - d.gateBase g b) / 64 % d.get R.GATE_CYCLE g b
  (d.get R.GATE_W0_EN g = 0 → e.get R.GATE_W0_OPEN_NOW g = 1) ∧
  (d.get R.GATE_W0_EN g = 1 → t < d.gateBase g b → e.get R.GATE_W0_OPEN_NOW g = d.get R.GATE_W0_INIT_OPEN g) ∧
  (d.get R.GATE_W0_EN g = 1 → d.gateBase g b ≤ t → ∀ k, k < d.get R.GATE_BASE_LEN g b → d.gateSum g b k ≤ pos →
    (pos < d.gateSum g b (k + 1) ∨ k + 1 = d.get R.GATE_BASE_LEN g b) →
    e.get R.GATE_W0_OPEN_NOW g = d.get R.GATEENT_W0_OPEN (2048 * g + 1024 * b + k))

/-- A Glen's program store holds, at the PC of the thread that an instruction row names, that row's word, its eight bytes
little-endian (05 R178, R179); of another row nothing is asked, nor of a control core's (notes/assumptions/131). -/
def Dev.codes (d : Dev) (c : Instr) : Bool :=
  match c.coded with
  | some (i, w) => (d.fetched i.thread).getD w == w
  | none => true

/-- Command `c` answers a next state that meets `P`, where the program store holds it if it is an instruction of a Glen. -/
def State.runs (s : State) (c : Instr) (P : Dev → Prop) : Prop := s.dev.codes c = true → s.leads c P

/-- Whether a thread fetches its next instruction and meets no memory error in it: ready, at an address of its code (05 R178,
R204). -/
def Dev.fetches (d : Dev) (i : Issue) : Bool :=
  d.ready i.thread && (d.thread i.thread).pc % 8 == 0 && decide ((d.thread i.thread).pc < d.codeLen i.thread) && i.ecc.isNone

/-- A thread whose instruction has issued: past it, with its breakpoint and its step used up. -/
def Thread.moved (t : Thread) : Thread :=
  { t with pc := t.pc + 8, passed := false, stepping := false, stepped := t.stepping }

/-- Device `e` is `d` with one thread set to `x`, and nothing else changed but the cycles that a core has used (04 R134). -/
def Dev.onlyThread (d e : Dev) (id : ThreadId) (x : Thread) : Prop :=
  e.thread id = x ∧ (∀ j, j ≠ id → e.thread j = d.thread j) ∧
    e = { d with glens := { d.glens with threads := e.glens.threads, cycles := e.glens.cycles, pace := e.glens.pace } }

/-- Whether a path's command on a page is performed: the page is there and the path reaches it, Safe Hold does not discard
it, the role suffices, the journal can take it, RECOVERY does not refuse it, no command of the page has been accepted in the
running Notch, and the command is a row of its own, not a word of a plain write (15 R504; 16 R522, R537; 17 R563, R565; 18 R580,
R588; 00 R20). -/
def Dev.accepts (d : Dev) (p : Path) (page : Nat) : Bool :=
  match pageInfo d.variant page with
  | none => false
  | some i =>
    i.present && d.reaches p page && !(d.held && page != pgEVT && page != pgHEALTH) && rolePasses (d.role p) i.role &&
      !(d.journals p i.audit && d.journalFull) &&
      !(d.stage == bsRecovery && page != pgROLE && page != pgHEALTH && page != pgSSTORE) &&
      d.acc.ran.all (fun x => !(some x.1.sp == i.space && x.1.idx == i.unit)) && d.acc.cmdWord.isNone

/-- Whether a path's write of a register that has a row of its own is performed: no page hold of the path takes it (15 R504; 16
R522, R537; 17 R563; 18 R580, R588, R592). -/
def Dev.admits (d : Dev) (p : Path) (page : Nat) : Bool :=
  match pageInfo d.variant page with
  | none => false
  | some i =>
    i.present && d.reaches p page && !(d.held && page != pgEVT) && rolePasses (d.role p) i.role &&
      !(d.journals p i.audit && d.journalFull) && !(d.holdBank p page).hold

end Machine

end Sys2Proof
end

