-- ==== Sys2Proof/Certificates/Slice0/Obligations.lean ====
section
/-! DEFINITION. The statements for the provers: what the commands of each family do, what they leave as it was, and what
holds of the whole block. -/

open Sys2Proof Sys2Proof.Machine

/-- A step takes the command at the front of the queue and performs it on the state with the rest. For every command c, queue
rest and device d: step of the state whose queue is c followed by rest is exec of c on the state with that device and the
queue rest. On an empty queue the block idles: step answers the same state (a choice of the model, notes/assumptions/3).
(R51) -/
def Obligations.StepPerformsTheFrontCommand : Prop :=
  (∀ (c : Instr) (rest : List Instr) (d : Dev),
    step { pending := c :: rest, dev := d } = exec c { pending := rest, dev := d }) ∧
  (∀ d : Dev, step { pending := [], dev := d } = .next { pending := [], dev := d })

/-- Every command of the table answers a next state and leaves the waiting commands as they are. For every command and every
state, exec answers a next state, never a fault and never a refusal, and the queue of that state is the queue it was given:
no command adds, drops or reorders the commands that wait. (R51, R53) -/
def Obligations.EveryCommandAnswersAndKeepsTheQueue : Prop :=
  ∀ (c : Instr) (s : State), ∃ d : Dev, exec c s = .next { s with dev := d }

/-- Without supply the block stays without it, and nothing of it changes, until POWER_ON. An invariant of every step: in a state
whose device has no supply, a step whose front command is any of the 270 but POWER_ON answers a state whose device has no
supply, keeps the serial store, the registers of no unit and no byte of memory changing: for every front command but
UNDERVOLTAGE the device is as before except for what it drives out and, where the command is a PERST_ASSERT or a
PERST_RELEASE, the level of that pin. Without supply a POWER_ON after a thermal trip changes nothing either. (R608, R561,
R623) -/
def Obligations.WithoutSupplyOnlyPowerOnActs : Prop :=
  ∀ (s t : State), s.dev.boot.off = true → step s = .next t →
    ((∀ strap rest, s.pending ≠ .powerOn strap :: rest) → t.dev.boot.off = true ∧ t.dev.store = s.dev.store ∧
      t.dev.mem = s.dev.mem) ∧
    ((s.dev.boot.tripped = true ∨ ∀ strap rest, s.pending ≠ .powerOn strap :: rest) → (∀ rest, s.pending ≠ .undervoltage :: rest) →
      t.dev = { s.dev with out := t.dev.out, host := t.dev.host } ∧
      ((∀ port rest, s.pending ≠ .perstAssert port :: rest) → (∀ port rest, s.pending ≠ .perstRelease port :: rest) →
        t.dev.host = s.dev.host) ∧
      t.dev.host = { s.dev.host with links := t.dev.host.links } ∧
      ∀ p, t.dev.link p = { s.dev.link p with perst := (t.dev.link p).perst })

/-- In Standby every command but a wake, a fall of the supply and a boundary’s outputs leaves the device as it is. An invariant
of every step: in a state whose device is in Standby with supply, a step whose front command is neither WAKE_MATCH nor
UNDERVOLTAGE answers a state that is in Standby still and whose device is as before except for what it drives out and, for
PERST_ASSERT and PERST_RELEASE, the level of that pin; a WAKE_MATCH whose frame has a bad FCS, or matches no saved pattern
and no enabled magic packet, leaves it in Standby unchanged too. (R114, R115, R116) -/
def Obligations.StandbyIsLeftOnlyByWakeOrSupply : Prop :=
  ∀ (s t : State), s.dev.boot.off = false → s.dev.wake.standby = true → step s = .next t →
    ((∀ f g rest, s.pending ≠ .wakeMatch f g :: rest) → (∀ rest, s.pending ≠ .undervoltage :: rest) →
      t.dev.wake.standby = true ∧ t.dev = { s.dev with out := t.dev.out, host := t.dev.host } ∧
      ((∀ port rest, s.pending ≠ .perstAssert port :: rest) → (∀ port rest, s.pending ≠ .perstRelease port :: rest) →
        t.dev.host = s.dev.host) ∧
      t.dev.host = { s.dev.host with links := t.dev.host.links } ∧
      ∀ p, t.dev.link p = { s.dev.link p with perst := (t.dev.link p).perst }) ∧
    (∀ f g rest, s.pending = .wakeMatch f g :: rest →
      (g = false ∨ (s.dev.wake.pattern f = none ∧ s.dev.wake.magic f = false)) → t.dev = s.dev)

/-- A command over the path of a tenant’s VF changes no register but error records, no memory and no unit. For every command that
comes over the path of an instance’s VF, but register writes and reads, acknowledgements and holds (REGISTER_WRITE, RC_READ,
ERR_ACK, UPD_HOLD, UPD_RELEASE), whatever page or object it names, its own included: exec answers a next state that is as
before but for the error recorder’s registers and state, what the device answers to the path, and the note of the path’s
latest access; every register word outside the page headers and the HEALTH page reads as before. (R356, R522, R580, R588) -/
def Obligations.TenantFunctionsCommandNothing : Prop :=
  ∀ (c : Instr) (s : State) (j : Nat), c.source = some (.vf j) →
    (∀ p a b w x, c ≠ .registerWrite p a b w x) → (∀ p a b w, c ≠ .rcRead p a b w) → (∀ p a, c ≠ .errAck p a) →
    (∀ p a b, c ≠ .updHold p a b) → (∀ p a b, c ≠ .updRelease p a b) →
    s.leads c (fun e =>
      e = { s.dev with regs := e.regs, errs := e.errs, out := e.out, roles := e.roles } ∧
      (e.roles = s.dev.roles ∨ e.roles = (s.dev.touch (.vf j)).roles) ∧
      ∀ k : Key, k.sp ≠ .HDR → k.sp ≠ .HEALTH → e.word k = s.dev.word k)

/-- A Notch boundary raises the Notch count by one and dial time by 64 ns, or as a pending step says. For every state of a device
that is awake, has no commanded reset waiting, is not due to fall into Standby and has not measured 105 °C twice, NOTCH_TICK
answers a next state in which the Notch count is one more, and dial time is 64 ns later modulo the second where no step is
pending; where a relative or absolute step is pending and its result is in range, dial time is the old time + 64 ns + the
offset, or the time given; no step stays pending. What is pending is what the MLEARNs and the late writes of the ending Notch
leave, and without a store of control firmware among them they leave the dial and the start of the device as they are. (R21,
R23, R45) -/
def Obligations.NotchBoundaryAdvancesTheDial : Prop :=
  ∀ (s : State), s.dev.awake = true → s.dev.standbyDue = none → s.dev.trips = false →
    (let b := s.dev.heatDue.serveLearns.lateWrites
     (s.dev.acc.stores = [] → b.dial = s.dev.dial ∧ b.boot = s.dev.boot) ∧
     (b.boot.resetAt = none → s.leads .notchTick (fun e =>
      e.dial.notch = b.dial.notch + 1 ∧ e.dial.stepPending = none ∧
      (b.dial.stepPending = none →
        e.dial.sec * 1000000000 + e.dial.ns = b.dial.sec * 1000000000 + b.dial.ns + 64 ∧ e.dial.ns < 1000000000) ∧
      (∀ sec ns, b.dial.stepPending = some (.abs sec ns) → sec < 2 ^ 48 → e.dial.sec = sec ∧ e.dial.ns = ns) ∧
      (∀ sec ns : Int, b.dial.stepPending = some (.rel sec ns) →
        0 ≤ (b.dial.sec * 1000000000 + b.dial.ns + 64 : Int) + sec * 1000000000 + ns →
        (b.dial.sec * 1000000000 + b.dial.ns + 64 : Int) + sec * 1000000000 + ns < 2 ^ 48 * 1000000000 →
        (e.dial.sec * 1000000000 + e.dial.ns : Int) =
          (b.dial.sec * 1000000000 + b.dial.ns + 64 : Int) + sec * 1000000000 + ns ∧ e.dial.ns < 1000000000))))

/-- A slew write is clamped to one million parts per billion either way, with SLEW_CLAMPED. For every state of an awake device
and every path whose write of the DIAL page is performed, while the source is FREE or the path is the firmware: SLEW_WRITE
answers a next state in which DIAL.SLEW.PPB reads the written signed rate, or the nearest of the limits -1,000,000 and
1,000,000 where it lies outside, DIAL.EVENTS.SLEW_CLAMPED is set exactly then and otherwise reads as before, and every
register but SLEW, EVENTS and the journal sequence and events, all memory, dial time and the Notch count are as before. (R26) -/
def Obligations.SlewIsClampedToItsLimits : Prop :=
  ∀ (s : State) (p : Path) (ppb : Word), s.dev.awake = true → s.dev.admits p pgDIAL = true →
    (s.dev.get R.DIAL_CTRL_SRC = 0 ∨ p = .firmware) →
    s.leads (.slewWrite p ppb) (fun e =>
      e.getInt R.DIAL_SLEW_PPB = max (-1000000) (min 1000000 (signed 32 ppb.toNat)) ∧
      (signed 32 ppb.toNat < -1000000 ∨ 1000000 < signed 32 ppb.toNat → e.get R.DIAL_EVENTS_SLEW_CLAMPED = 1) ∧
      (-1000000 ≤ signed 32 ppb.toNat → signed 32 ppb.toNat ≤ 1000000 →
        e.get R.DIAL_EVENTS_SLEW_CLAMPED = s.dev.get R.DIAL_EVENTS_SLEW_CLAMPED) ∧
      s.dev.agrees e [fldKey R.DIAL_SLEW_PPB 0 0, fldKey R.DIAL_EVENTS_SLEW_CLAMPED 0 0, fldKey R.ROLE_JOURNAL_SEQ 0 0,
        fldKey R.ROLE_EVENTS 0 0] ∧
      e = { s.dev with regs := e.regs, roles := e.roles, acc := e.acc })

/-- While the source is PTP or PPS_TOD, slew writes and steps of other paths than the firmware are turned away. For every state
of an awake device whose source is not FREE and every path but the firmware: SLEW_WRITE leaves DIAL.SLEW as it was and
records a configuration error (class 1) on the DIAL page; STEP_REL and SET_ABS read back the status OWNED (4) and leave the
pending step as it was. The path may use the page. (R32) -/
def Obligations.DisciplinedDialTakesOnlyFirmware : Prop :=
  ∀ (s : State) (p : Path), s.dev.awake = true → p ≠ .firmware → s.dev.get R.DIAL_CTRL_SRC ≠ 0 →
    (∀ ppb, s.dev.admits p pgDIAL = true → s.leads (.slewWrite p ppb) (fun e =>
      e.get R.DIAL_SLEW_PPB = s.dev.get R.DIAL_SLEW_PPB ∧
      (∃ x ∈ e.errs.now, x.page = pgDIAL ∧ x.cls = 1) ∧ e.dial = s.dev.dial)) ∧
    (s.dev.accepts p pgDIAL = true →
      s.leads (.stepRel p) (fun e => e.get R.DIAL_STEP_CMD_STATUS = 4 ∧ e.dial = s.dev.dial) ∧
      s.leads (.setAbs p) (fun e => e.get R.DIAL_STEP_CMD_STATUS = 4 ∧ e.dial = s.dev.dial))

/-- A change of source, samples and their absence move the dial between UNLOCKED, ACQUIRING, LOCKED and HOLDOVER. For every state
of an awake device, path whose write of the DIAL page is performed, and value written whose source is another of FREE, PTP
and PPS_TOD than the one selected, naming for PTP a port in service: DIAL_CTRL_WRITE answers a next state whose DIAL.CTRL.SRC
and PTP_PORT read as written, whose DIAL.STATUS.STATE is UNLOCKED (0) for FREE and ACQUIRING (1) otherwise, and whose slew,
dial time and Notch count are as before. A write that leaves SRC at PTP (1) and names a port not in service leaves SRC and
PTP_PORT as they were and records a configuration error on the DIAL page. For every state of an awake device. With SRC at PTP
and its port in service, SERVO_SAMPLE of offset o makes the state: ACQUIRING from UNLOCKED and HOLDOVER; LOCKED from
ACQUIRING when o is the sixteenth consecutive sample within LOCK_THRESH_NS; ACQUIRING from LOCKED when o is the fourth
consecutive one beyond four times LOCK_THRESH_NS; and the reported offset is o limited to 32 bits. With SRC at PPS_TOD,
SERVO_SAMPLE takes the sample that the latest edge made with its message, in the same way but that an untraceable one leaves
the state no LOCKED; an edge without a message makes none and changes nothing. SRC_TIMEOUT, SRC_TIMEOUT Notches after the
latest valid sample with a source selected, makes LOCKED HOLDOVER and ACQUIRING UNLOCKED; with HOLDOVER_S 0 it makes LOCKED
UNLOCKED at once, and sets HOLDOVER_END (the model’s choice, log entry 113). HOLDOVER_END, HOLDOVER_S seconds after HOLDOVER
was entered, makes it UNLOCKED with HOLDOVER_END set. (R33, R34, R35, R41, R59) -/
def Obligations.TheLockStateFollowsSourceAndSamples : Prop :=
  (∀ (s : State) (p : Path) (data : Word), s.dev.awake = true → s.dev.admits p pgDIAL = true →
      (data.field 0 2 ≠ 3 → data.field 0 2 ≠ s.dev.get R.DIAL_CTRL_SRC →
        (data.field 0 2 = 1 → s.dev.portInService (data.field 2 4) = true) →
        s.leads (.dialCtrlWrite p data) (fun e =>
          e.get R.DIAL_CTRL_SRC = data.field 0 2 ∧ e.get R.DIAL_CTRL_PTP_PORT = data.field 2 4 ∧
          e.get R.DIAL_STATUS_STATE = (if data.field 0 2 = 0 then 0 else 1) ∧
          e.get R.DIAL_SLEW_PPB = s.dev.get R.DIAL_SLEW_PPB ∧ e.now = s.dev.now ∧ e.dial.notch = s.dev.dial.notch)) ∧
      (data.field 0 2 = 1 → s.dev.portInService (data.field 2 4) = false →
        s.leads (.dialCtrlWrite p data) (fun e =>
          e.get R.DIAL_CTRL_SRC = s.dev.get R.DIAL_CTRL_SRC ∧ e.get R.DIAL_CTRL_PTP_PORT = s.dev.get R.DIAL_CTRL_PTP_PORT ∧
          (∃ x ∈ e.errs.now, x.page = pgDIAL ∧ x.cls = 1) ∧ e.dial = s.dev.dial))) ∧
  (∀ (s : State), s.dev.awake = true →
      (∀ o : Int, s.dev.get R.DIAL_CTRL_SRC = 1 → s.dev.portInService (s.dev.get R.DIAL_CTRL_PTP_PORT) = true →
        s.leads (.servoSample o) (fun e =>
          (s.dev.get R.DIAL_STATUS_STATE = 0 ∨ s.dev.get R.DIAL_STATUS_STATE = 3 → e.get R.DIAL_STATUS_STATE = 1) ∧
          (s.dev.get R.DIAL_STATUS_STATE = 1 → o.natAbs ≤ s.dev.get R.DIAL_SERVO_CFG_LOCK_THRESH_NS →
            e.get R.DIAL_STATUS_STATE = if 15 ≤ s.dev.dial.goodRun then 2 else 1) ∧
          (s.dev.get R.DIAL_STATUS_STATE = 1 → s.dev.get R.DIAL_SERVO_CFG_LOCK_THRESH_NS < o.natAbs →
            e.get R.DIAL_STATUS_STATE = 1 ∧ e.dial.goodRun = 0) ∧
          (s.dev.get R.DIAL_STATUS_STATE = 2 → 4 * s.dev.get R.DIAL_SERVO_CFG_LOCK_THRESH_NS < o.natAbs →
            e.get R.DIAL_STATUS_STATE = if 3 ≤ s.dev.dial.badRun then 1 else 2) ∧
          (s.dev.get R.DIAL_STATUS_STATE = 2 → o.natAbs ≤ 4 * s.dev.get R.DIAL_SERVO_CFG_LOCK_THRESH_NS →
            e.get R.DIAL_STATUS_STATE = 2 ∧ e.dial.badRun = 0) ∧
          e.getInt R.DIAL_STATUS_OFFSET_NS = max (-2147483648) (min 2147483647 o) ∧ e.dial.lastValid = s.dev.dial.notch)) ∧
      (∀ o : Int, s.dev.get R.DIAL_CTRL_SRC = 2 →
        (s.dev.dial.edgeSample = none → s.leads (.servoSample o) (fun e => e = s.dev)) ∧
        ∀ (x : Int) (u : Bool), s.dev.dial.edgeSample = some (x, u) → s.leads (.servoSample o) (fun e =>
          let lim := s.dev.get R.DIAL_SERVO_CFG_LOCK_THRESH_NS
          (u = true → e.get R.DIAL_STATUS_STATE = 1) ∧
          (s.dev.get R.DIAL_STATUS_STATE = 0 ∨ s.dev.get R.DIAL_STATUS_STATE = 3 → e.get R.DIAL_STATUS_STATE = 1) ∧
          (s.dev.get R.DIAL_STATUS_STATE = 1 → u = false →
            e.get R.DIAL_STATUS_STATE = if x.natAbs ≤ lim ∧ 15 ≤ s.dev.dial.goodRun then 2 else 1) ∧
          (s.dev.get R.DIAL_STATUS_STATE = 2 → u = false →
            e.get R.DIAL_STATUS_STATE = if 4 * lim < x.natAbs ∧ 3 ≤ s.dev.dial.badRun then 1 else 2) ∧
          e.getInt R.DIAL_STATUS_OFFSET_NS = max (-2147483648) (min 2147483647 x) ∧ e.dial.lastValid = s.dev.dial.notch ∧
          e.dial.edgeSample = none)) ∧
      (s.dev.get R.DIAL_CTRL_SRC ≠ 0 →
        s.dev.get R.DIAL_SERVO_CFG_SRC_TIMEOUT ≤ s.dev.dial.notch - s.dev.dial.lastValid →
        s.leads .srcTimeout (fun e =>
          (s.dev.get R.DIAL_STATUS_STATE = 2 → s.dev.get R.DIAL_SERVO_CFG_HOLDOVER_S ≠ 0 →
            e.get R.DIAL_STATUS_STATE = 3 ∧ e.dial.holdFrom = s.dev.now) ∧
          (s.dev.get R.DIAL_STATUS_STATE = 2 → s.dev.get R.DIAL_SERVO_CFG_HOLDOVER_S = 0 →
            e.get R.DIAL_STATUS_STATE = 0 ∧ e.get R.DIAL_EVENTS_HOLDOVER_END = 1) ∧
          (s.dev.get R.DIAL_STATUS_STATE = 1 → e.get R.DIAL_STATUS_STATE = 0) ∧
          e.get R.DIAL_SLEW_PPB = s.dev.get R.DIAL_SLEW_PPB)) ∧
      (s.dev.get R.DIAL_STATUS_STATE = 3 →
        s.dev.get R.DIAL_SERVO_CFG_HOLDOVER_S * 1000000000 ≤ timeNs s.dev.now - timeNs s.dev.dial.holdFrom →
        s.leads .holdoverEnd (fun e => e.get R.DIAL_STATUS_STATE = 0 ∧ e.get R.DIAL_EVENTS_HOLDOVER_END = 1 ∧ e.dial = s.dev.dial)))

/-- A step command is refused with ALIGN or RANGE, or waits for the end of its Notch with status OK. For every state of an awake
device and path whose command on the DIAL page is performed, while the source is FREE or the path is the firmware and no step
is pending: STEP_REL and SET_ABS read back ALIGN (2) when the nanoseconds argument is no multiple of 64; otherwise RANGE (3)
when it is out of range (a relative one outside -999,999,936 to 999,999,936, an absolute one above 999,999,936) or the
resulting seconds do not fit in 48 bits; otherwise BUSY (1) where the path is the firmware, whose steps are journaled, and
the journal is full; otherwise OK (0), and the step given by the arguments waits. Dial time and the Notch count are as before
in every case, and a refused step leaves no step pending. (R45, R46, R537) -/
def Obligations.StepCommandsAreCheckedThenPend : Prop :=
  ∀ (s : State) (p : Path), s.dev.awake = true → s.dev.accepts p pgDIAL = true →
    (s.dev.get R.DIAL_CTRL_SRC = 0 ∨ p = .firmware) → s.dev.dial.stepPending = none →
    (let full := p = .firmware ∧ s.dev.journalFull = true
    (let sec := s.dev.getInt R.DIAL_STEP_ARG_SEC_SEC
     let ns := s.dev.getInt R.DIAL_STEP_ARG_NS_NS
     let sum : Int := (s.dev.dial.sec * 1000000000 + s.dev.dial.ns + 64 : Int) + sec * 1000000000 + ns
     s.leads (.stepRel p) (fun e => e.now = s.dev.now ∧ e.dial.notch = s.dev.dial.notch ∧
      (ns % 64 ≠ 0 → e.get R.DIAL_STEP_CMD_STATUS = 2 ∧ e.dial.stepPending = none) ∧
      (ns % 64 = 0 → (ns < -999999936 ∨ 999999936 < ns ∨ sum < 0 ∨ 2 ^ 48 * 1000000000 ≤ sum) →
        e.get R.DIAL_STEP_CMD_STATUS = 3 ∧ e.dial.stepPending = none) ∧
      (ns % 64 = 0 → -999999936 ≤ ns → ns ≤ 999999936 → 0 ≤ sum → sum < 2 ^ 48 * 1000000000 →
        (full → e.get R.DIAL_STEP_CMD_STATUS = 1 ∧ e.dial.stepPending = none) ∧
        (¬ full → e.get R.DIAL_STEP_CMD_STATUS = 0 ∧ e.dial.stepPending = some (.rel sec ns))))) ∧
    (let sec := s.dev.get R.DIAL_STEP_ARG_SEC_SEC
     let ns := s.dev.get R.DIAL_STEP_ARG_NS_NS
     s.leads (.setAbs p) (fun e => e.now = s.dev.now ∧ e.dial.notch = s.dev.dial.notch ∧
      (ns % 64 ≠ 0 → e.get R.DIAL_STEP_CMD_STATUS = 2 ∧ e.dial.stepPending = none) ∧
      (ns % 64 = 0 → (999999936 < ns ∨ 2 ^ 48 ≤ sec) →
        e.get R.DIAL_STEP_CMD_STATUS = 3 ∧ e.dial.stepPending = none) ∧
      (ns % 64 = 0 → ns ≤ 999999936 → sec < 2 ^ 48 →
        (full → e.get R.DIAL_STEP_CMD_STATUS = 1 ∧ e.dial.stepPending = none) ∧
        (¬ full → e.get R.DIAL_STEP_CMD_STATUS = 0 ∧ e.dial.stepPending = some (.abs sec ns))))))

/-- PPS_IN edges, time-of-day lines, missed edges, PPS_OUT and the latch. For every state of an awake device. PPS_IN_EDGE stamps
the edge in PPS_IN_SEC and PPS_IN_NS, 64 ns less its sub-Notch place before the dial time that the Notch would begin with
without a step (at least 64 ns), raises EDGES up to its width, requests source 80 and turns a kept time-of-day line into a
sample for the edge; the window of the next expected edge is counted from it but where it comes less than 999,900,000 ns
after the edge that the window was counted from. A TOD_MESSAGE line that reads as R39 says and comes between 100 ms and 900
ms after an edge is kept and counted in TOD_GOOD; any other is counted in TOD_BAD and sets TOD_BAD. PPS_MISSED, in PPS_TOD
with more than 1,000,100,000 ns since the edge that the window is counted from, counts MISSED, sets PPS_MISSED and counts the
window from a later edge, or else from 1 s on (log entry 11); at any other time it changes nothing. PPS_OUT_RISE at
nanoseconds 0 with EN 1, the output low and not held low by IDLE in UNLOCKED drives it high, ADV_NS early, for WIDTH Notches,
and otherwise changes nothing; PPS_OUT_FALL at the end of the pulse drives it low, and otherwise changes nothing.
NOTCH_COUNT_READ over a path whose accesses are served answers the Notch count and, as an RC_READ of NOTCH_COUNT does, loads
LATCH with the dial time of the Notch. Every other register reads as before. (R38, R40, R41, R42, R43, R57) -/
def Obligations.DialPinsAndLatchFollowTheirRules : Prop :=
  ∀ (s : State), s.dev.awake = true →
    (let base := timeNs (s.dev.dial.stepped.getD s.dev.now)
     ∀ sub, sub < 64 → 64 ≤ base → base < 2 ^ 48 * 1000000000 →
      s.leads (.ppsInEdge sub) (fun e =>
        e.get R.DIAL_PPS_IN_SEC_SEC * 1000000000 + e.get R.DIAL_PPS_IN_NS_NS + 64 = base + sub ∧
        e.get R.DIAL_PPS_IN_NS_NS < 1000000000 ∧
        e.get R.DIAL_PPS_CNT_EDGES = min (s.dev.get R.DIAL_PPS_CNT_EDGES + 1) 65535 ∧ e.get R.SRC_W1_PEND 80 = 1 ∧
        s.dev.agrees e [fldKey R.DIAL_PPS_IN_SEC_SEC 0 0, fldKey R.DIAL_PPS_IN_NS_NS 0 0, fldKey R.DIAL_PPS_CNT_EDGES 0 0,
          fldKey R.SRC_W1_PEND 80 0] ∧
        e.dial.lastEdge = some (e.get R.DIAL_PPS_IN_SEC_SEC, e.get R.DIAL_PPS_IN_NS_NS) ∧
        e.dial.edgeSample = s.dev.dial.tod.map (fun m =>
          ((m.sec * 1000000000 : Int) - (base + sub - 64 : Nat), m.untraceable)) ∧
        e.dial = { s.dev.dial with
          lastEdge := e.dial.lastEdge, edgeSample := e.dial.edgeSample, tod := none, watch := e.dial.watch } ∧
        (s.dev.dial.watch = none → e.dial.watch = e.dial.lastEdge) ∧
        (∀ w, s.dev.dial.watch = some w →
          e.dial.watch = if base + sub < timeNs w + 999900064 then some w else e.dial.lastEdge))) ∧
    (∀ line t m, s.dev.dial.lastEdge = some t → parseTod line = some m →
      timeNs t + 100000000 ≤ timeNs s.dev.now → timeNs s.dev.now ≤ timeNs t + 900000000 →
      s.leads (.todMessage line) (fun e => e.dial = { s.dev.dial with tod := some m } ∧
        e.get R.DIAL_PPS_CNT_TOD_GOOD = min (s.dev.get R.DIAL_PPS_CNT_TOD_GOOD + 1) 65535 ∧
        s.dev.agrees e [fldKey R.DIAL_PPS_CNT_TOD_GOOD 0 0])) ∧
    (∀ line, (parseTod line = none ∨ s.dev.dial.lastEdge = none ∨
        ∃ t, s.dev.dial.lastEdge = some t ∧
          (timeNs s.dev.now < timeNs t + 100000000 ∨ timeNs t + 900000000 < timeNs s.dev.now)) →
      s.leads (.todMessage line) (fun e => e.dial = s.dev.dial ∧ e.get R.DIAL_EVENTS_TOD_BAD = 1 ∧
        e.get R.DIAL_PPS_CNT_TOD_BAD = min (s.dev.get R.DIAL_PPS_CNT_TOD_BAD + 1) 65535 ∧
        s.dev.agrees e [fldKey R.DIAL_PPS_CNT_TOD_BAD 0 0, fldKey R.DIAL_EVENTS_TOD_BAD 0 0])) ∧
    (∀ t, s.dev.dial.watch = some t → s.dev.get R.DIAL_CTRL_SRC = 2 → timeNs t + 1000100000 < timeNs s.dev.now →
      s.leads .ppsMissed (fun e => e.get R.DIAL_EVENTS_PPS_MISSED = 1 ∧
        e.get R.DIAL_PPS_CNT_MISSED = min (s.dev.get R.DIAL_PPS_CNT_MISSED + 1) 65535 ∧
        s.dev.agrees e [fldKey R.DIAL_PPS_CNT_MISSED 0 0, fldKey R.DIAL_EVENTS_PPS_MISSED 0 0] ∧
        e.dial = { s.dev.dial with watch := e.dial.watch } ∧
        (∀ x, s.dev.dial.lastEdge = some x → timeNs t < timeNs x → e.dial.watch = some x) ∧
        ((∀ x, s.dev.dial.lastEdge = some x → timeNs x ≤ timeNs t) →
          ∃ w, e.dial.watch = some w ∧ timeNs w = timeNs t + 1000000000))) ∧
    ((s.dev.get R.DIAL_CTRL_SRC ≠ 2 ∨ ∀ t, s.dev.dial.watch = some t → timeNs s.dev.now ≤ timeNs t + 1000100000) →
      s.leads .ppsMissed (fun e => e = s.dev)) ∧
    (let rises := s.dev.get R.DIAL_PPS_OUT_CFG_EN = 1 ∧ s.dev.dial.ns = 0 ∧ s.dev.dial.ppsOut = false ∧
       (s.dev.get R.DIAL_STATUS_STATE ≠ 0 ∨ s.dev.get R.DIAL_PPS_OUT_CFG_IDLE = 0)
     (rises → s.leads .ppsOutRise (fun e => e = { s.dev with
        dial := { s.dev.dial with ppsOut := true, ppsEnd := s.dev.dial.notch + s.dev.get R.DIAL_PPS_OUT_CFG_WIDTH },
        out := s.dev.out ++ [.ppsOut true (s.dev.get R.DIAL_PPS_OUT_CFG_ADV_NS)] })) ∧
     (¬ rises → s.leads .ppsOutRise (fun e => e = s.dev))) ∧
    (s.dev.dial.ppsOut = true → s.dev.dial.ppsEnd ≤ s.dev.dial.notch →
      s.leads .ppsOutFall (fun e => e = { s.dev with
        dial := { s.dev.dial with ppsOut := false }, out := s.dev.out ++ [.ppsOut false 0] })) ∧
    ((s.dev.dial.ppsOut = false ∨ s.dev.dial.notch < s.dev.dial.ppsEnd) → s.leads .ppsOutFall (fun e => e = s.dev)) ∧
    (∀ p, s.dev.barOpen p = true → p.isVf = false → s.dev.dial.sec < 2 ^ 48 → s.dev.dial.ns < 2 ^ 32 →
      let latched := fun (e : Dev) => e.get R.DIAL_LATCH_SEC_SEC = s.dev.dial.sec ∧ e.get R.DIAL_LATCH_NS_NS = s.dev.dial.ns ∧
        e.dial = s.dev.dial ∧ s.dev.agrees e [fldKey R.DIAL_LATCH_SEC_SEC 0 0, fldKey R.DIAL_LATCH_NS_NS 0 0]
      s.leads (.notchCountRead p) (fun e => latched e ∧
        e.out = s.dev.out ++ [.readData p pgDIAL 0x60 (BitVec.ofNat 64 s.dev.dial.notch)]) ∧
      ∀ wide, s.leads (.rcRead p pgDIAL 0x60 wide) latched)

/-- A register write acts for a path of sufficient role, is a ROLE error otherwise, and clears W1C bits. For every state of an
awake device and every path but an instance VF. (1) REGISTER_WRITE of 64 bits by a path whose write is performed, with no
hold of the page: of DIAL.STEP_ARG_SEC, STEP_ARG_NS and SERVO_CFG, TABLE.CMD_ARG, STAGE_KEY and STAGE_DATA, SSTORE.SRC_ADDR
and SRC_LEN and CLASSIFY.ZERO_PROFILE 1 to 7 leaves the written bits in the fields of that register, its reserved bits and
every register but it and the journal places as before, and dial time, the Notch count and the memories too. (2) Of SERVO_CFG
by a path whose role is below installer it leaves the register and dial as they were and records a role error (class 2) on
the page. (3) A low half written alone changes no register; the high half then writes both. (4) A write to DIAL.EVENTS by a
path with a role clears the bits written as 1 that stood at the start of the Notch and were not set again in it, and no other
bit. (5) While accesses of the path are not served, it is answered as unsupported and changes nothing. (6) Of the command
fields one command each, out of Safe Hold on a page that the path reaches: for a role below the page’s it is a role error and
nothing else; else it reads BUSY (1) and does nothing with the journal full that must record it, which counts in REFUSED, in
a Notch in which the field took a command, and in RECOVERY where R565 serves it not. That a lone low half waits, that any
role clears W1C bits, and how an access that is not served is answered are the model’s choices, log entries 7, 9 and 82.
(R14, R15, R19, R20, R522, R537, R565, R588) -/
def Obligations.RegisterWritesTakeEffectByRole : Prop :=
  ∀ (s : State) (p : Path) (data : Word), s.dev.awake = true → p.isVf = false →
    (∀ x ∈ [(pgDIAL, (⟨.DIAL, 0, 16⟩ : Key), (0xFFFFFFFFFFFF : Word)), (pgDIAL, ⟨.DIAL, 0, 17⟩, 0xFFFFFFFF),
        (pgDIAL, ⟨.DIAL, 0, 19⟩, BitVec.allOnes 64), (pgTABLE, ⟨.TABLE, 0, 9⟩, 0xFFFFFFFF),
        (pgSSTORE, ⟨.SSTORE, 0, 17⟩, BitVec.allOnes 64), (pgSSTORE, ⟨.SSTORE, 0, 18⟩, 0xFFFFFFFF)] ++
        (List.range 12).map (fun n => (pgTABLE, ⟨.TABLE, 0, 12 + n⟩, BitVec.allOnes 64)) ++
        (List.range 7).map (fun n => (pgCLASSIFY, ⟨.CLASSIFY, 0, 17 + n⟩, BitVec.allOnes 64)),
      (s.dev.holdBank p x.1).hold = false → s.dev.admits p x.1 = true →
      s.leads (.registerWrite p x.1 (8 * x.2.1.word) true data) (fun e =>
        e.word x.2.1 = (s.dev.word x.2.1 &&& ~~~x.2.2) ||| (data &&& x.2.2) ∧
        s.dev.agrees e (x.2.1 :: journalKeys) ∧ e.dial = s.dev.dial ∧ e.mem = s.dev.mem)) ∧
    ((s.dev.holdBank p pgDIAL).hold = false → s.dev.reaches p pgDIAL = true → s.dev.held = false → s.dev.role p < 2 →
      s.leads (.registerWrite p pgDIAL 0x98 true data) (fun e =>
        e.word ⟨.DIAL, 0, 19⟩ = s.dev.word ⟨.DIAL, 0, 19⟩ ∧ e.dial = s.dev.dial ∧
        ∃ x ∈ e.errs.now, x.page = pgDIAL ∧ x.cls = 2)) ∧
    (s.dev.barOpen p = true →
      s.leads (.registerWrite p pgDIAL 0x98 false data) (fun e =>
        e.regs = s.dev.regs ∧ assoc e.acc.low (p.bank, pgDIAL, 19) = some (data &&& 0xFFFFFFFF))) ∧
    (∀ l : Word, (s.dev.holdBank p pgDIAL).hold = false → s.dev.admits p pgDIAL = true →
      assoc s.dev.acc.low (p.bank, pgDIAL, 19) = some l →
      s.leads (.registerWrite p pgDIAL 0x9C false data) (fun e => e.word ⟨.DIAL, 0, 19⟩ = (data <<< 32) ||| l)) ∧
    ((s.dev.holdBank p pgDIAL).hold = false → s.dev.reaches p pgDIAL = true → s.dev.held = false → s.dev.role p ≠ 0 →
      (s.dev.journals p true && s.dev.journalFull) = false →
      s.leads (.registerWrite p pgDIAL 0xC0 true data) (fun e =>
        e.word ⟨.DIAL, 0, 24⟩ = s.dev.word ⟨.DIAL, 0, 24⟩ &&&
          ~~~(data &&& 0x7F &&& s.dev.start.word ⟨.DIAL, 0, 24⟩ &&& ~~~((assoc s.dev.acc.setNow ⟨.DIAL, 0, 24⟩).getD 0)))) ∧
    (s.dev.barOpen p = false → ∀ page off wide,
      s.leads (.registerWrite p page off wide data) (fun e => e = { s.dev with out := s.dev.out ++ [.unsupported p] })) ∧
    (∀ x ∈ [(Instr.stepRel p, pgDIAL, (⟨.DIAL, 0, 18⟩ : Key), (R.DIAL_STEP_CMD_STATUS, 0)),
        (.recal p 0 3, pgLANEGRP 0, ⟨.LANEGRP, 0, 10⟩, (R.LANEGRP_CMD_STATUS, 0)),
        (.halt p 0, pgGPHYS 0, ⟨.GPHYS, 0, 14⟩, (R.GPHYS_DBG_CMD_STATUS, 0)),
        (.handover p 2 1, pgGLEN, ⟨.GLEN, 0, 8⟩, (R.GLEN_CMD_STATUS, 0)),
        (.find p 1, pgTABLE, fldKey R.TABLE_CMD_CODE 0 0, (R.TABLE_CMD_STATUS, 0)),
        (.attachLeaf p 5 7, pgSCHED, ⟨.SCHED, 0, 8⟩, (R.SCHED_CMD_STATUS, 0)),
        (.retrain p .a, pgHOST 0, fldKey R.HOST_CMD_CODE 0 0, (R.HOST_CMD_STATUS, 0)),
        (.quiesce p 5, pgINST 5, fldKey R.INST_CMD_CODE 5 0, (R.INST_CMD_STATUS, 5)),
        (.clearKey p 9, pgCRYPTO, fldKey R.CRYPTO_CMD_CODE 0 0, (R.CRYPTO_CMD_STATUS, 0)),
        (.clear p 3, pgMOVER, fldKey R.MOVER_CMD_CODE 0 0, (R.MOVER_CMD_STATUS, 0)),
        (.hostEoi p 300, pgEVT, fldKey R.EVT_HOST_EOI_SOURCE 0 0, (R.EVT_HOST_EOI_STATUS, 0)),
        (.enterSafeHold p, pgHEALTH, fldKey R.HEALTH_CMD_CODE 0 0, (R.HEALTH_CMD_STATUS, 0)),
        (.revoke p 1 0 { }, pgROLE, fldKey R.ROLE_KEY_CMD_CODE 0 0, (R.ROLE_KEY_CMD_STATUS, 0)),
        (.installFw p 0 none { } { }, pgSSTORE, fldKey R.SSTORE_CMD_CODE 0 0, (R.SSTORE_CMD_STATUS, 0)),
        (.commitFw p, pgBOOT, fldKey R.BOOT_CMD_CODE 0 0, (R.BOOT_CMD_STATUS, 0))],
      ∀ i, pageInfo s.dev.variant x.2.1 = some i → i.present = true → s.dev.reaches p x.2.1 = true → s.dev.held = false →
        s.dev.acc.cmdWord = none →
        (let full := s.dev.journals p i.audit && s.dev.journalFull
         let busy := fun (e : Dev) => e.get x.2.2.2.1 x.2.2.2.2 = 1 ∧ e = { s.dev with regs := e.regs, acc := e.acc }
         (rolePasses (s.dev.role p) i.role = false → s.leads x.1 (fun e => e = { s.dev with regs := e.regs, errs := e.errs, out := e.out } ∧
           (∃ r ∈ e.errs.now, r.page = x.2.1 ∧ r.cls = 2 ∧ r.code = s.dev.role p) ∧
           ∀ k : Key, k.sp ≠ .HDR → k.sp ≠ .HEALTH → e.word k = s.dev.word k)) ∧
         (rolePasses (s.dev.role p) i.role = true → full = true → s.leads x.1 (fun e => busy e ∧
           s.dev.agrees e [x.2.2.1, fldKey R.ROLE_JOURNAL_STAT_REFUSED 0 0])) ∧
         (rolePasses (s.dev.role p) i.role = true → full = false →
           (assoc s.dev.acc.ran x.2.2.1).isSome = true ∨
             s.dev.stage = bsRecovery ∧ x.2.1 ≠ pgROLE ∧ x.2.1 ≠ pgHEALTH ∧ x.2.1 ≠ pgSSTORE →
           s.leads x.1 (fun e => busy e ∧ s.dev.agrees e [x.2.2.1]))))

/-- A whole read of a register with RC fields answers the start-of-Notch value and keeps the increments of the Notch. For every
state of an awake device and every path with a role, no instance VF, whose accesses are served: RC_READ of 64 bits of
DIAL.PPS_CNT answers the word as it stood at the start of the Notch, and, where no read of the Notch has cleared it before,
leaves in each of its four counters what it has risen by since then. A 32-bit read of it answers its half and leaves every
register as it was. A path without a role reads it and clears nothing. That a counter that stood at its limit at the start of
the Notch loses the increments of the Notch is the model’s choice, log entry 111. (R18, R590) -/
def Obligations.WholeReadsClearCounters : Prop :=
  ∀ (s : State) (p : Path), s.dev.awake = true → p.isVf = false → s.dev.barOpen p = true →
    (s.dev.role p ≠ 0 → assoc s.dev.acc.cleared ⟨.DIAL, 0, 23⟩ = none →
      s.leads (.rcRead p pgDIAL 0xB8 true) (fun e =>
        e.out = s.dev.out ++ [.readData p pgDIAL 0xB8 (s.dev.start.word ⟨.DIAL, 0, 23⟩)] ∧
        e.get R.DIAL_PPS_CNT_EDGES = s.dev.get R.DIAL_PPS_CNT_EDGES - s.dev.getStart R.DIAL_PPS_CNT_EDGES ∧
        e.get R.DIAL_PPS_CNT_MISSED = s.dev.get R.DIAL_PPS_CNT_MISSED - s.dev.getStart R.DIAL_PPS_CNT_MISSED ∧
        e.get R.DIAL_PPS_CNT_TOD_GOOD = s.dev.get R.DIAL_PPS_CNT_TOD_GOOD - s.dev.getStart R.DIAL_PPS_CNT_TOD_GOOD ∧
        e.get R.DIAL_PPS_CNT_TOD_BAD = s.dev.get R.DIAL_PPS_CNT_TOD_BAD - s.dev.getStart R.DIAL_PPS_CNT_TOD_BAD ∧
        s.dev.agrees e [⟨.DIAL, 0, 23⟩])) ∧
    s.leads (.rcRead p pgDIAL 0xBC false) (fun e => e.regs = s.dev.regs ∧
      e.out = s.dev.out ++ [.readData p pgDIAL 0xBC (s.dev.start.word ⟨.DIAL, 0, 23⟩ >>> 32)]) ∧
    (s.dev.role p = 0 → s.leads (.rcRead p pgDIAL 0xB8 true) (fun e => e.regs = s.dev.regs ∧
      e.out = s.dev.out ++ [.readData p pgDIAL 0xB8 (s.dev.start.word ⟨.DIAL, 0, 23⟩)]))

/-- A write of 1 to ERR_FIRST.VALID clears the error fields of its page. For every state of an awake device, path and present
page that the path reaches and may acknowledge (a block page: any role; an instance page: the operator), other than an
acknowledgement of a FATAL error by the firmware, with the journal able to take it: ERR_ACK makes the three error words of
the page 0 where no error has been detected on the page in the Notch, and where one has, the first of those errors in the
order of R497 is the one ERR_FIRST shows. Registers of other kinds than the error words, HEALTH and the journal read as
before. (R498, R499, R500) -/
def Obligations.AcknowledgementClearsThePageErrors : Prop :=
  ∀ (s : State) (p : Path) (page : Nat) (i : PageInfo), s.dev.awake = true → pageInfo s.dev.variant page = some i →
    i.present = true → s.dev.reaches p page = true → s.dev.mayAck p page = true →
    (p = .firmware → s.dev.get R.HDR_ERR_MORE_MAX_SEV page ≠ 3) → (i.audit && s.dev.journalFull) = false →
    s.leads (.errAck p page) (fun e =>
      ((∀ x ∈ s.dev.errs.now, x.page ≠ page) →
        e.word ⟨.HDR, page, 3⟩ = 0 ∧ e.word ⟨.HDR, page, 4⟩ = 0 ∧ e.word ⟨.HDR, page, 5⟩ = 0) ∧
      (∀ x rest, s.dev.errs.now.filter (fun y => y.page == page) = x :: rest → x.cls < 32 →
        e.get R.HDR_ERR_FIRST_VALID page = 1 ∧ e.get R.HDR_ERR_FIRST_CLASS page = x.cls ∧
        e.get R.HDR_ERR_FIRST_SEV page = classSev x.cls) ∧
      (∀ k : Key, k.sp ≠ .HDR → k.sp ≠ .HEALTH → k.sp ≠ .ROLE → e.word k = s.dev.word k))

/-- UPD_CTRL.HOLD holds the writes of a path to a page and its release performs or drops them. For every state of an awake device
not in Safe Hold, path with a role and present page that it reaches, with the journal able to take the write. On a factory
page, of a path without the maker role, both are role errors and leave the hold. Else UPD_HOLD on a page whose HOLD_OK is 1
for the path makes the hold 1 with DROP as given and changes no register but those of the journal; on a page whose HOLD_OK is
0 it leaves the hold as it was and records a configuration error. UPD_RELEASE empties the bank and ends the hold; with DROP 1
it changes no register but those of the journal, and with DROP 0 the registers are as after the held writes, each performed
as a direct write, in the order they were held, after the journal record of the release itself where there is one (what is
recorded of it is the model’s choice, log entry 112). (R592, R593, R604) -/
def Obligations.HeldWritesWaitForTheirRelease : Prop :=
  ∀ (s : State) (p : Path) (page : Nat) (drop : Bool) (i : PageInfo), s.dev.awake = true →
    pageInfo s.dev.variant page = some i → i.present = true → s.dev.reaches p page = true → s.dev.held = false →
    s.dev.role p ≠ 0 → (s.dev.journals p i.audit && s.dev.journalFull) = false →
    (i.isFactory = true → rolePasses (s.dev.role p) 3 = false → ∀ c ∈ [Instr.updHold p page drop, .updRelease p page drop],
      s.leads c (fun e => e.holdBank p page = s.dev.holdBank p page ∧ ∃ x ∈ e.errs.now, x.page = page ∧ x.cls = 2)) ∧
    (i.isFactory = false ∨ rolePasses (s.dev.role p) 3 = true →
    (holdOk i p = true → s.leads (.updHold p page drop) (fun e =>
      (e.holdBank p page).hold = true ∧ (e.holdBank p page).drop = drop ∧
      s.dev.agrees e [fldKey R.ROLE_JOURNAL_SEQ 0 0, fldKey R.ROLE_EVENTS 0 0] ∧
      ((s.dev.holdBank p page).hold = false → (e.holdBank p page).writes = []) ∧
      ((s.dev.holdBank p page).hold = true → (e.holdBank p page).writes = (s.dev.holdBank p page).writes))) ∧
    (holdOk i p = false → s.leads (.updHold p page drop) (fun e =>
      e.holdBank p page = s.dev.holdBank p page ∧ ∃ x ∈ e.errs.now, x.page = page ∧ x.cls = 1)) ∧
    s.leads (.updRelease p page true) (fun e =>
      s.dev.agrees e [fldKey R.ROLE_JOURNAL_SEQ 0 0, fldKey R.ROLE_EVENTS 0 0] ∧
      e.holdBank p page = { hold := false, drop := true, overflow := false, writes := [] }) ∧
    ((s.dev.holdBank p page).hold = true → s.leads (.updRelease p page false) (fun e =>
      e.regs = (((s.dev.touch p).updControl p page i {}).each (s.dev.holdBank p page).writes (fun d w =>
        d.ownRows (d.writeWord p page (w.off / 8) w.mask w.data) i (w.off / 8))).regs)))

/-- A window READ copies an object into the aperture, and a WRITE writes the writable fields of its dirty words. For every state
of an awake device, and path with a bank of the window that it reaches, in which no window command of the Notch ran. A second
command of a Notch, and in RECOVERY a WRITE of a page that R565 does not serve, reads BUSY and does nothing else. READ of an
object of TABLE, SCHED, CRYPTO, STORE, EVT or HEALTH that lies in the register space, its index in range and no word of it
uncorrectable: DONE, the object’s length, clean dirty bits, the words as they stood at the start of the Notch, then zeros; an
index out of range: BAD_INDEX; a code past the page’s objects: BAD_OBJECT, aperture and registers as before. READ of a cell,
a leaf, a gate, a gate entry and of a thread’s registers gives what that unit held at the start of the Notch; with
uncorrectable words of a flow entry the status is MEM_ERR with WIN_INFO.ERR, and the other words are as they stood. WRITE,
out of Safe Hold: without a READ of the selected object NO_READ; then of a policer, for a role below the page’s ROLE with a
role error, with no dirty word changed DONE, with a bit changed that is not writable BAD_FIELD, and with MODE 3 REFUSED, both
with a configuration error; no register changes. On the EVT page, by an installer or the firmware, with word 0 of a source
record changed in writable bits: DONE with clean dirty bits, the record stays, and the write waits for the end of the Notch;
a write that takes effect makes the masked bits of the record the aperture word’s and keeps the others. With an index in
range, a slice WRITE waits in the same way. The model’s choices, log entries 104 (an uncorrectable word, a cell’s NEXT,
NO_READ before the selection is judged) and 112 (records). (R20, R565, R594, R596, R597, R598, R602) -/
def Obligations.WindowsReadAndWriteObjects : Prop :=
  ∀ (s : State) (p : Path), s.dev.awake = true → pathHasWindow p = true →
    (let d := s.dev
     let quiet := fun (e : Dev) (page st : Nat) => (e.winBank p page).status = st ∧
       (e.winBank p page).data = (d.winBank p page).data ∧ e.regs = d.regs
     let picks := fun (page code : Nat) => d.reaches p page = true ∧ (d.winBank p page).ran = none ∧ (d.winBank p page).object = code
     (∀ page (m : ReadMem), (d.windowOf p page).isSome = true →
       ((d.winBank p page).ran.isSome = true → s.leads (.read p page m) (fun e => quiet e page wsBusy)) ∧
       (d.held = false → (d.winBank p page).ran.isSome = true ∨
           d.stage = bsRecovery ∧ page ≠ pgROLE ∧ page ≠ pgHEALTH ∧ page ≠ pgSSTORE →
         s.leads (.write p page) (fun e => (e.winBank p page).status = wsBusy ∧ e.acc.windowed = d.acc.windowed ∧
           (d.role p ≠ 0 → quiet e page wsBusy)))) ∧
     -- READ
     (∀ x ∈ [(pgTABLE, 1, Space.FLOW, 2 ^ d.variant.flowLog2, 16), (pgTABLE, 3, .ROUTE, 4194304, 8), (pgTABLE, 4, .ROUTEBKT, 1048576, 8),
         (pgTABLE, 5, .MACENT, 524288, 4), (pgTABLE, 6, .MACBKT, 131072, 8), (pgTABLE, 7, .MOVELOG, 32, 2), (pgTABLE, 8, .VRF, 4096, 5),
         (pgTABLE, 9, .FILTER, 1048576, 1), (pgSCHED, 1, .LEAF, 131072, 6), (pgSCHED, 2, .NODE, 32768, 7),
         (pgSCHED, 4, .POLICER, 262144, 9), (pgCRYPTO, 1, .SA, 1048576, 32), (pgSTORE, 1, .CONN, 131072, 16), (pgEVT, 1, .SRC, 2047, 2),
         (pgHEALTH, 2, .BANK, 32, 1)], ∀ m : ReadMem, picks x.1 x.2.1 →
       (let idx := (d.winBank p x.1).index
        (idx < x.2.2.2.1 → m.bad = [] → d.tables.bad = [] → d.units.badSa = [] → d.units.badConn = [] →
          s.leads (.read p x.1 m) (fun e =>
            (e.winBank p x.1).status = wsDone ∧ (e.winBank p x.1).len = 8 * x.2.2.2.2 ∧ (e.winBank p x.1).dirty = 0 ∧
            (e.winBank p x.1).err = false ∧ (e.winBank p x.1).read = some (x.2.1, idx) ∧
            (∀ w, w < x.2.2.2.2 → nth (e.winBank p x.1).data w 0 = d.start.word ⟨x.2.2.1, idx, w⟩) ∧
            (∀ w, x.2.2.2.2 ≤ w → nth (e.winBank p x.1).data w 0 = 0))) ∧
        (x.2.2.2.1 ≤ idx → s.leads (.read p x.1 m) (fun e => quiet e x.1 wsBadIndex)))) ∧
     (∀ x ∈ [(pgTABLE, 10), (pgBASIN, 6), (pgSCHED, 7), (pgCLASSIFY, 2), (pgCRYPTO, 2), (pgSTORE, 2), (pgEVT, 2), (pgHEALTH, 3),
         (pgROLE, 3), (pgGPHYS 0, 6)], ∀ code m, x.2 ≤ code → picks x.1 code →
       s.leads (.read p x.1 m) (fun e => quiet e x.1 wsBadObject)) ∧
     (∀ m : ReadMem, m.bad = [] →
       (∀ page code ws, (page, code, ws) ∈ [(pgBASIN, 1, [d.atStart.cellWord (Config.freeValue (d.fresh + 32)) (d.winBank p pgBASIN).index])] ∧
           (d.winBank p page).index < 393216 ∨
         (page, code, ws) ∈ [(pgBASIN, 3, d.atStart.leafWords (d.winBank p pgBASIN).index),
           (pgSCHED, 5, (List.range 10).map (fun w => d.start.word ⟨.GATE, (d.winBank p pgSCHED).index, w⟩)),
           (pgSCHED, 6, [d.start.word ⟨.GATEENT, (d.winBank p pgSCHED).index, 0⟩]),
           (pgGPHYS 3, 1, (List.range 32).map (d.atStart.thread (winThread 3 (d.winBank p (pgGPHYS 3)).index)).reg)] ∧
           (d.winBank p page).index < 8 →
         picks page code → s.leads (.read p page m) (fun e =>
           (e.winBank p page).status = wsDone ∧ (e.winBank p page).data = ws ++ List.replicate (32 - ws.length) 0))) ∧
     (∀ m : ReadMem, picks pgTABLE 1 → (d.winBank p pgTABLE).index < 2 ^ d.variant.flowLog2 → (∃ w ∈ m.bad, w < 16) →
       s.leads (.read p pgTABLE m) (fun e => (e.winBank p pgTABLE).status = wsMemErr ∧ (e.winBank p pgTABLE).err = true ∧
         ∀ w, w < 16 → w ∉ m.bad → d.tables.bad = [] →
           nth (e.winBank p pgTABLE).data w 0 = d.start.word ⟨.FLOW, (d.winBank p pgTABLE).index, w⟩)) ∧
     -- WRITE
     (d.held = false → d.stage ≠ bsRecovery → ∀ page, page ∈ [pgTABLE, pgBASIN, pgSCHED, pgCLASSIFY, pgCRYPTO, pgSTORE, pgHEALTH, pgROLE] →
       d.reaches p page = true → (d.winBank p page).ran = none → d.role p ≠ 0 →
       (d.winBank p page).read ≠ some ((d.winBank p page).object, (d.winBank p page).index) →
       s.leads (.write p page) (fun e => (e.winBank p page).status = wsNoRead ∧ e.acc.windowed = d.acc.windowed)) ∧
     (d.held = false → d.stage ≠ bsRecovery → picks pgSCHED 4 →
       let b := d.winBank p pgSCHED
       let idx := b.index
       let err := fun (e : Dev) (cls : Nat) => ∃ x ∈ e.errs.now, x.page = pgSCHED ∧ x.cls = cls
       let ends := fun (e : Dev) (st : Nat) => (e.winBank p pgSCHED).status = st ∧ e.acc.windowed = d.acc.windowed ∧
         ∀ w, e.word ⟨.POLICER, idx, w⟩ = d.word ⟨.POLICER, idx, w⟩
       idx < 262144 → b.read = some (4, idx) →
         (d.role p < 1 → s.leads (.write p pgSCHED) (fun e => ends e wsRole ∧ err e 2)) ∧
         (1 ≤ d.role p → (∀ w, w < 32 → b.dirty.testBit w = true → nth b.data w 0 = nth b.staged w 0) →
           s.leads (.write p pgSCHED) (fun e => ends e wsDone ∧ (e.winBank p pgSCHED).dirty = 0)) ∧
         (1 ≤ d.role p → (∃ w, w < 32 ∧ b.dirty.testBit w = true ∧
             (nth b.data w 0 ^^^ nth b.staged w 0) &&& ~~~(if w < 9 then d.placeMask .POLICER idx w else 0) ≠ 0) →
           s.leads (.write p pgSCHED) (fun e => ends e wsBadField ∧ err e 1)) ∧
         (1 ≤ d.role p → b.dirty = 1 → nth b.data 0 0 ≠ nth b.staged 0 0 →
           (nth b.data 0 0 ^^^ nth b.staged 0 0) &&& ~~~(d.placeMask .POLICER idx 0) = 0 → (nth b.data 0 0).field R.POLICER_W0_MODE.lo R.POLICER_W0_MODE.w = 3 →
           s.leads (.write p pgSCHED) (fun e => ends e wsRefused ∧ err e 1))) ∧
     (d.stage ≠ bsRecovery → picks pgEVT 1 →
       let b := d.winBank p pgEVT
       let idx := b.index
       b.read = some (1, idx) → idx < 2047 → 2 ≤ d.role p → d.roles.buffer.length < 1024 → d.acc.windowed = [] → b.dirty = 1 →
         nth b.data 0 0 ≠ nth b.staged 0 0 →
         (nth b.data 0 0 ^^^ nth b.staged 0 0) &&& ~~~(d.placeMask .SRC idx 0) = 0 →
         s.leads (.write p pgEVT) (fun e =>
          e.word ⟨.SRC, idx, 0⟩ = d.word ⟨.SRC, idx, 0⟩ ∧ (e.winBank p pgEVT).status = wsDone ∧ (e.winBank p pgEVT).dirty = 0 ∧
          e.acc.windowed =
            [{ path := p, session := d.session p.bank, page := pgEVT, object := 1, index := idx
               words := [(0, (d.placeMask .SRC idx 0, nth b.data 0 0))] }])) ∧
     (d.held = false → d.stage ≠ bsRecovery → picks pgINSTCTL 1 → d.role p ≠ 0 → (d.winBank p pgINSTCTL).index < 65536 →
       s.leads (.write p pgINSTCTL) (fun e => (e.winBank p pgINSTCTL).status = wsDone ∧ e.regs = d.regs ∧
         ∃ x : WinWrite, e.acc.windowed = d.acc.windowed ++ [x] ∧ x.path = p ∧ x.index = (d.winBank p pgINSTCTL).index ∧
           ∀ w, w < 32 → ((w ∈ x.words.map Prod.fst) ↔ (d.winBank p pgINSTCTL).dirty.testBit w = true)))) ∧
    ∀ (d : Dev) (q : Path) (l : Option Session) (idx : Nat) (m x : Word), idx < 2047 →
      (d.serveWindowed ⟨q, l, pgEVT, 1, idx, [(0, (m, x))]⟩).word ⟨.SRC, idx, 0⟩ =
        (d.word ⟨.SRC, idx, 0⟩ &&& ~~~m) ||| (x &&& m)

/-- APPLY_MODE puts a lane group’s mode in force or is refused, and RECAL takes one port DOWN. For every state of an awake device
and path whose command on the lane group’s page is performed, with no recalibration running on the group. APPLY_MODE with a
mode that has no reserved quad code and with every port of the group in service at ADMIN 0 reads back OK (0), and of the
eight port numbers those of the new mode have LINK DOWN and their lanes, the others LINK 3 (not in service) and no lanes. A
reserved quad mode reads back status 3, a port in service with ADMIN 1 status 2, and neither changes a port’s LINK. RECAL of
a port of the group that is in service takes it DOWN, reads back PENDING (5) and ends at the latest 781,250 Notches later; of
another port it reads back status 4 (for a port in service of the other group the model’s choice, log entry 144). (R86, R87,
R88, R97) -/
def Obligations.LaneGroupCommandsPutModesInForce : Prop :=
  ∀ (s : State) (p : Path) (g : Nat), s.dev.awake = true → g < 2 → s.dev.accepts p (pgLANEGRP g) = true →
    s.dev.recalBusy g = false →
    (let gm := s.dev.get R.LANEGRP_MODE_GMODE g
     let q0 := s.dev.get R.LANEGRP_MODE_QMODE0 g
     let q1 := s.dev.get R.LANEGRP_MODE_QMODE1 g
     let running := ∃ k, k < 8 ∧ s.dev.portInService (8 * g + k) = true ∧ s.dev.get R.PORT_CTRL_ADMIN (8 * g + k) = 1
     ((gm = 0 ∨ (q0 < 6 ∧ q1 < 6)) → ¬ running → s.leads (.applyMode p g) (fun e =>
        e.get R.LANEGRP_CMD_STATUS g = 0 ∧
        ∀ k, k < 8 → match assoc (groupPorts g gm q0 q1) (8 * g + k) with
          | some n => e.get R.PORT_STATUS_LINK (8 * g + k) = 0 ∧ e.get R.PORT_STATUS_LANES (8 * g + k) = n
          | none => e.get R.PORT_STATUS_LINK (8 * g + k) = 3 ∧ e.get R.PORT_STATUS_LANES (8 * g + k) = 0)) ∧
     (gm = 1 → (6 ≤ q0 ∨ 6 ≤ q1) → s.leads (.applyMode p g) (fun e => e.get R.LANEGRP_CMD_STATUS g = 3 ∧
        ∀ k, e.get R.PORT_STATUS_LINK k = s.dev.get R.PORT_STATUS_LINK k)) ∧
     ((gm = 0 ∨ (q0 < 6 ∧ q1 < 6)) → running → s.leads (.applyMode p g) (fun e => e.get R.LANEGRP_CMD_STATUS g = 2 ∧
        ∀ k, e.get R.PORT_STATUS_LINK k = s.dev.get R.PORT_STATUS_LINK k))) ∧
    (∀ n, n / 8 = g → s.dev.portInService n = true → s.leads (.recal p g n) (fun e =>
      e.get R.PORT_STATUS_LINK n = 0 ∧ e.get R.LANEGRP_CMD_STATUS g = 5 ∧
      assoc e.ports.recal n = some (s.dev.dial.notch + 781250))) ∧
    (∀ n, (n / 8 ≠ g ∨ s.dev.portInService n = false) → s.leads (.recal p g n) (fun e =>
      e.get R.LANEGRP_CMD_STATUS g = 4 ∧ e.ports = s.dev.ports))

/-- A link goes DOWN, TRAINING and UP, and its loss ends pauses and records the error. For every state of an awake device whose
data path flows and port in service. LINK_TRAINING_START with ADMIN 1 and LINK DOWN at the start of the Notch, and LINK still
DOWN, makes LINK TRAINING (1); LINK_UP from TRAINING makes it UP (2) and sets event bit 0; LINK_TRAINING_FAIL in TRAINING
leaves it TRAINING (the model’s choice, log entry 21), sets event bit 3 and records an error of class 3 on the port’s page;
LINK_DOWN from TRAINING or UP makes it DOWN (0), with no class of the port paused, no frame arriving on it, event bit 1 set
and the same error recorded. From other states LINK_TRAINING_START, LINK_UP and LINK_DOWN change nothing. ADMIN_DOWN accepted
while a frame is in transmission leaves LINK as it is and the port closing, with ADMIN 0 and no frame arriving (that a
closing port takes none is the model’s choice, log entry 117); with none in transmission it makes LINK DOWN. (R92, R93, R94,
R95, R494) -/
def Obligations.LinksFollowTheirStates : Prop :=
  ∀ (s : State) (n : Nat), s.dev.awake = true → s.dev.flows = true → s.dev.portInService n = true →
    (s.dev.getStart R.PORT_CTRL_ADMIN n = 1 → s.dev.getStart R.PORT_STATUS_LINK n = 0 → s.dev.get R.PORT_STATUS_LINK n = 0 →
      s.leads (.linkTrainingStart n) (fun e => e.get R.PORT_STATUS_LINK n = 1 ∧ e.basin = s.dev.basin)) ∧
    ((s.dev.getStart R.PORT_CTRL_ADMIN n = 0 ∨ s.dev.getStart R.PORT_STATUS_LINK n ≠ 0 ∨
        s.dev.get R.PORT_STATUS_LINK n ≠ 0) → s.leads (.linkTrainingStart n) (fun e => e = s.dev)) ∧
    (s.dev.get R.PORT_STATUS_LINK n = 1 →
      s.leads (.linkUp n) (fun e => e.get R.PORT_STATUS_LINK n = 2 ∧ (e.get R.PORT_EVENTS n).testBit 0 = true ∧
        s.dev.agrees e [fldKey R.PORT_STATUS_LINK n 0, fldKey R.PORT_EVENTS n 0]) ∧
      s.leads (.linkTrainingFail n) (fun e => e.get R.PORT_STATUS_LINK n = 1 ∧ (e.get R.PORT_EVENTS n).testBit 3 = true ∧
        ∃ x ∈ e.errs.now, x.page = pgPORT n ∧ x.cls = 3)) ∧
    (s.dev.get R.PORT_STATUS_LINK n ≠ 1 → s.leads (.linkUp n) (fun e => e = s.dev)) ∧
    (s.dev.get R.PORT_STATUS_LINK n ≠ 0 → s.leads (.linkDown n) (fun e => e.get R.PORT_STATUS_LINK n = 0 ∧
      e.get R.PORT_STATUS_TX_PAUSED n = 0 ∧ (∀ c, assoc e.ports.pauses (n, c) = none) ∧ assoc e.ports.rx n = none ∧
      (e.get R.PORT_EVENTS n).testBit 1 = true ∧ ∃ x ∈ e.errs.now, x.page = pgPORT n ∧ x.cls = 3)) ∧
    (s.dev.get R.PORT_STATUS_LINK n = 0 → s.leads (.linkDown n) (fun e => e = s.dev)) ∧
    (∀ p, s.dev.admits p (pgPORT n) = true →
      ((s.dev.txFrame n).isSome = true → s.leads (.adminDown p n) (fun e => e.get R.PORT_CTRL_ADMIN n = 0 ∧
        e.get R.PORT_STATUS_LINK n = s.dev.get R.PORT_STATUS_LINK n ∧ n ∈ e.ports.closing ∧
        assoc e.ports.rx n = none ∧ (assoc s.dev.ports.rx n = none → e.basin = s.dev.basin))) ∧
      (s.dev.txFrame n = none → s.leads (.adminDown p n) (fun e => e.get R.PORT_STATUS_LINK n = 0)))

/-- An FEC window sets or clears FEC_DEGRADED, and a drifted lane sets CAL_DRIFT. For every state of an awake device whose data
path flows and port in service. FEC_WINDOW, at least 15,625,000 Notches after the window began, with c corrected, u
uncorrectable and r received codewords: FEC_CORR_CW and FEC_UNCORR_CW rise by c and u; where u times 10^9 exceeds r,
STATUS.FEC_DEGRADED is 1 and event bit 2 set; otherwise FEC_DEGRADED is 0; the next window begins in this Notch; earlier than
that nothing changes. That the first window begins with the device and each other where the last ended, whatever the link
does, is the model’s choice, log entry 22; by it a port that left service within the window still counts its codewords, and
nothing else of it changes. CAL_DRIFT sets event bit 4; where the lane stays past its limit after RECAL, an error of class 20
is recorded on the lane group’s page and replacement reason 6 is set. (R96, R97, R494, R513) -/
def Obligations.PortWatchesMarkDegradedLanes : Prop :=
  (∀ (s : State) (n c u r : Nat), s.dev.awake = true → s.dev.flows = true → n < 16 → s.dev.portInService n = false →
    (assoc s.dev.ports.fecFrom n).getD 0 + 15625000 ≤ s.dev.dial.notch → s.leads (.fecWindow n c u r) (fun e =>
      e.get R.PORT_FEC_CORR_CW n = saturate R.PORT_FEC_CORR_CW.w (s.dev.get R.PORT_FEC_CORR_CW n + c) ∧
      e.get R.PORT_FEC_UNCORR_CW n = saturate R.PORT_FEC_UNCORR_CW.w (s.dev.get R.PORT_FEC_UNCORR_CW n + u) ∧
      s.dev.agrees e [fldKey R.PORT_FEC_CORR_CW n 0, fldKey R.PORT_FEC_UNCORR_CW n 0])) ∧
  ∀ (s : State) (n : Nat), s.dev.awake = true → s.dev.flows = true → s.dev.portInService n = true →
    (∀ c u r, (assoc s.dev.ports.fecFrom n).getD 0 + 15625000 ≤ s.dev.dial.notch →
      s.leads (.fecWindow n c u r) (fun e =>
        e.get R.PORT_STATUS_FEC_DEGRADED n = (if r < u * 1000000000 then 1 else 0) ∧
        (r < u * 1000000000 → (e.get R.PORT_EVENTS n).testBit 2 = true) ∧
        (u * 1000000000 ≤ r → e.get R.PORT_EVENTS n = s.dev.get R.PORT_EVENTS n) ∧
        e.get R.PORT_FEC_CORR_CW n = saturate R.PORT_FEC_CORR_CW.w (s.dev.get R.PORT_FEC_CORR_CW n + c) ∧
        e.get R.PORT_FEC_UNCORR_CW n = saturate R.PORT_FEC_UNCORR_CW.w (s.dev.get R.PORT_FEC_UNCORR_CW n + u) ∧
        assoc e.ports.fecFrom n = some s.dev.dial.notch)) ∧
    (∀ c u r, s.dev.dial.notch < (assoc s.dev.ports.fecFrom n).getD 0 + 15625000 →
      s.leads (.fecWindow n c u r) (fun e => e = s.dev)) ∧
    (∀ lane, s.leads (.calDrift n lane false) (fun e => (e.get R.PORT_EVENTS n).testBit 4 = true ∧
      s.dev.agrees e [fldKey R.PORT_EVENTS n 0])) ∧
    (∀ lane, s.leads (.calDrift n lane true) (fun e => (e.get R.PORT_EVENTS n).testBit 4 = true ∧
      (e.get R.HEALTH_REPLACE_REASONS).testBit 6 = true))

/-- PAUSE and PFC frames set and end the pause timers of their classes, and their sending is counted. For every state of an awake
device whose data path flows. PAUSE_RECEIVED, and PFC_RECEIVED, of a port takes the oldest frame of that kind that the port
keeps, and counts it in RX_PAUSE or RX_PFC; it changes nothing where the port keeps none. With FC_IGNORE 1, or a receive mode
that does not obey the kind, RX_FC_IGNORED counts it too and no pause changes. Otherwise each class with 0 quanta is no
longer paused, and each class with q quanta is paused until q times 512 bit times, rounded up to Notches at the port’s rate,
have passed. PAUSE_TIMER_EXPIRY of a class whose timer has run out ends its pause. FLOW_CONTROL_SEND with the link UP and no
frame in transmission sends the oldest frame due and counts it in TX_PFC or TX_PAUSE. PFC_REFRESH, REFRESH Notches after the
latest XOFF while the class stays above XON_CELLS and TX_MODE and PFC_TX_EN serve it, queues the frame again; where they do
not serve it, nothing changes (what a change of TX_MODE leaves of a condition already begun is the model’s choice, log entry
114). (R102, R103, R104, R105, R106, R108, R109, R121) -/
def Obligations.FlowControlFramesSetAndEndPauses : Prop :=
  ∀ (s : State) (n : Nat), s.dev.awake = true → s.dev.flows = true →
    (∀ (c : FlowFrame) (older rest : List FlowFrame), s.dev.ports.control = older ++ c :: rest → c.port = n →
      c.notch ≤ s.dev.dial.notch → (∀ x ∈ older, ¬ (x.port = n ∧ x.pfc = c.pfc ∧ x.notch ≤ s.dev.dial.notch)) →
      let kind := if c.pfc then R.PORT_RX_PFC else R.PORT_RX_PAUSE
      let ignored := s.dev.get R.PORT_FC_CFG_FC_IGNORE n = 1 ∨ (c.pfc = true ∧ s.dev.get R.PORT_FC_CFG_RX_MODE n = 0) ∨
        (c.pfc = false ∧ s.dev.get R.PORT_FC_CFG_RX_MODE n = 1)
      (ignored → s.leads (if c.pfc then .pfcReceived n else .pauseReceived n) (fun e =>
        e.ports = { s.dev.ports with control := older ++ rest } ∧
        e.get kind n = saturate kind.w (s.dev.get kind n + 1) ∧
        e.get R.PORT_RX_FC_IGNORED n = saturate R.PORT_RX_FC_IGNORED.w (s.dev.get R.PORT_RX_FC_IGNORED n + 1) ∧
        s.dev.agrees e [fldKey kind n 0, fldKey R.PORT_RX_FC_IGNORED n 0])) ∧
      (¬ ignored → s.leads (if c.pfc then .pfcReceived n else .pauseReceived n) (fun e =>
        e.ports.control = older ++ rest ∧ e.get kind n = saturate kind.w (s.dev.get kind n + 1) ∧
        s.dev.agrees e [fldKey kind n 0, fldKey R.PORT_STATUS_TX_PAUSED n 0] ∧
        (∀ k, k < 8 → nth c.quanta k none = some 0 →
          assoc e.ports.pauses (n, k) = none ∧ (e.get R.PORT_STATUS_TX_PAUSED n).testBit k = false) ∧
        (∀ k q, k < 8 → nth c.quanta k none = some q → q ≠ 0 →
          assoc e.ports.pauses (n, k) =
            some (s.dev.dial.notch + (q * 512 + s.dev.portRate n * 6400 - 1) / (s.dev.portRate n * 6400)) ∧
          (e.get R.PORT_STATUS_TX_PAUSED n).testBit k = true) ∧
        (∀ k, k < 8 → nth c.quanta k none = none → assoc e.ports.pauses (n, k) = assoc s.dev.ports.pauses (n, k))))) ∧
    ((∀ c ∈ s.dev.ports.control, c.port ≠ n) →
      s.leads (.pauseReceived n) (fun e => e = s.dev) ∧ s.leads (.pfcReceived n) (fun e => e = s.dev)) ∧
    (∀ k t, k < 8 → assoc s.dev.ports.pauses (n, k) = some t → t ≤ s.dev.dial.notch →
      s.leads (.pauseTimerExpiry n k) (fun e => assoc e.ports.pauses (n, k) = none ∧
        (e.get R.PORT_STATUS_TX_PAUSED n).testBit k = false)) ∧
    (∀ (x : FlowSend) (older rest : List FlowSend), s.dev.ports.sends = older ++ x :: rest → x.port = n →
      x.notch < s.dev.dial.notch → (∀ y ∈ older, ¬ (y.port = n ∧ y.notch < s.dev.dial.notch)) →
      s.dev.get R.PORT_STATUS_LINK n = 2 → s.dev.txFrame n = none →
      s.leads (.flowControlSend n) (fun e => e.ports = { s.dev.ports with sends := older ++ rest } ∧
        e.out = s.dev.out ++ [.flowControl n x.pfc (if x.pfc then 2 ^ x.cls else 255) x.quanta] ∧
        (let sent := if x.pfc then R.PORT_TX_PFC else R.PORT_TX_PAUSE
         e.get sent n = saturate sent.w (s.dev.get sent n + 1)) ∧
        (x.quanta ≠ 0 → (e.get R.PORT_EVENTS n).testBit 5 = true))) ∧
    (∀ k t, assoc s.dev.ports.xoff (n, k) = some t → t + s.dev.get R.PORT_FC_CFG_REFRESH n ≤ s.dev.dial.notch →
      s.dev.flowOn n k = true → s.dev.get R.PORT_PFC_THRESH_XON_CELLS n < s.dev.flowCells n k →
      s.leads (.pfcRefresh n k) (fun e => assoc e.ports.xoff (n, k) = some s.dev.dial.notch ∧
        e.ports.sends = s.dev.ports.sends ++
          [⟨n, k != 8, k, s.dev.get R.PORT_FC_CFG_TX_QUANTA n, s.dev.dial.notch⟩] ∧ e.regs = s.dev.regs)) ∧
    (∀ k, s.dev.flowOn n k = false → s.leads (.pfcRefresh n k) (fun e => e = s.dev))

/-- A received frame is dropped as a runt, by the filters or for want of a cell, or written to the Basin. For every state of an
awake device whose data path flows, port in service, not closing, with its link UP and no frame arriving on it. The only
bytes of a frame: fewer than 64 are counted as a runt and leave the Basin as it was; 64 or more, not a MAC control frame,
that the filters drop are counted in RX_FILTER_DROP; that the filters accept while no cell is granted to the port are counted
in RX_NOCELL (that a pool of granted cells stands before the frame is the model’s choice, log entry 18; the filters are those
of the Notch of the event, log entry 116); all of these leave no frame arriving and the frames of the Basin as they were. The
first 64 to 256 bytes within RX_MAX_LEN of an accepted frame, with a cell h granted that heads no frame, put a frame in the
Basin with head h, these bytes, this ingress and the filter’s class, arriving and incomplete. (R98, R99, R100, R101) -/
def Obligations.ReceivedFramesAreJudgedInOrder : Prop :=
  ∀ (s : State) (n sub : Nat) (bs : List Byte), s.dev.awake = true → s.dev.flows = true → s.dev.portInService n = true →
    s.dev.get R.PORT_STATUS_LINK n = 2 → assoc s.dev.ports.rx n = none → s.dev.ports.closing.contains n = false →
    (∀ good, bs.length < 64 → s.leads (.frameReceive n sub bs true good) (fun e =>
      e.get R.PORT_RX_RUNT n = saturate R.PORT_RX_RUNT.w (s.dev.get R.PORT_RX_RUNT n + 1) ∧ e.basin = s.dev.basin ∧
      assoc e.ports.rx n = none ∧ s.dev.agrees e [fldKey R.PORT_RX_RUNT n 0])) ∧
    (∀ good, 64 ≤ bs.length → beField bs 12 2 ≠ 0x8808 → s.dev.filterClass n (bs.take 64) = none →
      s.leads (.frameReceive n sub bs true good) (fun e =>
        e.get R.PORT_RX_FILTER_DROP n = saturate R.PORT_RX_FILTER_DROP.w (s.dev.get R.PORT_RX_FILTER_DROP n + 1) ∧
        e.basin = s.dev.basin ∧ assoc e.ports.rx n = none ∧ s.dev.agrees e [fldKey R.PORT_RX_FILTER_DROP n 0])) ∧
    (∀ good c, 64 ≤ bs.length → beField bs 12 2 ≠ 0x8808 → s.dev.filterClass n (bs.take 64) = some c →
      s.dev.grantedTo n = [] → s.leads (.frameReceive n sub bs true good) (fun e =>
        e.get R.PORT_RX_NOCELL n = saturate R.PORT_RX_NOCELL.w (s.dev.get R.PORT_RX_NOCELL n + 1) ∧
        e.basin = s.dev.basin ∧ assoc e.ports.rx n = none ∧ s.dev.agrees e [fldKey R.PORT_RX_NOCELL n 0])) ∧
    (∀ good c h rest, 64 ≤ bs.length → bs.length ≤ 256 → bs.length ≤ s.dev.get R.PORT_CTRL_RX_MAX_LEN n →
      beField bs 12 2 ≠ 0x8808 → s.dev.filterClass n (bs.take 64) = some c → s.dev.grantedTo n = h :: rest →
      s.dev.frame? h = none → s.leads (.frameReceive n sub bs false good) (fun e =>
        assoc e.ports.rx n = some (.basin h bs.length false, []) ∧
        ∃ f, e.frame? h = some f ∧ f.bytes = bs ∧ f.ingress = n ∧ f.cls0 = c ∧ f.stage = .arriving ∧ f.complete = false ∧
          f.errored = false ∧ f.arrival = s.dev.dial.notch ∧ f.cells = [(h, bs.length)]))

/-- ENTER_STANDBY powers all but the detector down, a match starts the device with WAKE# low, and WAKE# is released. For every
state of an awake device and path whose command on the WAKE page is performed, with none in progress there: ENTER_STANDBY
while a tenant instance is neither FREE nor QUIESCED reads back status 2 and stays out of Standby; while a recalibration or a
write of persistent settings runs, status 1; otherwise it reads PENDING (4), the Basin holds no frame and the data path
stands still, and the boundary that ends the next Notch leaves the device in Standby (the model’s choice of that time, log
entry 118). In Standby with supply, WAKE_MATCH of a good frame that matches pattern n and no enabled magic packet begins a
start: the device is out of Standby, WAKE# is low, STAGE is ROM, the Notch count 0, WAKE.CAUSE names a pattern (1) and n;
where only the magic packet matches, it names that (2). WAKE_RELEASE_TIMEOUT, 15,625,000 Notches after STAGE first read
SERVICE, releases WAKE#. (R114, R115, R116, R117) -/
def Obligations.StandbyIsEnteredAndWokenFrom : Prop :=
  (∀ (s : State) (p : Path) (w : StoreWrite), s.dev.awake = true → s.dev.accepts p pgWAKE = true →
    s.dev.cmdBusy wakeKey = false →
    (let busyInst := (s.dev.touched .INST).any (fun i => i != 0 && s.dev.instState i != stFree && s.dev.instState i != stQuiesced)
     (busyInst = true → s.leads (.enterStandby p w) (fun e =>
        e.wake = s.dev.wake ∧ e.get R.WAKE_CMD_STATUS = 2 ∧ e.basin = s.dev.basin)) ∧
     (busyInst = false → (s.dev.ports.recal ≠ [] ∨ s.dev.installNow (fun t => t == 2) = true) → s.leads (.enterStandby p w) (fun e =>
        e.wake = s.dev.wake ∧ e.get R.WAKE_CMD_STATUS = 1 ∧ e.basin = s.dev.basin)) ∧
     (busyInst = false → s.dev.ports.recal = [] → s.dev.installNow (fun t => t == 2) = false →
       s.leads (.enterStandby p w) (fun e =>
        e.get R.WAKE_CMD_STATUS = 4 ∧ e.wake.leaving = some (s.dev.dial.notch, w) ∧ e.flows = false ∧
        e.basin.frames = [])))) ∧
  (∀ (s : State) (n : Nat) (w : StoreWrite), s.dev.awake = true → s.dev.wake.leaving = some (n, w) →
    n < s.dev.dial.notch → s.leads .notchTick (fun e =>
      e.wake.standby = true ∧ e.awake = false ∧ e.dial.ppsOut = false ∧ e.wake.savedPatterns.length = 8)) ∧
  (∀ (s : State) (f : List Byte), s.dev.boot.off = false → s.dev.wake.standby = true →
    (∀ n, s.dev.wake.pattern f = some n → s.dev.wake.magic f = false → s.leads (.wakeMatch f true) (fun e =>
      e.wake.standby = false ∧ e.wake.pinLow = true ∧ e.get R.BOOT_STATUS_STAGE = 0 ∧ e.dial.notch = 0 ∧
      e.get R.WAKE_CAUSE_CAUSE = 1 ∧ e.get R.WAKE_CAUSE_PATTERN = n)) ∧
    (s.dev.wake.pattern f = none → s.dev.wake.magic f = true → s.leads (.wakeMatch f true) (fun e =>
      e.wake.standby = false ∧ e.wake.pinLow = true ∧ e.get R.BOOT_STATUS_STAGE = 0 ∧ e.dial.notch = 0 ∧
      e.get R.WAKE_CAUSE_CAUSE = 2))) ∧
  (∀ (s : State) (n : Nat), s.dev.awake = true → s.dev.wake.serviceAt = some n → n + 15625000 ≤ s.dev.dial.notch →
    s.leads .wakeReleaseTimeout (fun e => e.wake.pinLow = false ∧ e.regs = s.dev.regs))

/-- A cell grant gives an ingress a free cell while one is free and it holds fewer than its MAX. For every state of an awake
device whose data path flows, an ingress i below its MAX, and b the bank of the cell granted to it before: the latest of its
granted cells, else the last of its frame that arrives, else the bank of its latest first cell, else 31. Where some cell of a
bank in service is not used (granted, held, about to be freed or leaked), CELL_GRANT gives i, after the cells it was granted
before, one such cell, the one that Dev.cellAfter finds from the bank after b onward; it raises the cells that i holds by
one, and leaves the frames of the Basin as they are; with no cell of i before it in pool or frame, the bank of that cell is
the one i’s next first cell starts after. Where no such cell is free, Dev.cellAfter gives none and the device stays as it
was; so it does for an ingress at its MAX and for a number that is no ingress. That cells are granted to a pool before their
frame is the model’s choice, log entry 18. (R284, R292, R309) -/
def Obligations.CellsAreGrantedWhileFree : Prop :=
  ∀ (s : State) (i pick : Nat), s.dev.awake = true → s.dev.flows = true →
    (20 ≤ i ∨ s.dev.get R.BASIN_ING_CFG_MAX 0 i ≤ s.dev.get R.BASIN_ING_HELD_CELLS 0 i →
      s.leads (.cellGrant i pick) (fun e => e = s.dev)) ∧
    (i < 20 → s.dev.get R.BASIN_ING_HELD_CELLS 0 i < s.dev.get R.BASIN_ING_CFG_MAX 0 i →
      let free := fun (c : Nat) => c < 393216 ∧ s.dev.bankInService (c % 32) = true ∧ c ∉ s.dev.usedCells
      let arriving := s.dev.basin.frames.find? (fun f => f.ingress == i && !f.complete)
      let before := (s.dev.grantedTo i).getLast?.orElse (fun _ => arriving.bind (fun f => f.cells.getLast?.map Prod.fst))
      let b := before.elim ((assoc s.dev.basin.lastFirst i).getD 31) (fun c => c % 32)
      ((∃ c, free c) ↔ (s.dev.cellAfter b pick).isSome = true) ∧
      (∀ c, s.dev.cellAfter b pick = some c → free c ∧ s.leads (.cellGrant i pick) (fun e =>
        e.grantedTo i = s.dev.grantedTo i ++ [c] ∧ (∀ j, j ≠ i → e.grantedTo j = s.dev.grantedTo j) ∧
        e.get R.BASIN_ING_HELD_CELLS 0 i = saturate R.BASIN_ING_HELD_CELLS.w (s.dev.get R.BASIN_ING_HELD_CELLS 0 i + 1) ∧
        e.basin.frames = s.dev.basin.frames ∧ (before = none → assoc e.basin.lastFirst i = some (c % 32)))) ∧
      (s.dev.cellAfter b pick = none → s.leads (.cellGrant i pick) (fun e => e = s.dev)))

/-- A frame’s ticket is created, stamped and queued by its dealer, and dispatched to an idle thread. For every state of an awake
device whose data path flows. TICKET_CREATE with a frame f the first of its ingress that arrives and whose window was
complete in an earlier Notch: f’s ticket, with the window of its first 256 bytes, waits at the dealer and f is ticketed and
its record holds the ticket, whose INSTANCE is the ring owner’s on ingress 16 and 17 and 0 on the others; with no such frame
nothing changes. DEAL of a waiting ticket, with an open slot k next, a SEQ in the window and fewer than 256 dealt in the
Notch: the ticket no longer waits, stands in k’s queue with the ingress’s SEQ, SLOT k and k’s epoch, and the SEQ rises by one
modulo 2^32. DISPATCH of a slot whose Glen holds it, with a ticket at the head of the queue, core c chosen and thread t its
lowest idle one: the ticket leaves the queue and t is ready at the packet entry with it, every register 0. (R65, R69, R70,
R131, R231, R232, R233, R286) -/
def Obligations.TicketsAreCreatedDealtAndDispatched : Prop :=
  (∀ (s : State) (i : Nat), s.dev.awake = true → s.dev.flows = true →
    (∀ f, s.dev.basin.frames.find? (fun f => f.ingress == i && decide (f.stage = .arriving) &&
        f.winNotch.any (fun n => decide (n < s.dev.dial.notch))) = some f →
      s.leads (.ticketCreate i) (fun e =>
        e.defile.waiting = s.dev.defile.waiting ++ [{ tk := newTicket f, win := f.bytes.take 256 }] ∧
        e.frame? f.head = (s.dev.frame? f.head).map (fun x => { x with stage := .ticketed, tk := newTicket f }) ∧ e.regs = s.dev.regs)) ∧
    ((∀ f ∈ s.dev.basin.frames, f.ingress = i → f.stage = .arriving → ∀ n, f.winNotch = some n → s.dev.dial.notch ≤ n) →
      s.leads (.ticketCreate i) (fun e => e = s.dev))) ∧
  (∀ f : Frame, f.back = none → (newTicket f).get T.INGRESS = f.ingress % 32 ∧ (newTicket f).get T.HEAD_CELL = f.head % 2 ^ 20 ∧
    (newTicket f).get T.PARTIAL = (if f.complete then 0 else 1) ∧ (newTicket f).get T.WIN_LEN = min 256 f.bytes.length ∧
    (newTicket f).get T.CLASS = f.cls0 % 8 ∧
    (newTicket f).get T.INSTANCE = (if f.ingress = 16 ∨ f.ingress = 17 then f.origin.getD 0 % 4096 else 0)) ∧
  (∀ (s : State) (i k : Nat) (p : Pkt), s.dev.awake = true → s.dev.flows = true → i < 20 → k < 16 →
    s.dev.defile.waiting.find? (fun p => p.tk.get T.INGRESS == i) = some p → p.tk.q.length = 8 →
    s.dev.nextSlot i = some k → s.dev.seqFits i = true → (assoc s.dev.defile.dealtNow i).getD 0 < 256 →
    s.leads (.deal ⟨i, false⟩) (fun e => e.defile.waiting = s.dev.defile.waiting.erase p ∧
      e.dealSeq i = (s.dev.dealSeq i + 1) % 2 ^ 32 ∧
      ∃ x ∈ (e.slot k).queue, x.1 = s.dev.dial.notch ∧ x.2.win = p.win ∧ x.2.tk.get T.SEQ = s.dev.dealSeq i ∧
        x.2.tk.get T.SLOT = k ∧ x.2.tk.get T.EPOCH = s.dev.get R.GLEN_SLOT_EPOCH 0 k)) ∧
  (∀ (s : State) (k c t : Nat) (x : Nat × Pkt) rest ts, s.dev.awake = true → s.dev.flows = true →
    s.dev.glHolds (s.dev.get R.GLEN_SLOT_PHYS 0 k) = true → (s.dev.slot k).queue = x :: rest →
    s.dev.dispatchCore (s.dev.get R.GLEN_SLOT_PHYS 0 k) = some c →
    s.dev.idleThreads (s.dev.get R.GLEN_SLOT_PHYS 0 k) c = t :: ts →
    s.leads (.dispatch ⟨k, false⟩) (fun e => (e.slot k).queue = rest ∧
      e.thread (.glen (s.dev.get R.GLEN_SLOT_PHYS 0 k) c t) =
        { st := .ready, pc := (s.dev.glen (s.dev.get R.GLEN_SLOT_PHYS 0 k)).entryPacket, pkt := some x.2,
          halted := (s.dev.thread (.glen (s.dev.get R.GLEN_SLOT_PHYS 0 k) c t)).halted
          stepping := (s.dev.thread (.glen (s.dev.get R.GLEN_SLOT_PHYS 0 k) c t)).stepping }))

/-- The Defile releases tickets in sequence, holds early ones, passes late ones and skips lost ones. For every state of an awake
device whose data path flows, ticket p first on a Glen’s fabric path, its ingress i below 20 with nothing held and nothing
skipped. DEFILE_ARRIVAL with p’s epoch current: p at the head of the sequence is released and the head rises by one; p after
the head is held; p before the head is released at once and counted late. With another epoch p is dropped, counted stale, and
nothing is released. HOLE_SKIP with only the next SEQ held for 4,096 Notches skips the head: it is counted, the held ticket
released and the head rises by two; before that it changes nothing. DEFILE_SKIP_LOST with only the head of i counted lost in
an earlier Notch skips it and counts it. (R235, R236, R237, R238, R239) -/
def Obligations.DefileReleasesInSequence : Prop :=
  ∀ (s : State), s.dev.awake = true → s.dev.flows = true → s.dev.defile.held = [] → s.dev.defile.skipped = [] →
    (∀ g p rest, (s.dev.glen g).flying = p :: rest → p.tk.get T.INGRESS < 20 →
      (let i := p.tk.get T.INGRESS
       let a := s.dev.afterHead i (p.tk.get T.SEQ)
       (s.dev.get R.GLEN_SLOT_EPOCH 0 (p.tk.get T.SLOT) = p.tk.get T.EPOCH →
        s.leads (.defileArrival g 0 false) (fun e => (e.glen g).flying = rest ∧
          (a = 0 → e.defile.released = s.dev.defile.released ++ [(s.dev.dial.notch, p)] ∧ e.defile.held = [] ∧
            e.get R.DEFILE_ING_HEAD 0 i = (s.dev.get R.DEFILE_ING_HEAD 0 i + 1) % 2 ^ 32) ∧
          (0 < a → a < 2 ^ 31 → e.defile.released = s.dev.defile.released ∧ e.defile.held = [(s.dev.dial.notch, p)] ∧
            e.get R.DEFILE_ING_HEAD 0 i = s.dev.get R.DEFILE_ING_HEAD 0 i) ∧
          (2 ^ 31 ≤ a → e.defile.released = s.dev.defile.released ++ [(s.dev.dial.notch, p)] ∧ e.defile.held = [] ∧
            e.get R.DEFILE_ING_HEAD 0 i = s.dev.get R.DEFILE_ING_HEAD 0 i ∧
            e.get R.DEFILE_LATE = saturate R.DEFILE_LATE.w (s.dev.get R.DEFILE_LATE + 1) ∧
            (e.get R.DEFILE_EVENTS).testBit 1 = true))) ∧
       (s.dev.get R.GLEN_SLOT_EPOCH 0 (p.tk.get T.SLOT) ≠ p.tk.get T.EPOCH →
        s.leads (.defileArrival g 0 false) (fun e => e.defile.released = s.dev.defile.released ∧
          e.get R.GLEN_STALE_DROP = saturate R.GLEN_STALE_DROP.w (s.dev.get R.GLEN_STALE_DROP + 1))))) ∧
    (∀ i n, i < 20 → n < s.dev.dial.notch → s.dev.defile.lost = [(n, (i, s.dev.get R.DEFILE_ING_HEAD 0 i))] →
      s.leads .defileSkipLost (fun e => e.defile.lost = [] ∧ e.defile.skipped = [] ∧
        e.get R.DEFILE_ING_HEAD 0 i = (s.dev.get R.DEFILE_ING_HEAD 0 i + 1) % 2 ^ 32 ∧
        e.get R.DEFILE_SKIP_LOST = saturate R.DEFILE_SKIP_LOST.w (s.dev.get R.DEFILE_SKIP_LOST + 1))) ∧
    (∀ i n p, i < 20 → p.tk.get T.INGRESS = i → s.dev.afterHead i (p.tk.get T.SEQ) = 1 →
      (let s' : State := { s with dev := { s.dev with defile := { s.dev.defile with held := [(n, p)] } } }
       (n + 4096 ≤ s.dev.dial.notch → s'.leads (.holeSkip i) (fun e => e.defile.held = [] ∧
          e.defile.released = s.dev.defile.released ++ [(s.dev.dial.notch, p)] ∧
          e.get R.DEFILE_ING_HEAD 0 i = (s.dev.get R.DEFILE_ING_HEAD 0 i + 2) % 2 ^ 32 ∧
          e.get R.DEFILE_SKIP_TIMEOUT = saturate R.DEFILE_SKIP_TIMEOUT.w (s.dev.get R.DEFILE_SKIP_TIMEOUT + 1) ∧
          (e.get R.DEFILE_EVENTS).testBit 0 = true)) ∧
       (s.dev.dial.notch < n + 4096 → s'.leads (.holeSkip i) (fun e => e = s'.dev))))

/-- Admission drops a ticket by its first failing check or links its frame on its leaf and egress class. For every state of an
awake device whose data path flows, whose oldest released ticket is of an earlier Notch, fewer than 512 served in this one,
and whose frame f is in the Basin: ADMISSION takes the ticket, whose epoch the Defile has judged (step 1), and the first of
these that holds disposes of it. The owner of the ring it names, or its INSTANCE, does not accept it: INST_DROP and
STATE_DROP of that instance. A fourth recirculation, or a unit that the variant lacks: RECIRC_DROP. Type 5: PROG_DROP; type 0
or above 5: UNRESOLVED_DROP. A destination port down: its TX_DOWN_DROP; a destination that is none, or a leaf not attached to
its egress: BAD_DEST. The policer drops it: POLICE_DROP. Leaf or class past its limit, or shared cells past the colour’s
limit with no push-out allowed or not enough to evict: TAIL_DROP of the Basin and the class. A window past 256 bytes with the
ingress at MAX: NOCELL_ADMIT. Each takes the frame out, and from step 3 on counts ADMIT_DROP of its INSTANCE. Otherwise, with
a window of at most 256 bytes and room without push-out, the frame is queued on its leaf and egress, in the class of the
leaf’s node (a mismatch counts CLASS_MISMATCH) and with the policer’s colour, admitted in this Notch. (R294, R295, R296,
R298, R334, R318) -/
def Obligations.AdmissionDropsOrLinksATicket : Prop :=
  ∀ (s : State) (pick n : Nat) (p : Pkt) (f : Frame) rest, s.dev.awake = true → s.dev.flows = true →
    s.dev.defile.released = (n, p) :: rest → n < s.dev.dial.notch → s.dev.basin.served < 512 →
    s.dev.frame? (p.tk.get T.HEAD_CELL) = some f →
    let type := p.tk.get T.DEST_TYPE
    let inst := p.tk.get T.INSTANCE
    let up := fun (e : Dev) (c : Fld) (u i : Nat) => e.get c u i = saturate c.w (s.dev.get c u i + 1)
    let gone := fun (c : Fld) (u i : Nat) (c2 : Fld) (u2 : Nat) => s.leads (.admission ⟨pick, false⟩) (fun e =>
      e.defile.released = rest ∧ e.frame? f.head = none ∧ up e c u i ∧ up e c2 u2 0)
    (∀ o, s.dev.idleOwner p.tk = some o → gone R.BASIN_INST_DROP 0 0 R.INST_STATE_DROP o) ∧
    (s.dev.idleOwner p.tk = none → s.dev.instAccepts p.tk f = false → gone R.BASIN_INST_DROP 0 0 R.INST_STATE_DROP inst) ∧
    (s.dev.idleOwner p.tk = none → s.dev.instAccepts p.tk f = true →
      let turned := ((type = 3 ∨ type = 4) ∧ p.tk.get T.RECIRC = 3) ∨ s.dev.absentUnit p.tk = true
      (turned → gone R.BASIN_RECIRC_DROP 0 0 R.INST_ADMIT_DROP inst) ∧
      (¬ turned →
        (type = 5 → gone R.BASIN_PROG_DROP 0 0 R.INST_ADMIT_DROP inst) ∧
        (type = 0 ∨ 6 ≤ type → gone R.BASIN_UNRESOLVED_DROP 0 0 R.INST_ADMIT_DROP inst) ∧
        (1 ≤ type → type ≤ 4 →
          (s.dev.destOf p.tk = .bad → gone R.BASIN_BAD_DEST 0 0 R.INST_ADMIT_DROP inst) ∧
          (∀ q, s.dev.destOf p.tk = .portDown q → gone R.PORT_TX_DOWN_DROP q 0 R.INST_ADMIT_DROP inst) ∧
          (∀ q, s.dev.destOf p.tk = .egress q → (∀ k, s.dev.leafClass (p.tk.get T.LEAF) = some k → k / 8 ≠ q) →
            gone R.BASIN_BAD_DEST 0 0 R.INST_ADMIT_DROP inst) ∧
          (∀ q k, s.dev.destOf p.tk = .egress q → s.dev.leafClass (p.tk.get T.LEAF) = some k → k / 8 = q →
            let policed := p.tk.flag T.POL_VALID
            let size : Int := (((if p.tk.flag T.PARTIAL then p.tk.get T.WIN_LEN else p.tk.get T.LEN) : Nat) + p.tk.delta) * 8000
            let r := s.dev.police (p.tk.get T.POLICER) (p.tk.get T.COLOUR) size
            let colour := if policed then r.2.1 else p.tk.get T.COLOUR
            let cells := f.cells.length + (if 256 < p.win.length then 1 else 0)
            let occ := s.dev.get R.BASIN_Q_AGE_OCC 0 k
            let short : Int := (s.dev.get R.BASIN_SHARED_USED_USED : Int) +
              (s.dev.overGmin k (occ + cells) - s.dev.overGmin k occ : Nat) - s.dev.colourLimit k colour
            let leafFull := s.dev.get R.LEAFREC_W0_MAX_CELLS (p.tk.get T.LEAF) < s.dev.leafCells (p.tk.get T.LEAF) + cells
            let classFull := s.dev.get R.BASIN_Q_CFG_QMAX 0 k < occ + cells
            let stuck := 0 < short ∧ (s.dev.get R.BASIN_Q_CFG_PUSHOUT_EN 0 k = 0 ∨ (s.dev.avail q (k % 8) : Int) < short)
            (policed = true → r.2.2.2 = true → gone R.SCHED_POLICE_DROP 0 0 R.INST_ADMIT_DROP inst) ∧
            ((policed = true → r.2.2.2 = false) →
              (leafFull ∨ classFull ∨ stuck → gone R.BASIN_TAIL_DROP 0 0 R.INST_ADMIT_DROP inst ∧
                s.leads (.admission ⟨pick, false⟩) (fun e => up e R.ECSTAT_TAIL_DROP k 0)) ∧
              (¬ leafFull → ¬ classFull → short ≤ 0 → 256 < p.win.length →
                s.dev.get R.BASIN_ING_CFG_MAX 0 f.ingress ≤ s.dev.get R.BASIN_ING_HELD_CELLS 0 f.ingress →
                gone R.BASIN_NOCELL_ADMIT 0 0 R.INST_ADMIT_DROP inst) ∧
              (¬ leafFull → ¬ classFull → short ≤ 0 → p.win.length ≤ 256 → p.tk.q.length = 8 →
                s.leads (.admission ⟨pick, false⟩) (fun e => e.defile.released = rest ∧
                  (k % 8 ≠ p.tk.get T.CLASS → up e R.SCHED_CLASS_MISMATCH 0 0) ∧
                  ∃ g, e.frame? f.head = some g ∧ g.stage = .queued ∧ g.leaf = p.tk.get T.LEAF ∧ g.egress = q ∧
                    g.cls = k % 8 ∧ g.admitted = s.dev.dial.notch ∧ g.tk.get T.CLASS = k % 8 ∧ g.tk.get T.COLOUR = colour ∧
                    (k % 8 = p.tk.get T.CLASS → policed = false → g.tk = p.tk))))))))

/-- An egress is offered the frame its scheduler selects, starts it and completes it. For every state of an awake device whose
data path flows. EGRESS_REQUEST of a port whose link is not UP, or that transmits, changes nothing; with one class alone not
paused it offers the frame that class’s selection gives. FRAME_START on a port of an offered complete frame f, with the link
UP, nothing in transmission or due before it, its class not paused, its leaf attached and no memory error: f is started and
being read out with its transmit timestamp. With nothing offered it changes nothing. FRAME_COMPLETE of the only frame a port
reads out, complete and free of memory errors, hands its bytes to the port with a good FCS, or a bad one where it is errored,
and takes it out of the Basin. With none being read out it changes nothing. A corrected error in a cell of the frame that the
crypto unit reads counts in the present window of its bank, which starts to retire at CORR_LIMIT where R509 lets it; that the
window starts at the first corrected error is the model’s choice, log entry 98. (R287, R319, R320, R321, R326, R111, R113,
R509, R520) -/
def Obligations.EgressesRequestStartAndComplete : Prop :=
  ∀ (s : State) (q : Nat), s.dev.awake = true → s.dev.flows = true → q < 16 →
    ((s.dev.portInService q = false ∨ s.dev.get R.PORT_STATUS_LINK q ≠ 2 ∨ (s.dev.txFrame q).isSome = true) →
      s.leads (.egressRequest q) (fun e => e = s.dev)) ∧
    (∀ c f, s.dev.portInService q = true → s.dev.get R.PORT_STATUS_LINK q = 2 → s.dev.txFrame q = none → c < 8 →
      (∀ k, k < 8 → k ≠ c → s.dev.paused q k = true) → s.dev.paused q c = false → (s.dev.classOffer q c).2 = some f →
      (∀ k, k < 8 → k ≠ c → (s.dev.classOffer q c).1.paused q k = true) →
      s.leads (.egressRequest q) (fun e => (assoc e.sched.offers q).map Offer.head = some f.head ∧ e.basin = (s.dev.classOffer q c).1.basin)) ∧
    (∀ sub short fault, s.dev.offered q = none → s.leads (.frameStart q sub short fault) (fun e => e = s.dev)) ∧
    (∀ sub short f n, s.dev.offered q = some f → f.complete = true → s.dev.leafNode f.leaf = some n →
      s.dev.dueFlow q = none → s.dev.get R.PORT_STATUS_LINK q = 2 → s.dev.txFrame q = none → s.dev.paused q f.cls = false →
      s.leads (.frameStart q sub short .none) (fun e =>
        ∃ g, e.frame? f.head = some g ∧ g.stage = .egress ∧ g.started = true ∧ g.txTs = some (s.dev.txStamp q sub) ∧
          g.bytes = f.bytes)) ∧
    (∀ i f, s.dev.inService q = [f] → f.complete = true → s.leads (.frameComplete q i .none) (fun e =>
      (s.dev.ports.closing.contains q = false → e.out = s.dev.out ++ [.frame q (portBytes f.bytes (!f.errored)) (!f.errored)]) ∧
      e.frame? f.head = none)) ∧
    (∀ i fault, s.dev.inService q = [] → s.dev.ports.closing.contains q = false →
      s.leads (.frameComplete q i fault) (fun e => e = s.dev)) ∧
    (∀ i f n c, s.dev.inService 18 = [f] → f.cells[n]? = some c → s.leads (.frameComplete 18 i (.corrected [n])) (fun e =>
      (let b := c.1 % 32
       let now := if (assoc s.dev.health.corrFrom (fldKey R.BANK_W0_CORR b 0)).isSome
         then min 65535 (s.dev.get R.BANK_W0_CORR b + 1) else 1
       e.get R.BANK_W0_CORR b = now ∧ e.frame? f.head = none ∧
       (s.dev.get R.HEALTH_BASIN_HCFG_CORR_LIMIT ≤ now → s.dev.banksOut < s.dev.get R.HEALTH_BASIN_HCFG_AUTO_MAX →
         s.dev.mayRetire b = true → e.get R.BANK_W0_STATE b = 1 ∧ (e.get R.HEALTH_EVENTS).testBit 3 = true) ∧
       (now < s.dev.get R.HEALTH_BASIN_HCFG_CORR_LIMIT → e.get R.BANK_W0_STATE b = s.dev.get R.BANK_W0_STATE b))))

/-- Expired frames are dropped at the head of their leaf, and a retiring bank whose cells are free is retired. For every state of
an awake device whose data path flows. AGE_DROP of a leaf that the scheduler did not examine in the Notch changes nothing; of
an examined leaf whose head has expired it takes that frame out and sets the AGED event; of one whose head has not expired,
or with none, it changes nothing. BASIN_AGE_SWEEP moves the sweep on by 64 leaves and, with no frame queued, changes nothing
else. BANK_RETIRED of a retiring bank with every cell free makes its state RETIRED (2), sets event bit 4 and replacement
reason 5; of a bank in another state, or with a cell in use, it changes nothing. (R305, R306, R307, R309, R513) -/
def Obligations.AgeingAndRetirementFreeCells : Prop :=
  ∀ (s : State), s.dev.awake = true → s.dev.flows = true →
    (∀ l, s.dev.basin.examined.contains l = false → s.leads (.ageDrop l) (fun e => e = s.dev)) ∧
    (∀ l f, s.dev.basin.examined.contains l = true → s.dev.leafHead l = some f → s.dev.expired f = true →
      s.leads (.ageDrop l) (fun e => e.frame? f.head = none ∧ (e.get R.BASIN_EVENTS).testBit 2 = true)) ∧
    (∀ l, (∀ f, s.dev.leafHead l = some f → s.dev.expired f = false) → s.leads (.ageDrop l) (fun e => e = s.dev)) ∧
    s.leads .basinAgeSweep (fun e => e.basin.sweep = (s.dev.basin.sweep + 64) % 131072) ∧
    ((∀ f ∈ s.dev.basin.frames, f.stage ≠ .queued) → s.leads .basinAgeSweep (fun e =>
      e = { s.dev with basin := { s.dev.basin with sweep := (s.dev.basin.sweep + 64) % 131072 } })) ∧
    (∀ b, s.dev.get R.BANK_W0_STATE b = 1 → s.dev.usedInBank b = 0 → s.leads (.bankRetired b) (fun e =>
      e.get R.BANK_W0_STATE b = 2 ∧ (e.get R.BASIN_EVENTS).testBit 4 = true ∧
      (e.get R.HEALTH_REPLACE_REASONS).testBit 5 = true)) ∧
    (∀ b, (s.dev.get R.BANK_W0_STATE b ≠ 1 ∨ s.dev.usedInBank b ≠ 0) → s.leads (.bankRetired b) (fun e => e = s.dev))

/-- HALT, RESUME, STEP, ABORT_STAGE and DROP_TICKET act on the selected thread, and BREAK halts at a breakpoint. For every state
of an awake device, physical Glen and path whose command on the Glen’s page is performed, and the thread that DBG_SEL names.
HALT of a thread not halted halts it (status 0), of a halted one reads back 2. RESUME and STEP of a halted thread let it go,
STEP for one instruction (status 0); of another they read back 3. ABORT_STAGE of a halted thread with an open stage whose
channel nobody waits to write discards the stage and frees the writer lock; it reads back 3 for a thread not halted and 4
without a stage. DROP_TICKET of a halted thread with a ticket, no lock and no stage sends the ticket out as a drop with ERR
0xF2 and leaves the thread idle; it reads back 3 for a thread not halted, 5 without a ticket and 6 with a lock or stage.
HALT, RESUME, STEP and every refusal leave the other threads, memory and all registers but DBG_CMD and the journal’s as they
were. BREAK of a ready thread, at an enabled breakpoint it has not passed, halts it and sets event bit 1; otherwise it
changes nothing. That HALT of an OFF or IDLE thread is accepted, that a thread let go has passed its breakpoint, and what one
halted in CHCOMMIT does after ABORT_STAGE, are the model’s choices, log entries 38, 31 and 145. (R155, R171) -/
def Obligations.DebuggerCommandsActOnTheSelectedThread : Prop :=
  ∀ (s : State) (g : Nat), s.dev.awake = true → g < 18 →
    (∀ (p : Path), s.dev.accepts p (pgGPHYS g) = true →
      (let id := ThreadId.glen g (s.dev.get R.GPHYS_DBG_SEL_CORE g) (s.dev.get R.GPHYS_DBG_SEL_THREAD g)
       let t := s.dev.thread id
       let leaves := fun (e : Dev) (x : Thread) (st : Nat) => e.get R.GPHYS_DBG_CMD_STATUS g = st ∧ e.thread id = x ∧
         (∀ j, j ≠ id → e.thread j = s.dev.thread j) ∧ s.dev.agrees e (⟨.GPHYS, g, 14⟩ :: journalKeys) ∧ e.mem = s.dev.mem
       (t.halted = false →
         s.leads (.halt p g) (fun e => leaves e { t with halted := true, stepping := false, stepped := false } 0) ∧
         s.leads (.gphysResume p g) (fun e => leaves e t 3) ∧ s.leads (.step p g) (fun e => leaves e t 3) ∧
         s.leads (.abortStage p g) (fun e => leaves e t 3) ∧ s.leads (.dropTicket p g) (fun e => leaves e t 3)) ∧
       (t.halted = true →
         s.leads (.halt p g) (fun e => leaves e t 2) ∧
         s.leads (.gphysResume p g) (fun e => leaves e { t with halted := false, passed := true } 0) ∧
         s.leads (.step p g) (fun e => leaves e { t with halted := false, stepping := true, passed := true } 0) ∧
         (t.stage = none → s.leads (.abortStage p g) (fun e => leaves e t 4)) ∧
         (∀ c m, t.stage = some (c, m) → (s.dev.chan (g, c)).writers = [] →
           s.leads (.abortStage p g) (fun e =>
             leaves e { t with stage := none, st := if t.st = .blkChfull then .ready else t.st } 0 ∧
             e.chan (g, c) = { s.dev.chan (g, c) with writer := none })) ∧
         (t.pkt = none → s.leads (.dropTicket p g) (fun e => leaves e t 5)) ∧
         (∀ k, t.pkt = some k → (s.dev.locksHeld id ≠ [] ∨ t.stage ≠ none) →
           s.leads (.dropTicket p g) (fun e => leaves e t 6)) ∧
         (∀ k, t.pkt = some k → s.dev.locksHeld id = [] → t.stage = none →
           s.leads (.dropTicket p g) (fun e => e.get R.GPHYS_DBG_CMD_STATUS g = 0 ∧
             e.thread id = { t with st := .idle, pkt := none, halted := false, stepping := false, stepped := false } ∧
             (e.glen g).flying = (s.dev.glen g).flying ++ [k.dropped 0xF2] ∧
             s.dev.agrees e (⟨.GPHYS, g, 14⟩ :: journalKeys)))))) ∧
    (s.dev.flows = true → ∀ c t,
      (let x := s.dev.thread (.glen g c t)
       let due := x.st = .ready ∧ x.halted = false ∧ x.passed = false ∧ s.dev.coreRuns g c = true ∧
         s.dev.breakAt g c x.pc = true
       (due → s.leads (.break_ g c t) (fun e => e.thread (.glen g c t) = { x with halted := true } ∧
         (e.get R.GPHYS_EVENTS g).testBit 1 = true ∧ s.dev.agrees e [fldKey R.GPHYS_EVENTS g 0])) ∧
       (¬ due → s.leads (.break_ g c t) (fun e => e = s.dev))))

/-- A stopped core is recorded and loses its tickets, restarts when due, and the stall watches stop blocked cores. For every
state of an awake device whose data path flows, Glen g below 18 and core c below 32. CORE_STOP of the first core stop of an
earlier Notch writes its code, thread, pc and DETAIL to the core’s CORE_FAULT registers, counts it and sets event bit 0; each
ticket of the core’s listed threads leaves as a drop with ERR 0xF0, and no thread of the core keeps one; with AUTO_RESTART
the restart is due RESTART_DELAY Notches later. With no such stop it changes nothing. CORE_RESTART_AUTO when due starts a
stopped core of a holding Glen: its SERVICE threads ready at the service entry, its PACKET threads idle, their registers 0;
before that it changes nothing. STALL_ALL after 64 all-blocked Notches stops the core with code 0x0E at its lowest live
thread. STALL_GLEN after 256 stops every listed core with a live thread, with 0x0F, or 0x0E where the core’s own watch has
also run out. Below the limits they change nothing. The address of a stalled instruction, the Notch in which AUTO_RESTART is
read, the charge of a started thread, and that a restart ends a halt, are the model’s choices and readings, log entries 30,
37, 32 and 146. (R147, R148, R152, R145) -/
def Obligations.CoresStopAndRestart : Prop :=
  ∀ (s : State) (g c : Nat), s.dev.awake = true → s.dev.flows = true → g < 18 → c < 32 →
    (let due := s.dev.glens.stops.find? (fun x => x.glen == g && x.core == c && decide (x.notch < s.dev.dial.notch))
     (∀ x : CoreStop, due = some x → x.code < 256 → x.thread < 8 → x.pc < 2 ^ 18 → x.detail < 2 ^ 64 →
      s.leads (.coreStop g c) (fun e => e.glens.stops = s.dev.glens.stops.erase x ∧
        e.get R.GPHYS_CORE_FAULT_CODE g c = x.code ∧ e.get R.GPHYS_CORE_FAULT_THREAD g c = x.thread ∧
        e.get R.GPHYS_CORE_FAULT_PC g c = x.pc ∧ e.get R.GPHYS_CORE_FAULT_DETAIL g c = x.detail ∧
        e.get R.GPHYS_FAULTS g = saturate R.GPHYS_FAULTS.w (s.dev.get R.GPHYS_FAULTS g + 1) ∧
        (e.get R.GPHYS_EVENTS g).testBit 0 = true ∧
        (∀ t k, (t, k) ∈ s.dev.glens.threads → ofCore g c t = true → ∀ q, k.pkt = some q → q.dropped 0xF0 ∈ (e.glen g).flying) ∧
        (∀ t, (e.thread (.glen g c t)).pkt = none) ∧
        (s.dev.flag R.GSLOT_CORE_POLICY_AUTO_RESTART (s.dev.get R.GPHYS_STATUS_SLOT g) = true →
          assoc e.glens.restarts (g, c) =
            some (s.dev.dial.notch + s.dev.get R.GSLOT_CORE_POLICY_RESTART_DELAY (s.dev.get R.GPHYS_STATUS_SLOT g))))) ∧
     (due = none → s.leads (.coreStop g c) (fun e => e = s.dev))) ∧
    (∀ n, assoc s.dev.glens.restarts (g, c) = some n →
      (n ≤ s.dev.dial.notch → s.dev.glHolds g = true → s.dev.coreRuns g c = false →
        s.leads (.coreRestartAuto g c) (fun e => e.coreRuns g c = true ∧ assoc e.glens.restarts (g, c) = none ∧
          (∀ t, t < 8 → e.thread (.glen g c t) =
            { st := nth [.off, .idle, .ready, .off] (s.dev.mode g c t) .off
              halted := s.dev.held
              pc := if s.dev.mode g c t = 2 then (s.dev.glen g).entryService else 0 }) ∧
          (∀ j, ofCore g c j = false → e.thread j = s.dev.thread j) ∧ s.dev.agrees e [fldKey R.GPHYS_STATUS_CORES_RUN g 0, fldKey R.INST_USE_GLEN_TN 0 0])) ∧
      (s.dev.dial.notch < n → s.leads (.coreRestartAuto g c) (fun e => e = s.dev))) ∧
    (∀ t, 64 ≤ (assoc (s.dev.glen g).coreStall c).getD 0 → (List.range 8).find? (fun t => s.dev.live g c t) = some t →
      s.leads (.stallAll g c) (fun e => e.coreRuns g c = false ∧ e.glens.stops = s.dev.glens.stops ++
          [⟨g, c, t, 0x0E, (s.dev.thread (.glen g c t)).pc - 8, 0, s.dev.dial.notch⟩] ∧
        s.dev.agrees e [fldKey R.GPHYS_STATUS_CORES_RUN g 0] ∧ e.mem = s.dev.mem)) ∧
    ((assoc (s.dev.glen g).coreStall c).getD 0 < 64 → s.leads (.stallAll g c) (fun e => e = s.dev)) ∧
    (256 ≤ (s.dev.glen g).stall → s.leads (.stallGlen g) (fun e =>
      s.dev.agrees e [fldKey R.GPHYS_STATUS_CORES_RUN g 0] ∧
      (c ∈ s.dev.busyCores g → (∃ t, t < 8 ∧ s.dev.live g c t = true) → e.coreRuns g c = false ∧
        ∃ x ∈ e.glens.stops, x.glen = g ∧ x.core = c ∧
          x.code = if 64 ≤ (assoc (s.dev.glen g).coreStall c).getD 0 then 0x0E else 0x0F))) ∧
    ((s.dev.glen g).stall < 256 → s.leads (.stallGlen g) (fun e => e = s.dev))

/-- Heartbeats are sent, received and checked, a silent Glen is declared dead, and spares fill vacant slots. For every state of
an awake device whose data path flows, and fitted Glen g. HEARTBEAT_SEND of a holding Glen in a Notch that is a multiple of
1,024 puts one heartbeat on its path, and in another Notch changes nothing. HEARTBEAT_ARRIVAL takes one from the path: of a
holding Glen it is noted with HB_LAST, of a DEAD one counted stale. HEARTBEAT_CHECK in a Notch congruent to 512: where no
holding Glen has missed its fourth, a Glen heard from has HB_MISSES 0 and another one more; where g alone holds and misses
its fourth, it is DEAD, its slot VACANT without a Glen and under another epoch, and event bit 0 is set. FILL_START of a slot
that is, and was when the Notch started, vacant sets event bit 3 without a spare, and with AUTO makes the lowest Glen that
was then a spare FILLING for it; of a slot that was not vacant then it changes nothing. FILL_COMPLETE in time with the
recorded CRC brings the Glen into service for the slot with the image’s code and every core running, and for a handover lets
the old holder drain; a CRC that differs, a fill past 16,384 Notches, and FILL_FAIL make the Glen FAILED. What HB_LAST holds,
when TAKEOVER is set and the Notches of a fill are the model’s readings, log entries 34, 33 and 119. (R159, R160, R161, R162,
R163, R164, R166, R168) -/
def Obligations.HeartbeatsAndFillsKeepSlotsHeld : Prop :=
  ∀ (s : State) (g : Nat), s.dev.awake = true → s.dev.flows = true → g < s.dev.variant.glensAll →
    (s.dev.glHolds g = true → s.dev.dial.notch % 1024 = 0 →
      s.leads (.heartbeatSend g) (fun e => (e.glen g).beats = (s.dev.glen g).beats + 1 ∧ e.regs = s.dev.regs)) ∧
    ((s.dev.glHolds g = false ∨ s.dev.dial.notch % 1024 ≠ 0) → s.leads (.heartbeatSend g) (fun e => e = s.dev)) ∧
    (∀ n, (s.dev.glen g).beats = n + 1 → s.leads (.heartbeatArrival g) (fun e => (e.glen g).beats = n ∧
      (s.dev.glHolds g = true → (e.glen g).arrived = true ∧ e.get R.GPHYS_HB_LAST g = s.dev.dial.notch % 2 ^ 32 ∧
        s.dev.agrees e [fldKey R.GPHYS_HB_LAST g 0]) ∧
      (s.dev.glState g = glDead → (e.glen g).isolateDue = true ∧
        e.get R.GPHYS_STALE g = saturate R.GPHYS_STALE.w (s.dev.get R.GPHYS_STALE g + 1)))) ∧
    ((s.dev.glen g).beats = 0 → s.leads (.heartbeatArrival g) (fun e => e = s.dev)) ∧
    (s.dev.dial.notch % 1024 = 512 →
      ((∀ h, h < s.dev.variant.glensAll → s.dev.glHolds h = true →
          (s.dev.glen h).arrived = true ∨ s.dev.get R.GPHYS_HB_MISSES h < 3) → s.dev.glHolds g = true →
        s.leads .heartbeatCheck (fun e => (e.glen g).arrived = false ∧ e.glState g = s.dev.glState g ∧
          e.get R.GPHYS_HB_MISSES g = if (s.dev.glen g).arrived then 0 else s.dev.get R.GPHYS_HB_MISSES g + 1)) ∧
      (s.dev.glHolds g = true → (∀ h, h ≠ g → s.dev.glHolds h = false) → (s.dev.glen g).arrived = false →
        s.dev.get R.GPHYS_HB_MISSES g = 3 → s.dev.handoverTarget (s.dev.get R.GPHYS_STATUS_SLOT g) = none →
        s.leads .heartbeatCheck (fun e =>
          let k := s.dev.get R.GPHYS_STATUS_SLOT g
          e.glState g = glDead ∧ e.slState k = slVacant ∧ e.get R.GLEN_SLOT_PHYS 0 k = 0x1F ∧ (e.slot k).queue = [] ∧
          e.get R.GLEN_SLOT_EPOCH 0 k ≠ s.dev.get R.GLEN_SLOT_EPOCH 0 k ∧ (e.get R.GLEN_EVENTS).testBit 0 = true))) ∧
    (s.dev.dial.notch % 1024 ≠ 512 → s.leads .heartbeatCheck (fun e => e = s.dev)) ∧
    (∀ k, k < s.dev.variant.glensActive → s.dev.slState k = slVacant → s.dev.getStart R.GLEN_SLOT_STATE 0 k = slVacant →
      (s.dev.flag R.GLENSPARE_POLICY_AUTO = true → s.dev.oldSpare = some g → s.leads (.fillStart k) (fun e =>
        e.glState g = glFilling ∧ e.slState k = slFilling ∧
        (e.glen g).fill = some { slot := k, kind := .auto, start := s.dev.dial.notch })) ∧
      (s.dev.lowestSpare = none → s.leads (.fillStart k) (fun e =>
        (e.get R.GLEN_EVENTS).testBit 3 = true ∧ s.dev.agrees e [fldKey R.GLEN_EVENTS 0 0])) ∧
      (s.dev.flag R.GLENSPARE_POLICY_AUTO = false → s.dev.lowestSpare ≠ none → s.leads (.fillStart k) (fun e => e = s.dev))) ∧
    (∀ k, s.dev.getStart R.GLEN_SLOT_STATE 0 k ≠ slVacant → s.leads (.fillStart k) (fun e => e = s.dev)) ∧
    (∀ f : Fill, (s.dev.glen g).fill = some f → f.done = false → f.slot < s.dev.variant.glensActive →
      (let fails := fun (e : Dev) => e.glState g = glFailed ∧ (e.get R.GLEN_EVENTS).testBit 6 = true ∧
         (e.glen g).fill = none ∧ (f.kind ≠ .handover → e.slState f.slot = slVacant)
       (s.leads (.fillFail g) fails) ∧
       ((s.dev.fillCrc f ≠ imageCrc (s.dev.fillImage f) ∨ f.start + 16384 < s.dev.dial.notch) →
         s.leads (.fillComplete g) fails) ∧
       (s.dev.fillCrc f = imageCrc (s.dev.fillImage f) → s.dev.dial.notch ≤ f.start + 16384 →
         s.leads (.fillComplete g) (fun e =>
           (f.kind ≠ .handover → e.glState g = glService ∧ e.slState f.slot = slService ∧ e.get R.GLEN_SLOT_PHYS 0 f.slot = g ∧
             e.get R.GPHYS_STATUS_SLOT g = f.slot ∧ e.get R.GPHYS_STATUS_CORES_RUN g = 2 ^ 32 - 1 ∧
             (e.glen g).code = imageCode (s.dev.slot f.slot).current ∧ (e.get R.GLEN_EVENTS).testBit 1 = true) ∧
           (f.kind = .handover → (e.glen g).fill = some { f with done := true } ∧ e.slState f.slot = slDraining ∧
             e.glState (s.dev.get R.GLEN_SLOT_PHYS 0 f.slot) = glDraining ∧
             (e.slot f.slot).drainFrom = some s.dev.dial.notch)))))

/-- HANDOVER, ADMIT, SELFTEST and RESTART_CORE start their work or are refused, one at a time, and end it. For every state of an
awake device. Over a path whose command on the GLEN page is performed: while a command is in progress HANDOVER reads back
BUSY (1) and changes no Glen. With none in progress, HANDOVER of a slot in service and ADMIT of a vacant one make the spare
they name FILLING and read back PENDING (2), of other slots status 3; without a spare status 5; SELFTEST of a DEAD, ISOLATED
or FAILED Glen puts it in SELFTEST, PENDING, of others status 3; RESTART_CORE starts a stopped core of a holding Glen, and is
refused with 3 for one that runs, or whose stop the device has not yet sampled (the model’s reading, notes/assumptions/119).
STAGE_PROG of an accepted image of the slot’s LEN stages it with its CRC, and of another reads back 4. HANDOVER_DRAIN_END,
with every ticket back, makes the target hold the slot, the old holder a spare, and ends the command with 0; while tickets
are out and DRAIN_LIMIT has not passed it changes nothing. SELFTEST_DONE of a passed test makes the Glen a spare, of a failed
one FAILED with status 7. STAGE_PROG done in its command, the status of a refused SELFTEST, the events of a failed test and
BUSY before the operands are checked are the model’s choices, log entries 97, 147, 148 and 149. (R167, R168, R169, R148,
R207, R630) -/
def Obligations.GlenCommandsHandSlotsOver : Prop :=
  ∀ (s : State), s.dev.awake = true →
    (∀ (p : Path) (k g : Nat), s.dev.accepts p pgGLEN = true →
      (s.dev.cmdBusy glenCmdKey = true → s.leads (.handover p k g) (fun e => e.get R.GLEN_CMD_STATUS = 1 ∧ e.glens = s.dev.glens)) ∧
      (s.dev.cmdBusy glenCmdKey = false →
        (let starts := fun (e : Dev) (h : Nat) (kind : FillKind) => e.get R.GLEN_CMD_STATUS = 2 ∧ e.cmdBusy glenCmdKey = true ∧
           e.glState h = glFilling ∧ (e.glen h).fill = some { slot := k, kind := kind, start := s.dev.dial.notch }
         let refused := fun (e : Dev) (st : Nat) => e.get R.GLEN_CMD_STATUS = st ∧ e.glens = s.dev.glens ∧
           s.dev.agrees e (⟨.GLEN, 0, 8⟩ :: journalKeys)
         (∀ h, k < s.dev.variant.glensActive → s.dev.fillSource g = .inl h →
           (s.dev.slState k = slService → s.leads (.handover p k g) (fun e => starts e h .handover ∧ e.slState k = slService)) ∧
           (s.dev.slState k = slVacant → s.leads (.admitGlen p k g) (fun e => starts e h .intake ∧ e.slState k = slFilling))) ∧
         (s.dev.slState k = slService → k < s.dev.variant.glensActive → g = 0x1F → s.dev.lowestSpare = none →
           s.leads (.handover p k g) (fun e => refused e 5)) ∧
         ((s.dev.variant.glensActive ≤ k ∨ s.dev.slState k ≠ slService) → s.leads (.handover p k g) (fun e => refused e 3)) ∧
         ((s.dev.variant.glensActive ≤ k ∨ s.dev.slState k ≠ slVacant) → s.leads (.admitGlen p k g) (fun e => refused e 3)) ∧
         (g < s.dev.variant.glensAll →
           (s.dev.glState g ∈ [glDead, glIsolated, glFailed] → s.leads (.selftest p g) (fun e => e.get R.GLEN_CMD_STATUS = 2 ∧
             e.glState g = glSelftest ∧ e.get R.GPHYS_STATUS_CORES_RUN g = 0)) ∧
           (s.dev.glState g ∉ [glDead, glIsolated, glFailed] → s.leads (.selftest p g) (fun e => refused e 3)) ∧
           (∀ c, c < 32 → s.dev.glHolds g = true →
             (s.dev.coreRuns g c = false → (∀ x ∈ s.dev.glens.stops, x.glen = g → x.core ≠ c) → s.leads (.restartCore p g c) (fun e => e.get R.GLEN_CMD_STATUS = 0 ∧
               e.coreRuns g c = true)) ∧
             (s.dev.coreRuns g c = true → s.leads (.restartCore p g c) (fun e => refused e 3)) ∧
             ((∃ x ∈ s.dev.glens.stops, x.glen = g ∧ x.core = c) → s.leads (.restartCore p g c) (fun e => refused e 3)))) ∧
         (∀ h b, p = .installer h → k < s.dev.variant.glensActive → s.dev.dmaOk h.num = true →
           b.length = s.dev.get R.GSLOT_PROG_INFO_LEN k →
           (imageOk b = true → s.leads (.stageProg p k (some b)) (fun e => e.get R.GLEN_CMD_STATUS = 0 ∧
             (e.slot k).staged = some b ∧ (e.slot k).current = (s.dev.slot k).current ∧
             e.get R.GSLOT_PROG_INFO_STAGED k = 1 ∧ e.get R.GSLOT_PROG_CRC_STAGED k = imageTrailer b % 2 ^ 32)) ∧
           (imageOk b = false → s.leads (.stageProg p k (some b)) (fun e => refused e 4)))))) ∧
    (s.dev.flows = true → ∀ k n t, k < 16 → (s.dev.slot k).drainFrom = some n → s.dev.handoverTarget k = some t →
      (let old := s.dev.get R.GLEN_SLOT_PHYS 0 k
       (old ≠ t → old < 18 → (s.dev.glen old).dealt = [] → s.dev.cmdBusy glenCmdKey = true →
         s.leads (.handoverDrainEnd k) (fun e => e.glState old = glSpare ∧ e.glState t = glService ∧
           e.slState k = slService ∧ e.get R.GLEN_SLOT_PHYS 0 k = t ∧ (e.slot k).staged = none ∧ (e.slot k).drainFrom = none ∧
           (e.slot k).current = (s.dev.slot k).staged.getD (s.dev.slot k).current ∧
           (e.get R.GLEN_EVENTS).testBit 4 = true ∧ e.get R.GLEN_CMD_STATUS = 0 ∧ e.cmdBusy glenCmdKey = false)) ∧
       ((s.dev.glen old).dealt ≠ [] → s.dev.dial.notch < n + s.dev.get R.GLEN_DRAIN_LIMIT_NOTCHES →
         s.leads (.handoverDrainEnd k) (fun e => e = s.dev)))) ∧
    (∀ g pass, g < s.dev.variant.glensAll →
      (let mine := ∃ w, assoc s.dev.cmds glenCmdKey = some w ∧ w.field 0 4 = 4 ∧ w.field 8 5 = g ∧ s.dev.glState g = glSelftest
       (mine → s.leads (.selftestDone g pass) (fun e => e.glState g = (if pass then glSpare else glFailed) ∧
         e.get R.GLEN_CMD_STATUS = (if pass then 0 else 7) ∧ (e.get R.GLEN_EVENTS).testBit 5 = true ∧
         e.cmdBusy glenCmdKey = false)) ∧
       (¬ mine → s.leads (.selftestDone g pass) (fun e => e = s.dev))))

/-- An instruction that faults, and TRAP, stops its core, or makes its control core take an exception, without another effect.
For every state of an awake device and thread ready to issue. TRAP at an address of the code: a Glen’s core no longer runs,
its stop is recorded with code 0x0D, the thread, the instruction’s address and the sign-extended immediate; every thread of
the core that is not OFF is stopped; the registers, tickets and memory stay. A control core outside an exception with room on
its stack pushes the address, its running priority and a trap exception, is in an exception with cause 0x0D, and goes on at
its exception entry. An instruction at an address outside the code, or not a multiple of 8, faults so with code 3 and the
address; one whose program word meets an uncorrectable error with code 7 and the address; a Glen’s program word that is no
encoding with code 1 and the word, and a row that names another instruction than that word changes nothing; ADD with an error
in a register it reads with code 7 and the lowest such register, LD with one in what it reads with its address, and an error
elsewhere leaves ADD its result; ERET on a Glen and EMIT on a control core with code 2, and a shift by 64 and a reserved
branch condition with code 1, and the instruction word. That a row carries its instruction and the memory errors it meets,
and which Notch an instruction issues in, are the model’s choices, log entries 28, 29, 125 and 131. (R145, R146, R178, R179,
R182, R185, R203, R204, R473, R474) -/
def Obligations.FaultsAndTrapsStopWithoutEffect : Prop :=
  (∀ (s : State) (i : Issue) (imm : Nat), s.dev.awake = true → s.dev.fetches i = true →
    (let t := s.dev.thread i.thread
     (∀ g c k, i.thread = .glen g c k → s.runs (.trap i imm) (fun e => e.coreRuns g c = false ∧
       e.glens.stops = s.dev.glens.stops ++
         [⟨g, c, k, 0x0D, t.pc, ((BitVec.ofNat 32 imm).signExtend 64).toNat, s.dev.dial.notch⟩] ∧
       s.dev.agrees e [fldKey R.GPHYS_STATUS_CORES_RUN g 0] ∧ e.mem = s.dev.mem ∧
       ∀ j, (e.thread j).regs = (s.dev.thread j).regs ∧ (e.thread j).pkt = (s.dev.thread j).pkt ∧
         (e.thread j).st = if ofCore g c j && decide ((s.dev.thread j).st ≠ .off) then .stopped else (s.dev.thread j).st)) ∧
     (∀ c, i.thread = .ctrl c → (s.dev.ctrl c).exc = false → (s.dev.ctrl c).stack.length < 64 →
       s.runs (.trap i imm) (fun e =>
         e.ctrl c = { s.dev.ctrl c with
           exc := true
           cause := 0x0D
           stack := { pc := t.pc, prio := (s.dev.ctrl c).runPrio, vec := 0, exc := true, trap := true } :: (s.dev.ctrl c).stack } ∧
         e.thread i.thread = { t with pc := (s.dev.ctrl c).excEntry } ∧ e.regs = s.dev.regs ∧ e.mem = s.dev.mem)))) ∧
  (∀ (s : State) (i : Issue) (rd ra rb : Nat), s.dev.awake = true → s.dev.ready i.thread = true →
    (let pc := (s.dev.thread i.thread).pc
     let faults := fun (c : Instr) (code detail : Nat) => s.runs c (fun e => e = s.dev.faultAt i.thread pc code detail)
     (∀ c w, Instr.coded c = some (i, w) →
       ((pc % 8 ≠ 0 ∨ s.dev.codeLen i.thread ≤ pc) → s.leads c (fun e => e = s.dev.faultAt i.thread pc 0x03 pc)) ∧
       (pc % 8 = 0 → pc < s.dev.codeLen i.thread →
         (i.ecc = some .program → s.leads c (fun e => e = s.dev.faultAt i.thread pc 0x07 pc)) ∧
         (∀ x, i.ecc ≠ some .program → s.dev.fetched i.thread = some x → x ≠ w →
           (formed x = false → s.leads c (fun e => e = s.dev.faultAt i.thread pc 0x01 x.toNat)) ∧
           (formed x = true → s.leads c (fun e => e = s.dev))))) ∧
     (pc % 8 = 0 → pc < s.dev.codeLen i.thread →
       (let t := s.dev.thread i.thread
        let a := t.addr ra rb
        (∀ rs, i.ecc = some (.registers rs) →
          (∀ x ∈ [ra % 32, rb % 32], x ≠ 0 → x ∈ rs → (∀ y ∈ [ra % 32, rb % 32], y ≠ 0 → y ∈ rs → x ≤ y) →
            faults (.add i rd ra rb) 0x07 x) ∧
          ((∀ y ∈ [ra % 32, rb % 32], y = 0 ∨ y ∉ rs) → s.runs (.add i rd ra rb) (fun e =>
            s.dev.onlyThread e i.thread (t.moved.setReg rd (t.reg ra + t.reg rb)).finish))) ∧
        (i.ecc = some .memory → a + 8 ≤ 524288 → a % 8 = 0 → faults (.ld i rd ra 3 rb) 0x07 a))) ∧
     (s.dev.fetches i = true →
       (∀ g c k, i.thread = .glen g c k → faults (.eret i) 0x02 0xC2) ∧ (∀ c, i.thread = .ctrl c → faults (.emit i) 0x02 0x90) ∧
       faults (.shli i rd ra 64) 0x01 (insWord 0x24 rd ra 0 0 0 64).toNat ∧
       faults (.bcc i ra rb 6 0) 0x01 (insWord 0x30 0 ra rb 6 0 0).toNat)))

/-- Each arithmetic, logic, shift, compare and bit-field instruction writes its result to its destination only. For every state
of an awake device, thread that fetches and operands. With A and B the registers ra and rb as the thread reads them and I the
sign-extended immediate: ADD, SUB, MUL and ADDI give their results modulo 2^64; AND, OR, XOR and their immediate forms act
bit by bit; shifts go by rb[5:0], or by an immediate under 64, SAR filling with the sign; SLTU, SLT, MINU and MAXU compare;
CRC32C takes its step over B’s eight bytes; MOVI gives I, MOVHI replaces the high half; EXT gives the field of ra, and INS
replaces the field of rd by ra’s low bits. The thread is past the instruction, its registers but rd and every other thread,
register and byte of memory as they were; NOP only moves on. Writing g0 does nothing and it reads 0. On a Glen’s core the
instruction takes the core’s next cycle, and the thread’s result is available 3 cycles on for MUL and a jump, 2 for CRC32C
and 1 for ADD, in later Notches past the 8 × GLEN_CLK cycles of this one. The thread that the issue table’s slot of that
cycle names has the turn when it may issue and its last result is available, and an instruction of a thread whose turn it is
not changes nothing. How rows stand for cycles, and registers before a write, are the model’s choices, log entries 28, 29,
46, 107 and 125. (R175, R177, R181, R182, R183, R134, R135, R622) -/
def Obligations.ArithmeticWritesItsDestination : Prop :=
  (∀ (s : State) (i : Issue) (rd ra rb imm : Nat), s.dev.awake = true → s.dev.fetches i = true →
    (let t := s.dev.thread i.thread
     let a := t.reg ra
     let b := t.reg rb
     let n := b.toNat % 64
     let im : Word := (BitVec.ofNat 32 imm).signExtend 64
     let gives := fun (c : Instr) (v : Word) =>
       s.runs c (fun e => s.dev.onlyThread e i.thread (t.moved.setReg rd v).finish)
     s.runs (.nop i) (fun e => s.dev.onlyThread e i.thread t.moved.finish) ∧
     (∀ g c h m, i.thread = .glen g c h → s.dev.turn g c = some (m, h) →
       ∀ x ∈ [(Instr.mul i rd ra rb, 3), (.crc32c i rd ra rb, 2), (.add i rd ra rb, 1), (.jmp i imm, 3)], s.runs x.1 (fun e =>
         e.nextCycle g c = m + 1 ∧ e.available i.thread =
           if m + x.2 < 8 * s.dev.getStart R.HEALTH_STATUS_GLEN_CLK then 128 * s.dev.dial.notch + (m + x.2)
           else 128 * (s.dev.dial.notch + 1) + (m + x.2 - 8 * s.dev.getStart R.HEALTH_STATUS_GLEN_CLK))) ∧
     (∀ x ∈ [(Instr.add i rd ra rb, BitVec.ofNat 64 (a.toNat + b.toNat)), (.sub i rd ra rb, BitVec.ofInt 64 (a.toInt - b.toInt)),
         (.and_ i rd ra rb, a &&& b), (.or_ i rd ra rb, a ||| b), (.xor i rd ra rb, a ^^^ b),
         (.shl i rd ra rb, BitVec.ofNat 64 (a.toNat * 2 ^ n)), (.shr i rd ra rb, BitVec.ofNat 64 (a.toNat / 2 ^ n)),
         (.sar i rd ra rb, BitVec.ofInt 64 (a.toInt / 2 ^ n)), (.mul i rd ra rb, BitVec.ofNat 64 (a.toNat * b.toNat)),
         (.sltu i rd ra rb, if a.toNat < b.toNat then 1 else 0), (.slt i rd ra rb, if a.toInt < b.toInt then 1 else 0),
         (.crc32c i rd ra rb, BitVec.ofNat 64
           (crc32cStep (a.toNat % 2 ^ 32 ^^^ (2 ^ 32 - 1)) (leBytes 8 b.toNat) ^^^ (2 ^ 32 - 1))),
         (.minu i rd ra rb, BitVec.ofNat 64 (min a.toNat b.toNat)), (.maxu i rd ra rb, BitVec.ofNat 64 (max a.toNat b.toNat)),
         (.addi i rd ra imm, BitVec.ofInt 64 (a.toInt + im.toInt)), (.andi i rd ra imm, a &&& im), (.ori i rd ra imm, a ||| im),
         (.xori i rd ra imm, a ^^^ im), (.movi i rd imm, im),
         (.movhi i rd imm, BitVec.ofNat 64 ((t.reg rd).toNat % 2 ^ 32 + imm % 2 ^ 32 * 2 ^ 32))], gives x.1 x.2) ∧
     (imm < 64 → ∀ x ∈ [(Instr.shli i rd ra imm, BitVec.ofNat 64 (a.toNat * 2 ^ imm)),
         (.shri i rd ra imm, BitVec.ofNat 64 (a.toNat / 2 ^ imm)), (.sari i rd ra imm, BitVec.ofInt 64 (a.toInt / 2 ^ imm))],
       gives x.1 x.2) ∧
     (∀ pos len, 1 ≤ len → pos + len ≤ 64 →
       gives (.ext i rd ra (pos + 256 * len)) (BitVec.ofNat 64 (a.toNat / 2 ^ pos % 2 ^ len)) ∧
       s.runs (.ins i rd ra (pos + 256 * len)) (fun e => ∃ v : Word,
         s.dev.onlyThread e i.thread (t.moved.setReg rd v).finish ∧
         ∀ j, j < 64 → v.getLsbD j = if pos ≤ j ∧ j < pos + len then a.getLsbD (j - pos) else (t.reg rd).getLsbD j)))) ∧
  (∀ (t : Thread) (r q : Nat) (v : Word), t.regs.length = 32 →
    (r % 32 = 0 → t.reg r = 0 ∧ t.setReg r v = t) ∧
    (r % 32 ≠ 0 → (t.setReg r v).reg r = v ∧ (q % 32 ≠ r % 32 → (t.setReg r v).reg q = t.reg q))) ∧
  (∀ (d : Dev) (g c t : Nat), t < 8 → d.mayIssue (.glen g c t) = true → d.nextCycle g c < 8 * d.getStart R.HEALTH_STATUS_GLEN_CLK →
    d.available (.glen g c t) ≤ 128 * d.dial.notch + d.nextCycle g c → d.issueSlot g c (d.nextCycle g c) = t →
    d.turn g c = some (d.nextCycle g c, t)) ∧
  (∀ (s : State) (i : Issue) (x : Instr) (w : Word), s.dev.awake = true → s.dev.ready i.thread = false →
    x.coded = some (i, w) → s.leads x (fun e => e = s.dev))

/-- BCC, JMP, CALL and JR move the thread to their targets, and CALL keeps the return address. For every state of an awake device
and thread that fetches. BCC with condition EQ, NE, LTU, GEU, LT or GE that holds of ra and rb, JMP and CALL go to the
address of the branch plus eight times the signed immediate, modulo 2^64; BCC whose condition does not hold goes to the next
instruction; CALL writes the next instruction’s address to rd; JR goes to the address in ra. Nothing else changes but the
cycles its core has used (log entry 29). (R184, R185) -/
def Obligations.BranchesMoveThePc : Prop :=
  ∀ (s : State) (i : Issue) (rd ra rb imm : Nat), s.dev.awake = true → s.dev.fetches i = true →
    (let t := s.dev.thread i.thread
     let a := t.reg ra
     let b := t.reg rb
     let target := (((t.pc : Int) + 8 * signed 32 imm) % 2 ^ 64).toNat
     let goes := fun (c : Instr) (x : Thread) => s.runs c (fun e => s.dev.onlyThread e i.thread x.finish)
     (∀ m ∈ [(0, decide (a = b)), (1, decide (a ≠ b)), (2, decide (a.toNat < b.toNat)), (3, decide (b.toNat ≤ a.toNat)),
         (4, decide (a.toInt < b.toInt)), (5, decide (b.toInt ≤ a.toInt))],
       goes (.bcc i ra rb m.1 imm) (if m.2 then { t.moved with pc := target } else t.moved)) ∧
     goes (.jmp i imm) { t.moved with pc := target } ∧
     goes (.call i rd imm) { t.moved.setReg rd (BitVec.ofNat 64 (t.pc + 8)) with pc := target } ∧
     goes (.jr i ra) { t.moved with pc := a.toNat })

/-- LD, ST and AMOADD access the thread’s data memory in range and aligned, and SCRATCH_REPLY brings a read to its register. For
every state of an awake device and thread that fetches, with the address ra plus the sign-extended immediate and the size the
instruction names. In range and aligned: LD reads the bytes little-endian, zero-extended, a Glen’s thread waiting for its
reply, a control core’s having it at once; ST stores the low bytes of rb at exactly that address; AMOADD reads 8 bytes and
stores their sum with rb. Every other byte of memory, other threads and all registers stay. Beyond 524,288 bytes the
instruction faults with code 4, misaligned with code 5, and the address. SCRATCH_REPLY ends the wait of a thread that waits
for one, and changes nothing of another. That a control core’s load completes in its row is the model’s choice, log entry 44.
(R177, R186, R187, R188, R205) -/
def Obligations.DataMemoryAccesses : Prop :=
  (∀ (s : State) (i : Issue) (rd ra rb imm k : Nat), s.dev.awake = true → s.dev.fetches i = true → k < 4 →
    (let id := i.thread
     let t := s.dev.thread id
     let a := t.addr ra imm
     let n := 2 ^ k
     let old := BitVec.ofNat 64 (leNat (s.dev.mem.bytes (dataBase id + a) n))
     let value := fun (e : Dev) (v : Word) =>
       (∀ g c h, id = .glen g c h → e.thread id = t.moved.await true [(rd, v)]) ∧
       (∀ c, id = .ctrl c → e.thread id = (t.moved.setReg rd v).finish)
     let kept := fun (e : Dev) => (∀ j, j ≠ id → e.thread j = s.dev.thread j) ∧ e.regs = s.dev.regs
     (a + n ≤ 524288 → a % n = 0 →
       s.runs (.ld i rd ra k imm) (fun e => value e old ∧ kept e ∧ e.mem = s.dev.mem) ∧
       s.runs (.st i ra rb k imm) (fun e => e.thread id = t.moved.finish ∧ kept e ∧
         (∀ j, j < n → e.mem.byte (dataBase id + a + j) = BitVec.ofNat 8 ((t.reg rb).toNat / 256 ^ j)) ∧
         (∀ x, (x < dataBase id + a ∨ dataBase id + a + n ≤ x) → e.mem.byte x = s.dev.mem.byte x)) ∧
       (k = 3 → s.runs (.amoadd i rd ra rb imm) (fun e => value e old ∧ kept e ∧
         (∀ j, j < 8 → e.mem.byte (dataBase id + a + j) = BitVec.ofNat 8 ((old + t.reg rb).toNat / 256 ^ j)) ∧
         (∀ x, (x < dataBase id + a ∨ dataBase id + a + 8 ≤ x) → e.mem.byte x = s.dev.mem.byte x)))) ∧
     (∀ c ∈ [Instr.ld i rd ra k imm, .st i ra rb k imm],
       (524288 < a + n → s.runs c (fun e => e = s.dev.faultAt id t.pc 0x04 a)) ∧
       (a + n ≤ 524288 → a % n ≠ 0 → s.runs c (fun e => e = s.dev.faultAt id t.pc 0x05 a))))) ∧
  (∀ (s : State) (id : ThreadId), s.dev.awake = true → s.dev.flows = true →
    (let t := s.dev.thread id
     (t.st = .blkReply → t.scratchReply = true → s.leads (.scratchReply id) (fun e => s.dev.onlyThread e id t.replied)) ∧
     ((t.st ≠ .blkReply ∨ t.scratchReply = false) → s.leads (.scratchReply id) (fun e => e = s.dev))))

/-- The window instructions read and edit the ticket’s header window within their limits. For every state of an awake device and
PACKET thread that fetches and holds a ticket p. WLD of n bytes within the first 256 reads them big-endian, bytes past the
window as 0, and sets DEEP where the frame goes on and the last byte is at or past D. WST and WCPY replace the bytes of the
window from the offset on, WPUSH inserts n zeros, WPUSHS n bytes of scratch, and WPOP takes n bytes out: where p has fewer
than 8 edits and the pushed and popped bytes stay within 96 and 128 and the place within the window, the edit is counted with
its bytes and rd is 0. A ninth edit, bytes past the limits, and places past the window leave the window and put their code 1
to 5 into ERR and rd. An offset out of range, and scratch bytes beyond 524,288, fault with codes 6 and 4. Nothing else
changes. (R190, R191, R192, R193, R214, R218) -/
def Obligations.WindowInstructionsEditTheHeader : Prop :=
  (∀ (s : State) (g c h rd ra rb imm k : Nat) (p : Pkt),
    (let id := ThreadId.glen g c h
     let i : Issue := { thread := id }
     let t := s.dev.thread id
     let mem := fun n => s.dev.mem.bytes (scratchBase g + (t.reg rb).toNat) n
     let becomes := fun (x : Instr) (u : Thread) => s.runs x (fun e => s.dev.onlyThread e id u.finish)
     let faults := fun (x : Instr) (code detail : Nat) => s.runs x (fun e => e = s.dev.faultAt id t.pc code detail)
     s.dev.awake = true → s.dev.fetches i = true → s.dev.mode g c h ≠ 2 → t.pkt = some p →
     (∀ o n, o = t.addr ra imm → n = 2 ^ k → k < 4 →
       (o + n ≤ 256 →
         becomes (.wld i rd ra k imm) ((({ t.moved with
           pkt := some (if p.tk.continues ∧ winD p.win < o + n then { p with tk := p.tk.put T.DEEP 1 } else p) }).setReg rd
             (BitVec.ofNat 64 (beNat ((List.range n).map (fun j => nth p.win (o + j) 0)))))) ∧
         becomes (.wst i rd ra rb k imm) (t.moved.edit p rd 0 0 false (winWrite p.win o (beBytes n (t.reg rb).toNat)))) ∧
       (256 < o + n → ∀ x ∈ [Instr.wld i rd ra k imm, .wst i rd ra rb k imm], faults x 0x06 (o % 65536 + n * 65536))) ∧
     (∀ o n, o = t.winOffset ra imm → n = imm / 65536 → imm < 2 ^ 32 → 1 ≤ n →
       (n ≤ 96 → o ≤ 255 →
         becomes (.wpush i rd ra imm) (t.moved.edit p rd n 0 (decide (p.win.length < o))
           (p.win.take o ++ List.replicate n 0 ++ p.win.drop o)) ∧
         ((t.reg rb).toNat + n ≤ 524288 → becomes (.wpushs i rd ra rb imm) (t.moved.edit p rd n 0 (decide (p.win.length < o))
           (p.win.take o ++ mem n ++ p.win.drop o))) ∧
         (524288 < (t.reg rb).toNat + n → faults (.wpushs i rd ra rb imm) 0x04 (t.reg rb).toNat)) ∧
       (n ≤ 96 → 255 < o → faults (.wpush i rd ra imm) 0x06 (o % 65536 + n * 65536)) ∧
       (n ≤ 128 → o + n ≤ 256 →
         becomes (.wpop i rd ra imm) (t.moved.edit p rd 0 n (decide (p.win.length < o + n))
           (p.win.take o ++ p.win.drop (o + n))) ∧
         ((t.reg rb).toNat + n ≤ 524288 →
           becomes (.wcpy i rd ra rb imm) (t.moved.edit p rd 0 0 false (winWrite p.win o (mem n)))))))) ∧
  (∀ (t : Thread) (p : Pkt) (rd push pop : Nat) (past : Bool) (w : List Byte), p.tk.q.length = 8 →
    t.regs.length = 32 → rd % 32 ≠ 0 → (push = 0 ∨ pop = 0) →
    (let u := t.edit p rd push pop past w
     (p.tk.get T.EDITS < 8 → p.tk.get T.PUSH_BYTES + push ≤ 96 → p.tk.get T.POP_BYTES + pop ≤ 128 → past = false →
       u.reg rd = 0 ∧ ∃ q, u.pkt = some q ∧ q.win = w ∧ q.tk.get T.EDITS = p.tk.get T.EDITS + 1 ∧
         q.tk.get T.PUSH_BYTES = p.tk.get T.PUSH_BYTES + push ∧ q.tk.get T.POP_BYTES = p.tk.get T.POP_BYTES + pop ∧
         q.tk.get T.ERR = p.tk.get T.ERR) ∧
     (∀ code, (p.tk.get T.EDITS ≥ 8 ∧ code = 1 ∨ p.tk.get T.EDITS < 8 ∧ push ≠ 0 ∧ 96 < p.tk.get T.PUSH_BYTES + push ∧ code = 2 ∨
         p.tk.get T.EDITS < 8 ∧ pop ≠ 0 ∧ 128 < p.tk.get T.POP_BYTES + pop ∧ code = 3 ∨
         p.tk.get T.EDITS < 8 ∧ push ≠ 0 ∧ p.tk.get T.PUSH_BYTES + push ≤ 96 ∧ past = true ∧ code = 4 ∨
         p.tk.get T.EDITS < 8 ∧ pop ≠ 0 ∧ p.tk.get T.POP_BYTES + pop ≤ 128 ∧ past = true ∧ code = 5) →
       u.reg rd = BitVec.ofNat 64 code ∧ ∃ q, u.pkt = some q ∧ q.win = p.win ∧ q.tk.get T.ERR = code ∧
         q.tk.get T.EDITS = p.tk.get T.EDITS)))

/-- TLD, TLDQ, TST, STAT and EMIT read, change, report and send out the thread’s ticket. For every state of an awake device and
PACKET thread that fetches. With a ticket p: TLD of the field a selector names writes it to rd zero-extended, WIN_DELTA
sign-extended; TLDQ writes a quadword; TST of a program field sets it from ra’s low bits, except INSTANCE on a ticket of host
ingress 16 or 17, which stays; TST of another field is an illegal instruction. STAT writes the status word (lock-broken,
events, locks held, core, thread, slot, Glen and Notch) and clears lock-broken. EMIT of a thread with no lock and no stage
sends the ticket to the Glen’s fabric path and leaves the thread idle; with a lock or a stage it faults with code 0x0B,
without a ticket with 0x0C. Nothing else changes. (R69, R70, R132, R194, R195, R196, R203) -/
def Obligations.TicketInstructionsReadAndSendTheTicket : Prop :=
  ∀ (s : State) (g c h r n : Nat),
    (let id := ThreadId.glen g c h
     let i : Issue := { thread := id }
     let t := s.dev.thread id
     let becomes := fun (x : Instr) (u : Thread) => s.runs x (fun e => s.dev.onlyThread e id u.finish)
     s.dev.awake = true → s.dev.fetches i = true → n < 2 ^ 32 →
     (∀ p f, t.pkt = some p → s.dev.mode g c h ≠ 2 → ticketFields[n]? = some f →
       becomes (.tld i r n) (t.moved.setReg r (if f = T.WIN_DELTA then BitVec.ofInt 64 p.tk.delta else BitVec.ofNat 64 (p.tk.get f))) ∧
       (f.prog = true → (f = T.INSTANCE → p.tk.get T.INGRESS ≠ 16 ∧ p.tk.get T.INGRESS ≠ 17) →
         becomes (.tst i r n) { t.moved with pkt := some { p with tk := p.tk.put f (t.reg r).toNat } }) ∧
       (f = T.INSTANCE → (p.tk.get T.INGRESS = 16 ∨ p.tk.get T.INGRESS = 17) → becomes (.tst i r n) t.moved) ∧
       (f.prog = false → s.runs (.tst i r n) (fun e =>
         e = s.dev.faultAt id t.pc 0x01 (insWord 0x61 0 r 0 0 0 n).toNat))) ∧
     (∀ p, t.pkt = some p → s.dev.mode g c h ≠ 2 → n < 8 → becomes (.tldq i r n) (t.moved.setReg r (nth p.tk.q n 0))) ∧
     becomes (.stat i r) ({ t.moved with lockBroken := false }.setReg r (BitVec.ofNat 64
       ((if t.lockBroken then 1 else 0) + t.events * 2 + (s.dev.locksHeld id).length * 2 ^ 4 + c * 2 ^ 8 + h * 2 ^ 13 +
         s.dev.get R.GPHYS_STATUS_SLOT g * 2 ^ 16 + g * 2 ^ 24 + s.dev.dial.notch % 2 ^ 32 * 2 ^ 32))) ∧
     (∀ p, t.pkt = some p →
       (s.dev.locksHeld id = [] → t.stage = none → s.runs (.emit i) (fun e =>
         e.thread id = { t.moved with st := .idle, pkt := none }.finish ∧ (e.glen g).flying = (s.dev.glen g).flying ++ [p] ∧
         (∀ j, j ≠ id → e.thread j = s.dev.thread j) ∧ e.regs = s.dev.regs ∧ e.mem = s.dev.mem ∧ e.basin = s.dev.basin)) ∧
       ((s.dev.locksHeld id ≠ [] ∨ t.stage ≠ none) → s.runs (.emit i) (fun e =>
         e = s.dev.faultAt id t.pc 0x0B ((s.dev.locksHeld id).length + if t.stage.isSome then 16 else 0)))) ∧
     (t.pkt = none → s.runs (.emit i) (fun e => e = s.dev.faultAt id t.pc 0x0C 0)))

/-- Channels carry whole messages, locks are held by one thread, and events wake a waiting thread. For every state of an awake
device and a Glen’s thread that fetches. CHWR with no stage on a free channel opens one with the word, on a written one
waits; with a stage on that channel of fewer than 16 words it appends; otherwise it faults with code 0x0A. CHCOMMIT of a
stage that fits into a channel nobody waits for appends the message and frees the channel, of one that does not fit waits,
with no stage faults. CHRD and CHTRY of up to k words take the oldest message, its length in rd and its words after it; of an
empty channel CHRD waits and CHTRY gives 0. LKACQ and LKTRY of a free lock, with fewer than 8 held, take it, a BROKEN one
with the lock-broken condition; of a lock another thread holds LKACQ waits and LKTRY gives 0; LKREL frees it, or gives it to
the first waiter. A number past 5,119, a lock already held, or one not held, fault with code 8, a ninth lock with 9. EVPOST
to a thread of the core wakes one that waits and else raises its count to at most 7; EVWAIT takes one event or waits. The
words a channel message takes are the model’s choice, log entry 36. (R138, R139, R140, R141, R142, R143, R144, R198, R199) -/
def Obligations.ThreadsShareChannelsLocksAndEvents : Prop :=
  ∀ (s : State) (g c h r n k : Nat),
    (let id := ThreadId.glen g c h
     let i : Issue := { thread := id }
     let t := s.dev.thread id
     let ch := s.dev.chan (g, n)
     let faults := fun (x : Instr) (code detail : Nat) => s.runs x (fun e => e = s.dev.faultAt id t.pc code detail)
     s.dev.awake = true → s.dev.fetches i = true →
     (n < 64 →
       (t.stage = none →
         (ch.writer = none → s.runs (.chwr i r n) (fun e => e.chan (g, n) = { ch with writer := some id } ∧
           e.thread id = { t.moved with stage := some (n, [t.reg r]) }.finish ∧ e.regs = s.dev.regs)) ∧
         (ch.writer ≠ none → s.runs (.chwr i r n) (fun e => e.chan (g, n) = { ch with writers := ch.writers ++ [id] } ∧
           e.thread id = { t.moved with st := .blkChwr, waitObj := n, waitWord := t.reg r })) ∧
         faults (.chcommit i) 0x0A 0x10000) ∧
       (∀ ws, t.stage = some (n, ws) →
         (ws.length < 16 → s.runs (.chwr i r n) (fun e =>
           s.dev.onlyThread e id { t.moved with stage := some (n, ws ++ [t.reg r]) }.finish)) ∧
         (16 ≤ ws.length → faults (.chwr i r n) 0x0A (n + n * 2 ^ 8)) ∧
         (ch.fits ws.length = true → ch.writers = [] → ch.readers = [] → s.runs (.chcommit i) (fun e =>
           e.chan (g, n) = { ch with msgs := ch.msgs ++ [ws], writer := none } ∧
           e.thread id = { t.moved with stage := none }.finish ∧ ∀ j, j ≠ id → e.thread j = s.dev.thread j)) ∧
         (ch.fits ws.length = false → s.runs (.chcommit i) (fun e =>
           s.dev.onlyThread e id { t.moved with st := .blkChfull, waitObj := n }))) ∧
       (1 ≤ k → k ≤ 16 → r + k ≤ 31 →
         (∀ m rest, ch.msgs = m :: rest → ch.writer = none → ∀ x ∈ [Instr.chrd i r k n, .chtry i r k n],
           s.runs x (fun e => e.thread id = (t.moved.receive r k m).finish ∧ e.chan (g, n) = { ch with msgs := rest } ∧
             ∀ j, j ≠ id → e.thread j = s.dev.thread j)) ∧
         (ch.msgs = [] →
           s.runs (.chrd i r k n) (fun e => e.chan (g, n) = { ch with readers := ch.readers ++ [id] } ∧
             e.thread id = { t.moved with st := .blkChrd, waitObj := n, waitRd := r, waitK := k }) ∧
           s.runs (.chtry i r k n) (fun e => s.dev.onlyThread e id (t.moved.setReg r 0).finish)))) ∧
     (∀ l, l = (t.reg k + (BitVec.ofNat 32 n).signExtend 64).toNat →
       (let lk := s.dev.lock (lockKey g l)
        let may := lk.holder ≠ some id ∧ (s.dev.locksHeld id).length < 8 ∧ l ≤ 5119
        (may → lk.holder = none →
          s.runs (.lkacq i k n) (fun e => e.lock (lockKey g l) = { lk with holder := some id, broken := false } ∧
            e.thread id = { t.moved with lockBroken := t.lockBroken || lk.broken }.finish) ∧
          s.runs (.lktry i r k n) (fun e => e.lock (lockKey g l) = { lk with holder := some id, broken := false } ∧
            e.thread id = ({ t.moved with lockBroken := t.lockBroken || lk.broken }.setReg r 1).finish)) ∧
        (may → lk.holder ≠ none →
          s.runs (.lkacq i k n) (fun e => e.lock (lockKey g l) = { lk with waiters := lk.waiters ++ [id] } ∧
            e.thread id = { t.moved with st := .blkLock, waitObj := l }) ∧
          s.runs (.lktry i r k n) (fun e => s.dev.onlyThread e id (t.moved.setReg r 0).finish)) ∧
        ((5119 < l ∨ lk.holder = some id) → faults (.lkacq i k n) 0x08 l ∧ faults (.lktry i r k n) 0x08 l) ∧
        (l ≤ 5119 → lk.holder ≠ some id → 8 ≤ (s.dev.locksHeld id).length → faults (.lkacq i k n) 0x09 l) ∧
        (l ≤ 5119 → lk.holder = some id → lk.waiters = [] → s.runs (.lkrel i k n) (fun e =>
          e.lock (lockKey g l) = { lk with holder := none } ∧ e.thread id = t.moved.finish)) ∧
        (∀ w ws, l ≤ 5119 → lk.holder = some id → lk.waiters = w :: ws → w ≠ id → s.runs (.lkrel i k n) (fun e =>
          e.lock (lockKey g l) = { holder := some w, broken := false, waiters := ws } ∧
          e.thread w = { s.dev.thread w with lockBroken := (s.dev.thread w).lockBroken || lk.broken }.wake)) ∧
        ((5119 < l ∨ lk.holder ≠ some id) → faults (.lkrel i k n) 0x08 l))) ∧
     (∀ u, u < 8 → u ≠ h →
       (let v := s.dev.thread (.glen g c u)
        s.runs (.evpost i (2 ^ u)) (fun e => e.thread id = t.moved.finish ∧
          (v.st = .blkEvwait → e.thread (.glen g c u) = v.wake) ∧
          (v.st ≠ .blkEvwait → e.thread (.glen g c u) = { v with events := min 7 (v.events + 1) })))) ∧
     (t.events = 0 → s.runs (.evwait i) (fun e => s.dev.onlyThread e id { t.moved with st := .blkEvwait })) ∧
     (t.events ≠ 0 → s.runs (.evwait i) (fun e => s.dev.onlyThread e id { t.moved with events := t.events - 1 }.finish)))

/-- The control profile’s instructions reach control registers, return from entries, wait, and use the internal address space.
For every state of an awake device and control core c whose thread fetches. CSRR of a register writes its value to rd; of
another number it is an illegal instruction. CSRW writes IE, running priority, vector base (a multiple of 128 KiB), exception
entry (its low six bits 0) and timer, and nothing of a read-only register; a write of SWINT, and SWINT, requests software
source ra[5:0]; of MREQ, and MREQ, requests the lines ra[7:0] names; a line whose request stands already takes no second one.
ERET of an exception returns to its address, past a TRAP; of an interrupt it also restores the running priority and completes
the vector unless it was the spurious one. WFI waits; FENCE only moves on. MLD and MST of memory in the internal address
space, aligned, read little-endian and store exactly those bytes; of a register page MLD of 8 bytes is a read of control
firmware, and MST is noted as its write at the end of the Notch; outside it they fault with code 4, misaligned with 5.
CORE_TIMER in the Notch of a core’s timer pends source 64 + c; otherwise it changes nothing. The model’s choices, log entries
40 (an EXC_ENTRY is aligned down), 43 (ERET of an empty stack only moves on), 44 (MLD ends with its command), 45 (the store
at the Notch’s end), 125 (the cycle of issue) and 131 (the words fetched). (R205, R471, R472, R474, R475, R476, R477, R486) -/
def Obligations.ControlCoresRunTheirProfile : Prop :=
  (∀ (s : State) (c rd ra rb n k : Nat),
    (let id := ThreadId.ctrl c
     let i : Issue := { thread := id }
     let t := s.dev.thread id
     let x := s.dev.ctrl c
     let v := (t.reg ra).toNat
     let asked := { x with
       mreq := x.mreq ||| v % 256
       mreqNow := x.mreqNow ||| (v % 256 &&& (255 - x.mreq % 256)) }
     let becomes := fun (y : Instr) (u : Thread) => s.leads y (fun e => s.dev.onlyThread e id u.finish)
     let faults := fun (y : Instr) (code detail : Nat) => s.leads y (fun e => e = s.dev.faultAt id t.pc code detail)
     let turns := fun (y : Instr) (x' : CtrlCore) => s.leads y (fun e => e.ctrl c = x' ∧ e.thread id = t.moved.finish ∧
       (∀ b, b ≠ c → e.ctrl b = s.dev.ctrl b) ∧ e.regs = s.dev.regs ∧ e.mem = s.dev.mem)
     s.dev.awake = true → s.dev.fetches i = true →
     (∀ u, s.dev.csr c n = some u → becomes (.csrr i rd n) (t.moved.setReg rd (BitVec.ofNat 64 u))) ∧
     (s.dev.csr c n = none → faults (.csrr i rd n) 0x01 (insWord 0xC0 rd 0 0 0 0 n).toNat) ∧
     (∀ y ∈ [(0x001, { x with ie := v % 2 == 1 }), (0x002, { x with runPrio := v % 64 }),
         (0x003, if v % 2 ^ 17 = 0 then { x with vecBase := v % 2 ^ 19 } else x),
         (0x004, { x with excEntry := v % 2 ^ 19 - v % 64 }), (0x00A, { x with timer := v }),
         (0x00C, asked)] ++ [0x000, 0x005, 0x006, 0x007, 0x008, 0x009].map (fun r => (r, x)),
       turns (.csrw i ra y.1) y.2) ∧
     turns (.mreq i ra) asked ∧
     (∀ y ∈ [Instr.swint i ra, .csrw i ra 0x00B], turns y { x with swint := v % 64, swintOpen := true } ∧
       s.leads y (fun e => e.control.soft = s.dev.control.soft ++ [v % 64])) ∧
     turns (.wfi i) { x with wfi := true } ∧ becomes (.fence i) t.moved ∧
     (∀ y rest, x.stack = y :: rest →
       (y.exc = true → s.leads (.eret i) (fun e => e.ctrl c = { x with stack := rest, exc := false } ∧
         e.thread id = { t.moved with pc := if y.trap then y.pc + 8 else y.pc }.finish ∧ e.control.done = s.dev.control.done)) ∧
       (y.exc = false → s.leads (.eret i) (fun e => e.ctrl c = { x with stack := rest, runPrio := y.prio } ∧
         e.thread id = { t.moved with pc := y.pc }.finish ∧ e.regs = s.dev.regs ∧ e.control.done = s.dev.control.done ++
           (if y.vec = 2047 then [] else [(y.vec, s.dev.dial.notch)])))) ∧
     (x.stack = [] → becomes (.eret i) t.moved) ∧
     (k < 4 → ∀ a m, a = t.addr ra n → m = 2 ^ k →
       (s.dev.internalOk a m = false → ∀ y ∈ [Instr.mld i rd ra k n, .mst i ra rb k n], faults y 0x04 a) ∧
       (s.dev.internalOk a m = true → a % m ≠ 0 → ∀ y ∈ [Instr.mld i rd ra k n, .mst i ra rb k n], faults y 0x05 a) ∧
       (s.dev.internalOk a m = true → a % m = 0 →
         (inPages a m = false →
           becomes (.mld i rd ra k n) (t.moved.setReg rd (BitVec.ofNat 64 (leNat (s.dev.mem.bytes a m)))) ∧
           s.leads (.mst i ra rb k n) (fun e => e.thread id = t.moved.finish ∧ e.regs = s.dev.regs ∧
             (∀ j, j < m → e.mem.byte (a + j) = BitVec.ofNat 8 ((t.reg rb).toNat / 256 ^ j)) ∧
             (∀ b, (b < a ∨ a + m ≤ b) → e.mem.byte b = s.dev.mem.byte b))) ∧
         (inPages a m = true → k = 3 → ∀ d, d = s.dev.setThread id t.moved →
           s.leads (.mld i rd ra k n) (fun e => e.regs = (d.busRead .firmware (a / 4096) (a % 4096) true).2.regs) ∧
           s.leads (.mst i ra rb k n) (fun e => e.thread id = t.moved.finish ∧ e.regs = s.dev.regs ∧ e.mem = s.dev.mem ∧
             e.acc.stores = s.dev.acc.stores ++ [⟨a, leBytes 8 (t.reg rb).toNat⟩])))))) ∧
  (∀ (s : State) (c : Nat), s.dev.awake = true →
    (let due := c < 16 ∧ (s.dev.ctrl c).timer ≠ 0 ∧ (s.dev.ctrl c).timer = s.dev.dial.notch
     (due → s.leads (.coreTimer c) (fun e => e.get R.SRC_W1_PEND (64 + c) = 1 ∧
       s.dev.agrees e [fldKey R.SRC_W1_PEND (64 + c) 0])) ∧
     (¬ due → s.leads (.coreTimer c) (fun e => e = s.dev))))

/-- Sources are presented to the least busy core, acknowledged, completed, or delivered to a host. For every state of an awake
device. PRESENTATION with one eligible source x routed to cores and no core in WFI presents x to the core the rule gives:
SERVICE 1, its COUNT and PRESENTED counted, an edge source’s latch cleared, the rotor past the core; during a firmware swap,
and with no eligible source, nothing changes. The core the rule gives may take x and runs at the lowest priority of those
that may. ACKNOWLEDGE by a core not halted or stopped with room on its stack pushes its address, priority and the vector,
goes on at vecBase + 64 times the vector at the source’s priority, with the source ACTIVE, or for a level that fell the
spurious vector 2,047 and the source idle. SOURCE_COMPLETE after the Notch of the completion makes it idle. HOST_DELIVERY of
an eligible host-routed source makes it ACTIVE and counts it. HOST_EOI of an ACTIVE one no core holds completes it (status
0), reads back 2 for another and 3 for a source not routed to a host. SWSET adds its bits; NC_SI_RECEIVE sets or ends level
196; the debugger halts a core or lets it go. The model’s choices, log entries 42 (a withdrawn presentation), 47 (how long
data keeps its level), 96 (what is taken at the Notch’s start) and 151 (when a core acknowledges). (R477, R481, R482, R483,
R484, R486, R488, R490, R491) -/
def Obligations.TheConcentratorDeliversEvents : Prop :=
  ∀ (s : State), s.dev.awake = true →
    (s.dev.stage = bsSwapping → s.leads .presentation (fun e => e = s.dev)) ∧
    (s.dev.stage ≠ bsSwapping → (∀ c, (s.dev.ctrl c).wfi = false) →
      (s.dev.eligibleList 0 = [] → s.leads .presentation (fun e => e = s.dev)) ∧
      (∀ x c, s.dev.eligibleList 0 = [x] → s.dev.chosenCore x = some c → s.leads .presentation (fun e =>
        e.get R.SRC_W1_SERVICE x = 1 ∧ e.get R.SRC_W1_CORE x = c ∧ e.get R.EVT_ROTOR_CORE = (c + 1) % 16 ∧
        e.get R.EVT_PRESENTED = saturate R.EVT_PRESENTED.w (s.dev.get R.EVT_PRESENTED + 1) ∧
        e.get R.SRC_W1_COUNT x = saturate R.SRC_W1_COUNT.w (s.dev.get R.SRC_W1_COUNT x + 1) ∧
        (s.dev.flag R.SRC_W0_TRIGGER x = true → e.get R.SRC_W1_PEND x = 0) ∧
        e.ctrl c = { s.dev.ctrl c with outst := some (x, s.dev.getStart R.SRC_W1_EFF_PRIO x) } ∧
        ∀ b, b ≠ c → e.ctrl b = s.dev.ctrl b))) ∧
    (∀ x c, s.dev.chosenCore x = some c →
      (let may := fun b => (s.dev.getStart R.SRC_W0_TARGETS x).testBit b = true ∧ s.dev.getStart R.EVT_CORE_IE 0 b ≠ 0 ∧
         s.dev.canTake b (s.dev.getStart R.SRC_W1_EFF_PRIO x) = true
       c < 16 ∧ may c ∧ ∀ b, b < 16 → may b → s.dev.getStart R.EVT_CORE_RUN_PRIO 0 c ≤ s.dev.getStart R.EVT_CORE_RUN_PRIO 0 b)) ∧
    (∀ c, (let x := s.dev.ctrl c
           let t := s.dev.thread (.ctrl c)
      (∀ src p, x.outst = some (src, p) → x.halted = false → x.stopped = false → x.stack.length < 64 → t.st = .ready →
        (let taken := fun (e : Dev) (vec : Nat) =>
           e.ctrl c = { x with
             outst := none
             wfi := false
             runPrio := p
             stack := { pc := t.pc, prio := x.runPrio, vec := vec } :: x.stack } ∧
           e.thread (.ctrl c) = { t with pc := x.vecBase + 64 * vec }
         ((s.dev.flag R.SRC_W0_TRIGGER src = true ∨ s.dev.get R.SRC_W1_PEND src = 1) →
           s.leads (.acknowledge c) (fun e => taken e src ∧ e.get R.SRC_W1_SERVICE src = 2)) ∧
         (s.dev.flag R.SRC_W0_TRIGGER src = false → s.dev.get R.SRC_W1_PEND src = 0 →
           s.leads (.acknowledge c) (fun e => taken e 2047 ∧ e.get R.SRC_W1_SERVICE src = 0 ∧
             e.get R.EVT_SPURIOUS = saturate R.EVT_SPURIOUS.w (s.dev.get R.EVT_SPURIOUS + 1))))) ∧
      ((x.outst = none ∨ x.halted = true ∨ x.stopped = true) → s.leads (.acknowledge c) (fun e => e = s.dev)) ∧
      (∀ h, c < 16 → s.leads (.controlCoreDebugHalt c h) (fun e => e.ctrl c = { x with halted := h } ∧
        e.get R.EVT_CORE_HALTED 0 c = (if h then 1 else 0) ∧ s.dev.agrees e [fldKey R.EVT_CORE_HALTED 0 c])))) ∧
    (∀ x, (let due := ∃ n, (x, n) ∈ s.dev.control.done ∧ n < s.dev.dial.notch
      (due → s.leads (.sourceComplete x) (fun e => e.get R.SRC_W1_SERVICE x = 0 ∧ (∀ n, (x, n) ∉ e.control.done) ∧
        s.dev.agrees e [fldKey R.SRC_W1_SERVICE x 0])) ∧
      (¬ due → s.leads (.sourceComplete x) (fun e => e = s.dev)) ∧
      (let open_ := x < 2047 ∧ s.dev.getStart R.SRC_W0_ROUTE x = 1 ∧ s.dev.eligible x = true
       (open_ → s.leads (.hostDelivery x) (fun e => e.get R.SRC_W1_SERVICE x = 2 ∧
         e.get R.SRC_W1_COUNT x = saturate R.SRC_W1_COUNT.w (s.dev.get R.SRC_W1_COUNT x + 1) ∧
         (s.dev.flag R.SRC_W0_TRIGGER x = true → e.get R.SRC_W1_PEND x = 0) ∧
         (let fn := s.dev.getStart R.SRC_W0_HOST_PF x
          let v := s.dev.getStart R.SRC_W0_HOST_VEC x
          (s.dev.msixOpen fn v = true → Out.msix fn v ∈ e.out) ∧
          (s.dev.msixOpen fn v = false → (e.msixEntry fn v).pending = true)))) ∧
       (¬ open_ → s.leads (.hostDelivery x) (fun e => e = s.dev))))) ∧
    (∀ (p : Path) (data : Word), s.dev.admits p pgEVT = true → s.leads (.swset p data) (fun e =>
      e.get R.EVT_SWSET = s.dev.get R.EVT_SWSET ||| data.toNat ∧ s.dev.agrees e (fldKey R.EVT_SWSET 0 0 :: journalKeys))) ∧
    (∀ (p : Path) (x : Nat), s.dev.accepts p pgEVT = true → x < 2048 →
      ((x = 2047 ∨ s.dev.get R.SRC_W0_ROUTE x = 0) → s.leads (.hostEoi p x) (fun e =>
        e.get R.EVT_HOST_EOI_STATUS = 3 ∧ e.control = s.dev.control)) ∧
      (x ≠ 2047 → s.dev.get R.SRC_W0_ROUTE x = 1 → (s.dev.get R.SRC_W1_SERVICE x ≠ 2 ∨ s.dev.onCore x = true) →
        s.leads (.hostEoi p x) (fun e => e.get R.EVT_HOST_EOI_STATUS = 2 ∧ e.control = s.dev.control)) ∧
      (x ≠ 2047 → s.dev.get R.SRC_W0_ROUTE x = 1 → s.dev.get R.SRC_W1_SERVICE x = 2 → s.dev.onCore x = false →
        s.leads (.hostEoi p x) (fun e => e.get R.EVT_HOST_EOI_STATUS = 0 ∧
          e.control.done = s.dev.control.done ++ [(x, s.dev.dial.notch)]))) ∧
    (∀ b, s.leads (.ncSiReceive b) (fun e => (196 ∈ e.control.levels ↔ b = true) ∧ e.regs = s.dev.regs ∧
      ∀ x, x ≠ 196 → (x ∈ e.control.levels ↔ x ∈ s.dev.control.levels)))

/-- FLOOK, RLOOK, MLOOK, MLEARN and RULE put the thread in wait for a reply with the status and data of the match. For every
state of an awake device and Glen’s thread that fetches the lookup, no place of the tables in error. The thread waits for a
reply that writes the status to rd and the result after it. FLOOK of an invalid table or a wrong key length gives BAD_TABLE
(3); a key of the move log or the flow cache, else, with room for it in HBM, of the buckets, HIT (1) with the entry’s data
and hash; else MISS (0); without room it waits in the engine’s queue. RLOOK of a VRF without EN gives BAD_TABLE; with no
filter, the longest length of the VRF’s map whose route is in the table, with HIT and its next hop, else MISS. MLOOK gives
BAD_TABLE with MAC tables off, else HIT with the data or MISS. MLEARN joins those of its Notch in order of slot, core and
thread; served, a known address gives HIT and, not STATIC, keeps the data and stamp; an unknown one gives MISS without
LEARN_EN, INSERTED (4) with the entry written where a candidate bucket has room. RULE gives the row and actions of the
matching row of the set that comes first by priority and index, or MISS. An entry found holds the key. TABLE_REPLY writes the
reply’s registers, once the engine has served the lookup. The model’s choices, log entries 35 (TABLE_REPLY), 48 (the order of
MLEARNs), 49, 50, 51, 55 (what counts and repairs) and 120 (HBM’s share of a Notch). (R200, R201, R202, R224, R252, R253,
R255, R266, R268, R269, R270, R83) -/
def Obligations.LookupInstructionsAnswerFromTheTables : Prop :=
  (∀ (s : State) (g c h rd ra rb n k : Nat) (m : TableMem),
    (let id := ThreadId.glen g c h
     let i : Issue := { thread := id }
     let t := s.dev.thread id
     let z := s.dev.start
     let waits := fun (e : Dev) (l : List (Nat × Word)) (hash : Option Nat) =>
       e.thread id = t.moved.await false l hash ∧ ∀ j, j ≠ id → e.thread j = s.dev.thread j
     s.dev.awake = true → s.dev.fetches i = true → s.dev.tables.bad = [] → m.bad = [] → rd < 32 → ra < 32 →
     (n < 16 → 1 ≤ k → k ≤ 8 → ra + k ≤ 32 → rd + 4 ≤ 31 →
       (let key := (List.range k).map (fun j => t.reg (ra + j))
        let hash := some (z.hash n (z.activeBank n) key).hA
        let hit := fun (x : Nat) => s.runs (.flook i rd ra k n m) (fun e => waits e (replyWords rd 1 (z.dataOf n x) 4) hash)
        ((z.get R.TABLE_FT_CFG_VALID 0 n = 0 ∨ k ≠ z.get R.TABLE_FT_CFG_KEY_WORDS 0 n + 1) →
          s.runs (.flook i rd ra k n m) (fun e => waits e (replyWords rd 3 [] 4) none ∧
            (m.corrected = [] → e.regs = s.dev.regs))) ∧
        (z.get R.TABLE_FT_CFG_VALID 0 n = 1 → k = z.get R.TABLE_FT_CFG_KEY_WORDS 0 n + 1 →
          (∀ x, z.logHit [] n key = some x → hit x) ∧
          (∀ x, z.logHit [] n key = none → s.dev.cacheHit ((z.hash n (z.activeBank n) key).hA % 32768) n key = some x → hit x) ∧
          (z.logHit [] n key = none → s.dev.cacheHit ((z.hash n (z.activeBank n) key).hA % 32768) n key = none →
            (s.dev.hbmRoom = true → ∀ x l, z.probe [] n key = (some x, l) → hit x) ∧
            (s.dev.hbmRoom = true → (z.probe [] n key).1 = none →
              s.runs (.flook i rd ra k n m) (fun e => waits e (replyWords rd 0 [] 4) hash)) ∧
            (s.dev.hbmRoom = false → s.runs (.flook i rd ra k n m) (fun e => waits e [] none ∧
              e.tables.waiting = s.dev.tables.waiting ++ [⟨some id, rd, n, key⟩])))))) ∧
     (k < 2 → rd + 1 ≤ 31 → ra + k ≤ 31 →
       (let vrf := t.pkt.elim 0 (fun p => p.tk.get T.VRF)
        let key := fun l => routeKey vrf k l (t.reg ra) (if k = 1 then t.reg (ra + 1) else 0)
        let found := fun l => (z.find [] 16 (key l)).1
        (z.get R.VRF_W0_EN vrf = 0 → s.runs (.rlook i rd ra k m) (fun e => waits e (replyWords rd 3 [0] 1) none)) ∧
        (z.get R.VRF_W0_EN vrf = 1 → z.get R.VRF_W0_FILTER_EN vrf = 0 →
          (∀ l x, (s.dev.lengths vrf k).find? (fun l => (found l).isSome) = some l → found l = some x →
            s.runs (.rlook i rd ra k m) (fun e => waits e (replyWords rd (1 + l * 256) [nth (z.dataOf 16 x) 0 0] 1) none)) ∧
          ((s.dev.lengths vrf k).find? (fun l => (found l).isSome) = none →
            s.runs (.rlook i rd ra k m) (fun e => waits e (replyWords rd 0 [0] 1) none))))) ∧
     (let key := [t.reg ra &&& 0x0FFFFFFFFFFFFFFF]
      let found := (z.find [] 17 key).1
      (rd + 1 ≤ 31 →
        (z.get R.TABLE_MAC_CFG_EN = 0 → s.runs (.mlook i rd ra m) (fun e => waits e (replyWords rd 3 [] 1) none)) ∧
        (z.get R.TABLE_MAC_CFG_EN = 1 →
          (∀ x, found = some x → s.runs (.mlook i rd ra m) (fun e => waits e (replyWords rd 1 (z.dataOf 17 x) 1) none)) ∧
          (found = none → s.runs (.mlook i rd ra m) (fun e => waits e (replyWords rd 0 [] 1) none)))) ∧
      (z.get R.TABLE_MAC_CFG_EN = 0 →
        s.runs (.mlearn i rd ra rb m) (fun e => waits e [(rd, 3)] none ∧ e.regs = s.dev.regs)) ∧
      (z.get R.TABLE_MAC_CFG_EN = 1 → s.runs (.mlearn i rd ra rb m) (fun e => waits e [] none ∧ ∃ j : TableJob,
        e.tables.asked = insertAsked j s.dev.tables.asked ∧ j.key = key ∧ j.data = [t.reg rb] ∧ j.who = some (id, rd) ∧
        j.arg = z.get R.TABLE_MAC_CFG_LEARN_EN ∧ j.order = s.dev.get R.GPHYS_STATUS_SLOT g * 256 + c * 8 + h))) ∧
     (n < 256 → 1 ≤ k → k ≤ 4 → ra + k ≤ 32 → rd + 2 ≤ 31 → t.pkt.all (fun p => !p.tk.flag T.FRAG) = true →
       (let key := (List.range k).map (fun j => t.reg (ra + j))
        let base := z.get R.CLASSIFY_RULESET_BASE 0 n
        let has := fun r => base ≤ r ∧ r < base + z.get R.CLASSIFY_RULESET_ROWS 0 n ∧ z.ruleMatches r key = true
        ((z.get R.CLASSIFY_RULESET_VALID 0 n = 0 ∨ k ≠ z.get R.CLASSIFY_RULESET_KEY_WORDS 0 n + 1) →
          s.runs (.rule i rd ra k n m) (fun e => waits e (replyWords rd 3 [] 2) none)) ∧
        (z.get R.CLASSIFY_RULESET_VALID 0 n = 1 → k = z.get R.CLASSIFY_RULESET_KEY_WORDS 0 n + 1 →
          (∀ r, has r → (∀ q, has q → q ≠ r → z.get R.RULE_CTRL_PRIO q < z.get R.RULE_CTRL_PRIO r ∨
              z.get R.RULE_CTRL_PRIO q = z.get R.RULE_CTRL_PRIO r ∧ r < q) →
            s.runs (.rule i rd ra k n m) (fun e =>
              waits e (replyWords rd (1 + r * 2 ^ 32) [z.word ⟨.RULE, r, 1⟩, z.word ⟨.RULE, r, 2⟩] 2) none)) ∧
          ((∀ r, ¬ has r) → s.runs (.rule i rd ra k n m) (fun e => waits e (replyWords rd 0 [] 2) none))))))) ∧
  (∀ (j : TableJob) (l : List TableJob), l.Pairwise (fun x y => x.order ≤ y.order) →
    (insertAsked j l).Pairwise (fun x y => x.order ≤ y.order)) ∧
  (∀ (d : Dev) (j : TableJob) (id : ThreadId) (rd : Nat), d.tables.asked = [j] → d.tables.learns = [] → d.tables.cmd = none →
    d.tables.bad = [] → j.table = 17 → j.code = 0 → j.dest = none → j.who = some (id, rd) → (d.thread id).st = .blkReply →
    (let e := d.serveLearns
     let told := fun (n : Word) => (e.thread id).reply = [(rd, n)] ∧ e.tables.asked = [] ∧ e.tables.learns = []
     (∀ x l, d.regs.find [] 17 j.key = (some x, l) → told 1 ∧
       (d.regs.static 17 x = false → e.word ⟨.MACENT, x, 2⟩ = nth j.data 0 0 ∧
         e.get R.MACENT_W0_STAMP x = d.dial.notch / 1024 % 2 ^ 32) ∧
       (d.regs.static 17 x = true → e.regs = d.regs)) ∧
     (d.regs.find [] 17 j.key = (none, []) →
       (j.arg = 0 → told 0 ∧ e.regs = d.regs) ∧
       (j.arg ≠ 0 → ∀ b i alt x, d.plan 17 (d.regs.insertBank 17) j.key = .place b i alt → d.lowestEntry 17 = some x →
         told 4 ∧ e.get R.MACENT_W0_VALID x = 1 ∧ e.word ⟨.MACENT, x, 1⟩ = nth j.key 0 0 ∧
         e.word ⟨.MACENT, x, 2⟩ = nth j.data 0 0 ∧ e.get R.MACENT_W0_STATIC x = 0)))) ∧
  (∀ (z : Store) (bad l : List Key) (a e : Nat) (key : List Word), z.find bad a key = (some e, l) → z.entryIs a e key = true) ∧
  (∀ (s : State) (id : ThreadId), s.dev.awake = true → s.dev.flows = true → (s.dev.thread id).st = .blkReply →
    (s.dev.thread id).scratchReply = false →
    (s.dev.engineHolds id = false → s.leads (.tableReply id) (fun e => s.dev.onlyThread e id (s.dev.thread id).replied)) ∧
    (s.dev.engineHolds id = true → s.leads (.tableReply id) (fun e => e = s.dev)))

/-- Table commands are refused or carried out by the engine one at a time, and expired entries age out. For every state of an
awake device and path whose command on the TABLE page is performed. While one is in progress a command reads back BUSY (1).
Otherwise one of a table that is none reads back 6; DELETE_INDEX past the array, MIGRATE of a count outside 1 to 65,536 and
FLUSH of the route table 7; REBUILD_BEGIN of a table being rebuilt, MIGRATE and SWITCH of one that is not 8; SWITCH with
entries left in the active bank 9; any other reads back PENDING (2) and is the engine’s, with its operands.
TABLE_CMD_COMPLETE of a command with no relocation left, in its Notch, with no MLEARN that comes before it: FIND, INSERT,
REPLACE and DELETE of a key in the table end with its index, with 3, with the new data, and with the entry gone; of one that
is not FIND and DELETE end with 4, INSERT and REPLACE with a new valid entry holding the data, or with 5 and a rehash request
without room; DELETE_INDEX of an entry of the table ends with it gone, else with 4; MIGRATE ends with its outcome once no
entry is left to move or its number is moved; FLUSH deletes the table’s entries, with ARG 0 not the STATIC ones;
REBUILD_BEGIN makes the table REBUILDING; SWITCH makes the other bank active and the table IDLE. Before its Notch, and with
none in progress, nothing changes. TABLE_AGE_SWEEP deletes, of the 16 MAC entries it visits, exactly the valid, not STATIC
ones whose age has reached the limit, with ageing on, and moves on by 16. The model’s choices, log entries 48 (the engine’s
order), 52 and 54 (entries in error) and 61 (the move log’s peak). (R260, R262, R272, R277, R278, R279, R280, R281) -/
def Obligations.TableCommandsAndAgeing : Prop :=
  ∀ (s : State), s.dev.awake = true →
    (∀ (p : Path) (a : Nat), s.dev.accepts p pgTABLE = true → a < 32 →
      (let arg := s.dev.get R.TABLE_CMD_ARG_ARG
       let all := [(1, Instr.insert p a), (2, .replace p a), (3, .delete p a), (4, .find p a), (5, .deleteIndex p a),
         (6, .rebuildBegin p a), (7, .migrate p a), (8, .switch p a), (9, .flush p a)]
       let ends := fun (c : Instr) (st : Nat) => s.leads c (fun e => e.get R.TABLE_CMD_STATUS = st ∧ e.tables = s.dev.tables ∧
         s.dev.agrees e (tableCmdKey :: journalKeys))
       let busy := s.dev.regs.rebuilding a
       let left := s.dev.get (tabFlds a).cntA 0 (tabFlds a).inst
       (s.dev.cmdBusy tableCmdKey = true → ∀ x ∈ all, ends x.2 1) ∧
       (s.dev.cmdBusy tableCmdKey = false →
         (s.dev.tableNamed a = false → ∀ x ∈ all, ends x.2 6) ∧
         (s.dev.tableNamed a = true →
           ((s.dev.stagedKey a).2 = false → ∀ x ∈ all, x.1 ≤ 4 → ends x.2 7) ∧
           (arrayLen s.dev.variant a ≤ arg → ends (.deleteIndex p a) 7) ∧ (busy = true → ends (.rebuildBegin p a) 8) ∧
           ((arg = 0 ∨ 65536 < arg) → ends (.migrate p a) 7) ∧ (1 ≤ arg → arg ≤ 65536 → busy = false → ends (.migrate p a) 8) ∧
           (busy = false → ends (.switch p a) 8) ∧ (busy = true → left ≠ 0 → ends (.switch p a) 9) ∧
           (a = 16 → ends (.flush p a) 7) ∧
           (∀ x ∈ all, ((x.1 ≤ 4 ∧ (s.dev.stagedKey a).2 = true) ∨ (x.1 = 5 ∧ arg < arrayLen s.dev.variant a) ∨
               (x.1 = 6 ∧ busy = false) ∨ (x.1 = 7 ∧ 1 ≤ arg ∧ arg ≤ 65536 ∧ busy = true) ∨ (x.1 = 8 ∧ busy = true ∧ left = 0) ∨
               (x.1 = 9 ∧ a ≠ 16)) →
             s.leads x.2 (fun e => e.get R.TABLE_CMD_STATUS = 2 ∧ e.cmdBusy tableCmdKey = true ∧
               ∃ j, e.tables = { s.dev.tables with cmd := some j } ∧ j.table = a ∧ j.code = x.1 ∧ j.arg = arg ∧
                 j.key = (s.dev.stagedKey a).1 ∧ j.next = s.dev.dial.notch + 1)))))) ∧
    (s.dev.flows = true → s.dev.tables.cmd = none → s.leads .tableCmdComplete (fun e => e = s.dev)) ∧
    (s.dev.flows = true → ∀ j, s.dev.tables.cmd = some j →
      ((j.moves ≠ [] ∨ s.dev.dial.notch < j.next) → s.leads .tableCmdComplete (fun e => e = s.dev)) ∧
      (j.moves = [] → j.next ≤ s.dev.dial.notch → s.dev.cmdBusy tableCmdKey = true → j.table ≤ 17 → s.dev.tables.asked = [] →
        s.dev.learnsFirst j = false →
        (let a := j.table
         let t := tabFlds a
         let done := fun (e : Dev) (st : Nat) => e.get R.TABLE_CMD_STATUS = st ∧ e.cmdBusy tableCmdKey = false ∧ e.tables.cmd = none
         (∀ x l, s.dev.regs.find s.dev.tables.bad a j.key = (some x, l) → x < 2 ^ 25 →
           (j.code = 1 → s.leads .tableCmdComplete (fun e => done e 3)) ∧
           (j.code = 4 → s.leads .tableCmdComplete (fun e => done e 0 ∧ e.get R.TABLE_CMD_RESULT_ENTRY = x)) ∧
           (j.code = 2 → j.data ≠ [] → s.leads .tableCmdComplete (fun e => done e 0 ∧ e.get R.TABLE_CMD_RESULT_ENTRY = x ∧
             (e.regs.dataOf a x).head? = j.data.head?)) ∧
           (j.code = 3 → s.leads .tableCmdComplete (fun e => done e 0 ∧ e.get (entFlds a).valid x = 0))) ∧
         ((s.dev.regs.find s.dev.tables.bad a j.key).1 = none →
           ((j.code = 3 ∨ j.code = 4) → s.leads .tableCmdComplete (fun e => done e 4)) ∧
           ((j.code = 1 ∨ j.code = 2) → (j.dest = none ∨ j.entry = none) →
             (∀ x b i alt, s.dev.lowestEntry a = some x → x < 2 ^ 25 → j.data ≠ [] →
               s.dev.plan a (s.dev.regs.insertBank a) j.key = .place b i alt → s.leads .tableCmdComplete (fun e => done e 0 ∧
                 e.get R.TABLE_CMD_RESULT_ENTRY = x ∧ e.get (entFlds a).valid x = 1 ∧
                 (e.regs.dataOf a x).head? = j.data.head?)) ∧
             ((s.dev.lowestEntry a = none ∨ s.dev.plan a (s.dev.regs.insertBank a) j.key = .full) →
               s.leads .tableCmdComplete (fun e => done e 5 ∧ e.get t.rehash 0 t.inst = 1)))) ∧
         (j.code = 5 →
           (s.dev.entryOf a j.arg = true → s.leads .tableCmdComplete (fun e => done e 0 ∧ e.get (entFlds a).valid j.arg = 0)) ∧
           (s.dev.entryOf a j.arg = false → s.dev.strayOf a j.arg = false → s.leads .tableCmdComplete (fun e => done e 4 ∧
             e.get (entFlds a).valid j.arg = s.dev.get (entFlds a).valid j.arg))) ∧
         (j.code = 7 →
           (∀ st, j.result = some st → st < 16 → s.leads .tableCmdComplete (fun e => done e st)) ∧
           (j.result = none → s.leads .tableCmdComplete (fun e => e = s.dev)) ∧
           ((j.arg = 0 ∨ s.dev.nextOccupied a = none) → (s.dev.migrateStep j).2.result = some 0)) ∧
         (j.code = 9 → s.leads .tableCmdComplete (fun e => done e 0 ∧ ∀ x, s.dev.get (entFlds a).valid x = 1 →
           (a < 16 → s.dev.get R.FLOW_W0_TABLE x = a) →
           (let kept := j.arg % 2 = 0 ∧ (s.dev.regs.static a x = true ∨ entryBad s.dev.tables.bad a x = true)
            e.get (entFlds a).valid x = if kept then 1 else 0))) ∧
         (j.code = 6 → s.leads .tableCmdComplete (fun e => done e 0 ∧ e.regs.rebuilding a = true)) ∧
         (j.code = 8 → s.dev.get t.cntA 0 t.inst = 0 → s.leads .tableCmdComplete (fun e => done e 0 ∧
           e.regs.rebuilding a = false ∧ e.regs.activeBank a = 1 - s.dev.regs.activeBank a))))) ∧
    (s.dev.flows = true → s.dev.tables.asked = [] → s.leads .tableAgeSweep (fun e =>
      e.tables.flowSweep = (s.dev.tables.flowSweep + 16) % 2 ^ s.dev.variant.flowLog2 ∧
      e.tables.macSweep = (s.dev.tables.macSweep + 16) % 524288 ∧
      ∀ i, i < 16 → ∀ x, x = (s.dev.tables.macSweep + i) % 524288 → s.dev.get R.MACENT_W0_VALID x = 1 →
        (let old := s.dev.get R.TABLE_MAC_CFG_AGE_EN = 1 ∧ s.dev.get R.MACENT_W0_STATIC x = 0 ∧
           entryBad s.dev.tables.bad 17 x = false ∧
           s.dev.get R.TABLE_MAC_CFG_AGE_LIMIT ≤
             (s.dev.dial.notch / 1024 % 2 ^ 32 + 2 ^ 32 - s.dev.get R.MACENT_W0_STAMP x) % 2 ^ 32
         (old → e.get R.MACENT_W0_VALID x = 0 ∧ (e.get R.TABLE_EVENTS).testBit 1 = true) ∧
         (¬ old → e.get R.MACENT_W0_VALID x = 1))))

/-- Leaves and nodes are attached and detached while idle, gates switch and follow their lists, and tokens are refilled. For
every state of an awake device and path whose command on the SCHED page is performed. ATTACH_LEAF and DETACH_LEAF of a leaf
without frames hang it under the node or under none, its record reading the node or 0x7FFF, status 0; ATTACH_NODE sets a
node’s egress and class (naming the ones it has, it changes nothing and reads 0), DETACH_NODE clears them; a leaf or node
with frames reads back 3, a node with leaves 4, numbers out of range 5, and then nothing but SCHED.CMD and the journal
changes. GATE_SWITCH of a port-class whose port is fitted and whose shadow list is good arms the switch, reads back 6 if one
is armed, and 5 for any other. Every 16th Notch REFILL brings weights as written into use, adds 1,024 times the rates to the
tokens of leaves and nodes, up to 8,000 times the bursts, and refills T1 and T2 of policers under their MODE; other spaces
are as before, and in other Notches it changes nothing. GATE_EVAL evaluates each gate for the next Notch: open when not
enabled; when enabled INIT_OPEN before its base, and after it the first entry whose durations reach past its position, or the
last. An armed switch that is due makes the other list active first and sets event bit 0; one not due stays armed.
GATE_SWITCHED of an armed switch that is due does so for its port-class; otherwise it changes nothing. Node 32,767 as a place
of leaves is the model’s choice, log entry 19. (R315, R327, R329, R330, R332, R336, R339, R340, R341, R347) -/
def Obligations.TheSchedulerTreeGatesAndTokens : Prop :=
  (∀ (s : State) (p : Path) (l n q c : Nat), s.dev.awake = true → s.dev.accepts p pgSCHED = true →
    (let cmd : Key := ⟨.SCHED, 0, 8⟩
     let ends := fun (x : Instr) (st : Nat) => s.leads x (fun e => e.get R.SCHED_CMD_STATUS = st ∧
       s.dev.agrees e (cmd :: journalKeys) ∧ e.basin = s.dev.basin ∧ e.sched = s.dev.sched)
     let hung := fun (e : Dev) (x : Option Nat) => e.get R.SCHED_CMD_STATUS = 0 ∧ e.leafNode l = x ∧
       e.get R.LEAF_W0_NODE l = x.getD 0x7FFF ∧ s.dev.agrees e (fldKey R.LEAF_W0_NODE l 0 :: cmd :: journalKeys) ∧
       e.basin = s.dev.basin
     (n < 32768 → l < 131072 → s.dev.leafBusy l = false → s.leads (.attachLeaf p l n) (fun e => hung e (some n))) ∧
     (l < 131072 → s.dev.leafBusy l = false → s.leads (.detachLeaf p l) (fun e => hung e none)) ∧
     (n < 32768 → l < 131072 → s.dev.leafBusy l = true → ends (.attachLeaf p l n) 3) ∧
     (l < 131072 → s.dev.leafBusy l = true → ends (.detachLeaf p l) 3) ∧
     ((131072 ≤ l ∨ 32768 ≤ n) → ends (.attachLeaf p l n) 5) ∧ (131072 ≤ l → ends (.detachLeaf p l) 5) ∧
     (n < 32768 → c < 8 → s.dev.egressPresent q = true → s.dev.nodeClass n = some (8 * q + c) → ends (.attachNode p n q c) 0) ∧
     (n < 32768 → c < 8 → s.dev.egressPresent q = true → s.dev.nodeClass n ≠ some (8 * q + c) →
       (s.dev.nodeBusy n = true → ends (.attachNode p n q c) 3) ∧
       (s.dev.nodeBusy n = false → s.dev.nodeClass n ≠ none → s.dev.leavesOf n ≠ [] → ends (.attachNode p n q c) 4) ∧
       (s.dev.nodeBusy n = false → (s.dev.nodeClass n = none ∨ s.dev.leavesOf n = []) → s.leads (.attachNode p n q c) (fun e =>
         e.get R.SCHED_CMD_STATUS = 0 ∧ e.nodeClass n = some (8 * q + c) ∧ e.basin = s.dev.basin ∧
         s.dev.agrees e (fldKey R.NODE_W0_CLASS n 0 :: cmd :: journalKeys)))) ∧
     ((32768 ≤ n ∨ 8 ≤ c ∨ s.dev.egressPresent q = false) → ends (.attachNode p n q c) 5) ∧
     (32768 ≤ n → ends (.detachNode p n) 5) ∧
     (n < 32768 → s.dev.nodeBusy n = true → ends (.detachNode p n) 3) ∧
     (n < 32768 → s.dev.nodeBusy n = false → s.dev.leavesOf n ≠ [] → ends (.detachNode p n) 4) ∧
     (n < 32768 → s.dev.nodeBusy n = false → s.dev.leavesOf n = [] → s.leads (.detachNode p n) (fun e =>
       e.get R.SCHED_CMD_STATUS = 0 ∧ e.nodeClass n = none ∧ e.basin = s.dev.basin ∧
       s.dev.agrees e (fldKey R.NODE_W0_CLASS n 0 :: cmd :: journalKeys))) ∧
     (q < s.dev.variant.lanes → c < 8 → s.dev.shadowGood (8 * q + c) = true →
       (s.dev.flag R.GATE_W0_PENDING (8 * q + c) = true → ends (.gateSwitch p q c) 6) ∧
       (s.dev.flag R.GATE_W0_PENDING (8 * q + c) = false → s.leads (.gateSwitch p q c) (fun e =>
         e.get R.SCHED_CMD_STATUS = 0 ∧ e.flag R.GATE_W0_PENDING (8 * q + c) = true ∧ e.basin = s.dev.basin ∧
         s.dev.agrees e (fldKey R.GATE_W0_PENDING (8 * q + c) 0 :: cmd :: journalKeys)))) ∧
     ((s.dev.variant.lanes ≤ q ∨ 8 ≤ c ∨ s.dev.shadowGood (8 * q + c) = false) → ends (.gateSwitch p q c) 5))) ∧
  (∀ (s : State), s.dev.awake = true → s.dev.flows = true →
    (s.dev.dial.notch % 16 ≠ 0 → s.leads .refill (fun e => e = s.dev)) ∧
    (s.dev.dial.notch % 16 = 0 → s.leads .refill (fun e => e.basin = s.dev.basin ∧
      (∀ k : Key, k.sp ≠ .LEAF → k.sp ≠ .NODE → k.sp ≠ .POLICER → e.word k = s.dev.word k) ∧
      (∀ l ∈ s.dev.touched .LEAF, e.get R.LEAF_W0_WEIGHT_USE l = s.dev.get R.LEAF_W0_WEIGHT l ∧
        e.getInt R.LEAF_TC l = min (s.dev.getInt R.LEAF_TC l + s.dev.get R.LEAF_W1_CIR l * 1024) (s.dev.get R.LEAF_W2_CBS l * 8000) ∧
        e.getInt R.LEAF_TP l = min (s.dev.getInt R.LEAF_TP l + s.dev.get R.LEAF_W1_PIR l * 1024) (s.dev.get R.LEAF_W2_PBS l * 8000)) ∧
      (∀ n ∈ s.dev.touched .NODE, e.get R.NODE_W0_WEIGHT_USE n = s.dev.get R.NODE_W0_WEIGHT n ∧
        e.getInt R.NODE_TC n = min (s.dev.getInt R.NODE_TC n + s.dev.get R.NODE_W1_CIR n * 1024) (s.dev.get R.NODE_W2_CBS n * 8000) ∧
        e.getInt R.NODE_TP n =
          min (s.dev.getInt R.NODE_TP n + s.dev.get R.NODE_W1_PIR n * 1024) (s.dev.get R.NODE_W2_PBS n * 8000)) ∧
      (∀ k ∈ s.dev.touched .POLICER,
        (let t1 := s.dev.getInt R.POLICER_T1 k
         let t2 := s.dev.getInt R.POLICER_T2 k
         let r1 := t1 + s.dev.get R.POLICER_W1_CIR k * 1024
         let c : Int := s.dev.get R.POLICER_W2_CBS k * 8000
         let x : Int := s.dev.get R.POLICER_W2_XBS k * 8000
         (s.dev.get R.POLICER_W0_MODE k = 1 → r1 ≤ c → e.getInt R.POLICER_T1 k = r1 ∧ e.getInt R.POLICER_T2 k = t2) ∧
         (s.dev.get R.POLICER_W0_MODE k = 1 → c < r1 →
           e.getInt R.POLICER_T1 k = c ∧ e.getInt R.POLICER_T2 k = min (t2 + r1 - c) x) ∧
         (s.dev.get R.POLICER_W0_MODE k = 2 → e.getInt R.POLICER_T1 k = min r1 c ∧
           e.getInt R.POLICER_T2 k = min (t2 + s.dev.get R.POLICER_W1_PIR k * 1024) x) ∧
         (s.dev.get R.POLICER_W0_MODE k = 0 → e.getInt R.POLICER_T1 k = t1 ∧ e.getInt R.POLICER_T2 k = t2))))) ∧
    (let t := s.dev.dial.sec * 1000000000 + s.dev.dial.ns + 64
     let due := fun (g : Nat) => s.dev.get R.GATE_W0_PENDING g = 1 ∧
       s.dev.get R.GATE_CHANGE_SEC g * 1000000000 + s.dev.get R.GATE_CHANGE_NS g ≤ t ∧
       (let act := s.dev.get R.GATE_W0_ACTIVE g
        let into := t - s.dev.gateBase g act
        s.dev.get R.GATE_W0_EN g = 0 ∨ t < s.dev.gateBase g act ∨ into % 64 = 0 ∧
          (s.dev.get R.GATE_CYCLE g act = 0 ∨ into / 64 % s.dev.get R.GATE_CYCLE g act = 0))
     let switched := fun (e : Dev) (g : Nat) => e.get R.GATE_W0_ACTIVE g = 1 - s.dev.get R.GATE_W0_ACTIVE g ∧
       e.get R.GATE_W0_PENDING g = 0 ∧ (e.get R.SCHED_EVENTS).testBit 0 = true ∧
       s.dev.gateShows e g (1 - s.dev.get R.GATE_W0_ACTIVE g) t
     (s.leads .gateEval (fun e => ∀ g ∈ s.dev.touched .GATE, (due g → switched e g) ∧
       (¬ due g → e.get R.GATE_W0_ACTIVE g = s.dev.get R.GATE_W0_ACTIVE g ∧
         e.get R.GATE_W0_PENDING g = s.dev.get R.GATE_W0_PENDING g ∧ s.dev.gateShows e g (s.dev.get R.GATE_W0_ACTIVE g) t))) ∧
     (∀ q c, q < 16 → c < 8 →
       (due (8 * q + c) → s.leads (.gateSwitched q c) (fun e => switched e (8 * q + c) ∧
         s.dev.agrees e [fldKey R.GATE_W0_EN (8 * q + c) 0, fldKey R.SCHED_EVENTS 0 0])) ∧
       (¬ due (8 * q + c) → s.leads (.gateSwitched q c) (fun e => e = s.dev)))))

/-- Doorbells post entries, chains become frames, completions are written in ring order, holds start or drop, and vectors are
raised. For every state of an awake device whose data path flows and ring r of an instance. A sound DOORBELL with old ≤ new ≤
N sets PROD to its position and posts the new entries; one that laps or withdraws counts DB_LAP and sets RING_EVENTS bit 0;
one that is malformed, past the rings, on a ring not enabled or of an instance not RUNNING counts DB_BAD and sets bit 1, and
does nothing of a FROZEN one; an uncorrectable context makes the ring bad and records class 15; a bad ring takes none.
TX_CHAIN_SERVE with no ring in turn, or too few granted cells, changes nothing; a one-descriptor chain in turn becomes a
frame of ingress 16 or 17 with its bytes, class and owner, and without TS_REQ its completion is due. TX_COMPLETION writes the
32 bytes of the one due at the front with its status and PHASE, advances CONS and counts PEND; with none due nothing changes.
RX_HOLD_START starts the head of the hold when its buffers suffice, else changes nothing. RX_NOBUF drops the head after
RX_WAIT Notches with RX_NOBUF and bit 4, and not before. INTERRUPT_RAISE with MOD_CNT or MOD_TIME reached raises the vector
and clears PEND; otherwise, or while the instance is held, nothing changes. The model’s choices, log entries 56 (a descriptor
is read once), 58 (MSI-X at reset), 66 (doorbells without effect), 67 (when a malformed descriptor is judged) and 86 (chain
numbers). (R364, R365, R366, R368, R370, R371, R372, R373, R377, R378, R384, R385) -/
def Obligations.RingsPostServeAndComplete : Prop :=
  ∀ (s : State), s.dev.awake = true → s.dev.flows = true →
    (∀ (i k value : Nat) (bs : List (List Byte)) (ecc : Bool),
      (let r := 2 * s.dev.get R.INST_RING_RANGE_QP_BASE i + k
       let n := s.dev.ringN r
       let old := s.dev.ringDist r (s.dev.prodPos r)
       let new := s.dev.ringDist r (value / 2 ^ 16 * n + value % 2 ^ 16)
       let inside := k < 2 * s.dev.get R.INST_RING_RANGE_QP_COUNT i
       let sound := inside ∧ (s.dev.ring r).bad = false ∧ value < 2 ^ 17 ∧ value % 2 ^ 16 < n ∧ n ≤ 2 ^ 16 ∧
         s.dev.flag R.RCTX_CFG_EN r = true ∧ s.dev.instState i = stRunning
       let counts := fun (size : Nat) (f : Fld) (b : Nat) =>
         s.leads (.doorbell i k size value (bs.map some) false) (fun e =>
           e.get f i = saturate f.w (s.dev.get f i + 1) ∧ (e.get R.INST_RING_EVENTS i).testBit b = true ∧
           s.dev.agrees e [fldKey f i 0, fldKey R.INST_RING_EVENTS i 0] ∧ e.host.rings = s.dev.host.rings)
       (sound → old ≤ new → new ≤ n → bs.length = new - old → (∀ b ∈ bs, b.length = 32) →
         s.leads (.doorbell i k 32 value (bs.map some) false) (fun e =>
           e.prodPos r = value / 2 ^ 16 * n + value % 2 ^ 16 ∧ e.consPos r = s.dev.consPos r ∧
           (e.ring r).entries = (s.dev.ring r).entries ++ bs.map (fun b => { desc := some b }) ∧
           s.dev.agrees e [fldKey R.RCTX_IDX_PROD r 0] ∧ (∀ j, j ≠ r → e.ring j = s.dev.ring j) ∧
           e.basin = s.dev.basin ∧ e.out = s.dev.out)) ∧
       (sound → (new < old ∨ n < new) → counts 32 R.INST_DB_CNT_DB_LAP 0) ∧
       (∀ size, s.dev.instState i ≠ stFrozen → (size ≠ 32 ∨ ¬ inside ∨ ((s.dev.ring r).bad = false ∧ (2 ^ 17 ≤ value ∨
           n ≤ value % 2 ^ 16 ∨ s.dev.flag R.RCTX_CFG_EN r = false ∨ s.dev.instState i ≠ stRunning))) →
         counts size R.INST_DB_CNT_DB_BAD 1) ∧
       (s.dev.instState i = stFrozen → s.leads (.doorbell i k 32 value (bs.map some) false) (fun e => e = s.dev)) ∧
       (inside → (s.dev.ring r).bad = true →
         s.leads (.doorbell i k 32 value (bs.map some) ecc) (fun e => e = s.dev)) ∧
       (inside → (s.dev.ring r).bad = false → s.leads (.doorbell i k 32 value (bs.map some) true) (fun e =>
         (e.ring r).bad = true ∧ (e.ring r).entries = (s.dev.ring r).entries ∧
         (e.get R.HDR_ERR_CLASSES_CLASSES (pgINST i)).testBit 15 = true ∧ e.basin = s.dev.basin)))) ∧
    (∀ (p : HostPort) (data : List (Option (List Byte))),
      (s.dev.txNext p.num = none → s.leads (.txChainServe p data) (fun e => e = s.dev)) ∧
      (∀ r x rest b bs, s.dev.txNext p.num = some r → (s.dev.ring r).entries = x :: rest → x.read = false →
        x.desc = some b → descRsvd true b = false → descFirst b = true → descLast b = true → 64 ≤ descLen b →
        descLen b ≤ 16383 → bs.length = descLen b →
        (let n := (s.dev.ring r).nextChain
         ((s.dev.grantedTo (16 + p.num)).length < cellsFor (descLen b) →
           s.leads (.txChainServe p [some bs]) (fun e => e = s.dev)) ∧
         (cellsFor (descLen b) ≤ (s.dev.grantedTo (16 + p.num)).length →
           s.leads (.txChainServe p [some bs]) (fun e => e.regs = s.dev.regs ∧ (e.link p.num).turn = r ∧
             ((s.dev.basin.granted.map Prod.snd).Nodup →
               e.grantedTo (16 + p.num) = (s.dev.grantedTo (16 + p.num)).drop (cellsFor (descLen b))) ∧
             (∃ f, e.basin.frames = s.dev.basin.frames ++ [f] ∧ f.bytes = bs ∧ f.ingress = 16 + p.num ∧
               f.cls0 = s.dev.get R.RCTX_CFG_DEF_CLASS r ∧ f.origin = s.dev.ringOwner r ∧ f.complete = true ∧
               f.tx = (if descTs b then some (r, n) else none)) ∧
             (e.ring r).entries = { x with
               chain := some n
               done := if descTs b then none else some csOk } :: rest ∧
             (e.ring r).nextChain = n + 1))))) ∧
    (∀ r, r % 2 = 1 → s.dev.ringServes r = true → (∀ t ∈ s.dev.basin.txEvents, t.1.1 ≠ r) →
      (∀ i, s.dev.ringOwner r = some i → s.dev.instState i = stRunning ∨ s.dev.instState i = stQuiescing) →
      (let n := s.dev.ringN r
       let pos := s.dev.consPos r
       ((∀ x, (s.dev.ring r).entries.head? = some x → x.done = none) → s.leads (.txCompletion r) (fun e => e = s.dev)) ∧
       (∀ i x rest st, s.dev.ringOwner r = some i → (s.dev.ring r).entries = x :: rest → x.done = some st → st < 256 →
         (∀ y, rest.head? = some y → y.done = none) → n ≤ 2 ^ 16 → s.dev.get R.RCTX_IDX_CONS r < n →
         s.leads (.txCompletion r) (fun e => e.consPos r = (pos + 1) % (2 * n) ∧ e.prodPos r = s.dev.prodPos r ∧
           (e.ring r).entries = rest ∧ (e.ring r).pend = (s.dev.ring r).pend + 1 ∧
           (∃ bs, .hostWrite (hostPort ((s.dev.instPort i).getD 0))
                 { fn := vfFn i, addr := s.dev.get R.RCTX_BASE_ADDR r + 32 * (pos % n), bytes := bs } ∈ e.out ∧
             bs.length = 32 ∧ descWord bs 1 / 2 ^ 48 = st ∧
             (∀ b, x.desc = some b → descWord bs 1 % 2 ^ 19 = descWord b 1 % 2 ^ 19) ∧
             descWord bs 3 = (if s.dev.get R.RCTX_IDX_CONS_WRAP r = 0 then 2 ^ 63 else 0)) ∧ e.basin = s.dev.basin)))) ∧
    (∀ r h f, (s.dev.ring r).hold.head? = some h → s.dev.frame? h = some f →
      (s.dev.ringServes r = true → s.dev.writing r = [] → f.complete = true → f.bytes.length ≤ (s.dev.ring r).room →
        0 < (s.dev.ring r).room →
        s.leads (.rxHoldStart r) (fun e => (e.ring r).hold = (s.dev.ring r).hold.tail ∧ e.frame? h = some f ∧
          e.regs = s.dev.regs)) ∧
      ((s.dev.ringServes r = false ∨ s.dev.writing r ≠ [] ∨ s.dev.rxFits r f = false) →
        s.leads (.rxHoldStart r) (fun e => e = s.dev)) ∧
      ((s.dev.ring r).headFrom + s.dev.get R.RCTX_CFG_RX_WAIT r ≤ s.dev.dial.notch →
        s.leads (.rxNobuf r) (fun e => (e.ring r).hold = (s.dev.ring r).hold.tail ∧ e.frame? h = none ∧
          e.get R.RCTX_RX_NOBUF r = saturate 64 (s.dev.get R.RCTX_RX_NOBUF r + 1) ∧
          (∀ i, s.dev.ringOwner r = some i → (e.get R.INST_RING_EVENTS i).testBit 4 = true))) ∧
      (s.dev.dial.notch < (s.dev.ring r).headFrom + s.dev.get R.RCTX_CFG_RX_WAIT r →
        s.leads (.rxNobuf r) (fun e => e = s.dev))) ∧
    (∀ r i, s.dev.ringOwner r = some i →
      (let x := s.dev.ring r
       let v := s.dev.get R.RCTX_CFG_VEC r
       let due := s.dev.flag R.RCTX_CFG_INT_EN r = true ∧ x.bad = false ∧ s.dev.instHeld i = false ∧ 1 ≤ x.pend ∧
         (s.dev.get R.RCTX_MOD_CNT r ≤ x.pend ∨ x.first + (s.dev.get R.RCTX_MOD_TIME r : Int) ≤ (s.dev.dial.notch : Int))
       (due → s.leads (.interruptRaise r) (fun e => (e.ring r).pend = 0 ∧ (e.ring r).entries = x.entries ∧ e.regs = s.dev.regs ∧
         (s.dev.msixOpen (vfFn i) v = true → .msix (vfFn i) v ∈ e.out) ∧
         (s.dev.msixOpen (vfFn i) v = false → (e.msixEntry (vfFn i) v).pending = true ∧ e.out = s.dev.out))) ∧
       (¬ due → s.leads (.interruptRaise r) (fun e => e = s.dev))))

/-- Host links train, retrain, go up and down under PERST#, configuration requests are answered, and FLRs reset their function.
For every state, of an awake device. RETRAIN over a path whose command is performed reads back 1 while one is in progress, 4
while the link is down, else 2, and the port trains and RETRAINS rises. HOST_LINK_UP of a training port that may train sets
UP, the speed and width no better than the targets, FLIT and LINK_UP, DOWNTRAINED when below a target, and ends a RETRAIN; of
another port it changes nothing. HOST_LINK_DOWN of a port up or training clears UP, sets LINK_DOWN if it was up, records a
LINK error, and the port trains if it may; else nothing. PERST_ASSERT takes the port down, resets the MSI-X tables of its
PFs, ends the installer session of the port, sets PF_FLR and counts an FLR of every VF of the port; PERST_RELEASE lets it
train once the ROM stage is over. HOST_LINK_UP also releases the writes that waited for a port to retrain. CONFIG_REQUEST to
a function whose link is up is answered with Retry until SETTINGS ends and while an FLR of its VF is handled, else served: a
field reads as the function holds it (SR-IOV on PF0 alone, TotalVFs in force, MSI-X table size, ACS redirects), a field of
the function, MSI-X control and entries of PFs are written and nothing else is, and corrected errors count in CORR_ERR.
PF_FLR resets the function’s configuration space, MSI-X table and control, sets PF_FLR and, of an installer PF, ends its
session; it changes no instance and ring. VF_FLR counts, sets FLR and VF_FLR, and quiesces a RUNNING instance or starts the
reset of another; a command’s state change of the same Notch is taken back first, one that comes during a REMOVE finds the
instance removed; in Safe Hold the FLR is counted and resets the configuration space alone. Of a device that does not run
PERST# only changes. The model’s choices, log entries 57 and 85 (FLRs and commands), 58 and 121 (configuration space), 88
(RETRAIN), 122 (what waits) and 134 (Safe Hold). (R350, R352, R353, R388, R389, R401, R505, R533, R562, R563) -/
def Obligations.HostLinksAndFunctionsReset : Prop :=
  (∀ (s : State) (p : HostPort), s.dev.awake = false → s.dev.hostFitted p.num = true →
    s.leads (.perstAssert p) (fun e => e = s.dev.modLink p.num (fun l => { l with perst := true })) ∧
    s.leads (.perstRelease p) (fun e => e = s.dev.modLink p.num (fun l => { l with perst := false }))) ∧
  ∀ (s : State), s.dev.awake = true →
    (let before := fun (i : Nat) =>
       (let b := s.dev.takeBack i
        if (b.inst i).resetting && b.instBusyWith i == some 9 then b.freeInst i else b)
    (∀ (path : Path) (p : HostPort), s.dev.accepts path (pgHOST p.num) = true →
      (let cmd := fldKey R.HOST_CMD_CODE p.num 0
       let ends := fun (st : Nat) => s.leads (.retrain path p) (fun e => e.get R.HOST_CMD_STATUS p.num = st ∧
         s.dev.agrees e (cmd :: journalKeys) ∧ e.host = s.dev.host)
       (s.dev.cmdBusy cmd = true → ends 1) ∧
       (s.dev.cmdBusy cmd = false → s.dev.linkUp p.num = false → ends 4) ∧
       (s.dev.cmdBusy cmd = false → s.dev.linkUp p.num = true → s.leads (.retrain path p) (fun e =>
         e.get R.HOST_CMD_STATUS p.num = 2 ∧ e.cmdBusy cmd = true ∧ (e.link p.num).training = true ∧
         (e.link p.num).retrain = true ∧ e.dmaOk p.num = false ∧
         e.get R.HOST_LINK_STATUS_RETRAINS p.num = saturate 16 (s.dev.get R.HOST_LINK_STATUS_RETRAINS p.num + 1) ∧
         s.dev.agrees e (cmd :: fldKey R.HOST_LINK_STATUS_UP p.num 0 :: journalKeys))))) ∧
    (∀ (p : HostPort),
      (let n := p.num
       let l := s.dev.link n
       (∀ sp wd fl, sp < 6 → wd < 3 →
         (s.dev.hostFitted n = true → l.training = true → s.dev.mayTrain n = true →
           (let wantS := s.dev.get R.HOST_LINK_CFG_MAX_SPEED n
            let wantW := s.dev.get R.HOST_LINK_CFG_MAX_WIDTH n
            let bestS := if s.dev.boot.nominal then max wantS 2 else wantS
            s.leads (.hostLinkUp p sp wd fl) (fun e => e.linkUp n = true ∧ e.get R.HOST_LINK_STATUS_SPEED n = max sp bestS ∧
              e.get R.HOST_LINK_STATUS_WIDTH n = max wd wantW ∧ e.flag R.HOST_LINK_STATUS_FLIT n = fl ∧
              (e.get R.HOST_EVENTS n).testBit 0 = true ∧
              (wantS < max sp bestS ∨ wantW < wd → (e.get R.HOST_EVENTS n).testBit 2 = true) ∧
              (e.link n).training = false ∧ (s.dev.holding = true → (e.link n).waiting = l.waiting) ∧
              (s.dev.holding = false → (e.link n).waiting = [] ∧
                ∀ w ∈ l.waiting, Out.hostWrite (hostPort n) w ∈ e.out) ∧ (l.retrain = true → e.cmdBusy (fldKey R.HOST_CMD_CODE n 0) = false) ∧
              s.dev.agrees e [fldKey R.HOST_LINK_STATUS_UP n 0, fldKey R.HOST_EVENTS n 0, fldKey R.HOST_CMD_CODE n 0]))) ∧
         ((s.dev.hostFitted n = false ∨ l.training = false ∨ s.dev.mayTrain n = false) →
           s.leads (.hostLinkUp p sp wd fl) (fun e => e = s.dev))) ∧
       (s.dev.hostFitted n = true → (s.dev.linkUp n = true ∨ l.training = true) → s.leads (.hostLinkDown p) (fun e =>
         e.linkUp n = false ∧ (e.link n).training = s.dev.mayTrain n ∧
         (s.dev.linkUp n = true → (e.get R.HOST_EVENTS n).testBit 1 = true) ∧
         (e.get R.HDR_ERR_CLASSES_CLASSES (pgHOST n)).testBit 3 = true ∧ e.host.rings = s.dev.host.rings)) ∧
       ((s.dev.linkUp n = false ∧ l.training = false) → s.leads (.hostLinkDown p) (fun e => e = s.dev)) ∧
       (s.dev.hostFitted n = true → s.leads (.perstAssert p) (fun e => e.linkUp n = false ∧ (e.link n).perst = true ∧
         (e.link n).training = false ∧ (e.get R.HOST_EVENTS n).testBit 4 = true ∧ e.session (2 + n) = none ∧
         (∀ v, v < 64 → e.msixEntry (2 * n) v = { } ∧ e.msixEntry (2 * n + 1) v = { }) ∧
         (∀ i, i < 4096 → s.dev.instPort i = some n →
           e.get R.INST_FLR_CNT_FLR i = saturate R.INST_FLR_CNT_FLR.w
             ((if s.dev.holding then s.dev else before i).get R.INST_FLR_CNT_FLR i + 1)))) ∧
       (s.dev.hostFitted n = true → s.leads (.perstRelease p) (fun e => e.regs = s.dev.regs ∧ e.wake.pinLow = false ∧
         e.link n = { l with
           perst := false
           training := l.training || s.dev.stage != bsRom })) ∧
       (s.dev.hostFitted n = false → s.leads (.perstAssert p) (fun e => e = s.dev) ∧
         s.leads (.perstRelease p) (fun e => e = s.dev)))) ∧
    (∀ (fn : Nat) (op : ConfigOp),
      ((s.dev.fnPort fn).any s.dev.linkUp = false → s.leads (.configRequest fn op) (fun e => e = s.dev)) ∧
      ((s.dev.fnPort fn).any s.dev.linkUp = true →
        (s.dev.configReady fn = true ↔ bsGlens ≤ s.dev.startStage ∧ (4 ≤ fn → (s.dev.inst (fn - 4)).flr = none)) ∧
        (s.dev.configReady fn = false → s.leads (.configRequest fn op) (fun e => e = s.dev.emit (.config fn true))) ∧
        (s.dev.configReady fn = true → s.leads (.configRequest fn op) (fun e =>
          (∀ f, op = .read f → e = s.dev.emit (.config fn false (some (s.dev.configField fn f)))) ∧
          (∀ f v, op = .write f v → e.regs = s.dev.regs ∧ e.out = s.dev.out ++ [.config fn false] ∧
            e.host.msix = s.dev.host.msix ∧ (∀ g h, g ≠ fn → e.configField g h = s.dev.configField g h) ∧
            (∀ h, h ≠ f → e.configField fn h = s.dev.configField fn h) ∧
            (s.dev.configMay fn v f = true →
              e.configField fn f = if f = .bar0 ∨ f = .vfBar0 then barWord f v else v) ∧
            (f = .msixEnable ∨ f = .msixMask → e.configField fn f = v % 2) ∧
            (s.dev.configMay fn v f = false → f ≠ .msixEnable → f ≠ .msixMask →
              e.configField fn f = s.dev.configField fn f)) ∧
          (∀ v, op = .msixRead v → ∃ w, e = s.dev.emit (.config fn false (some w))) ∧
          (∀ n, op = .corrected n → e.out = s.dev.out ∧ e.host = s.dev.host ∧
            (let p := (s.dev.fnPort fn).getD 0
             e.get R.HOST_CORR_ERR p = saturate R.HOST_CORR_ERR.w (s.dev.get R.HOST_CORR_ERR p + n) ∧
             s.dev.agrees e [fldKey R.HOST_CORR_ERR p 0])) ∧
          (∀ en m, op = .msixControl en m → e.msixCtl fn = (en, m) ∧ e.host.msix = s.dev.host.msix ∧
            e.regs = s.dev.regs ∧ e.out = s.dev.out ++ [.config fn false]) ∧
          (∀ v a x m, op = .msixEntry v a x m → e.regs = s.dev.regs ∧ e.out = s.dev.out ++ [.config fn false] ∧
            (fn < 4 → v < 64 → e.msixEntry fn v = { s.dev.msixEntry fn v with
              addr := a
              data := x
              masked := m }) ∧
            (∀ g w, (4 ≤ fn ∨ 64 ≤ v ∨ (g, w) ≠ (fn, v)) → e.msixEntry g w = s.dev.msixEntry g w)))))) ∧
    (∀ (d : Dev) fn, d.configField fn (.supports .sriov) = (if fn = 0 ∨ fn = 2 then 1 else 0) ∧
      d.configField fn (.supports .acs) = 1 ∧ d.configField fn .acsRequestRedirect = 1 ∧
      d.configField fn .acsCompletionRedirect = 1 ∧ (fn < 4 → d.configField fn .msixTableSize = 63) ∧
      (4 ≤ fn → d.configField fn .msixTableSize = d.get R.INST_VEC_RANGE_VEC_COUNT (fn - 4) - 1) ∧
      (fn = 0 → d.configField fn .totalVfs = d.get R.HOST_LINK_CFG_VF_TOTAL_NOW 0)) ∧
    (∀ fn, fn < 4 → (s.dev.fnPort fn).isSome = true → s.leads (.pfFlr fn) (fun e => (∀ v, v < 64 → e.msixEntry fn v = { }) ∧
      e.msixCtl fn = (false, false) ∧ (∀ x ∈ e.host.config, x.1.1 ≠ fn) ∧ (∀ g v, g ≠ fn → e.msixEntry g v = s.dev.msixEntry g v) ∧
      (e.get R.HOST_EVENTS (fn / 2)).testBit 4 = true ∧ e.insts = s.dev.insts ∧ e.host.rings = s.dev.host.rings ∧
      s.dev.agrees e (fldKey R.HOST_EVENTS (fn / 2) 0 :: journalKeys) ∧
      (fn % 2 = 1 → e.session (2 + fn / 2) = none) ∧ (∀ b, b ≠ 2 + fn / 2 → e.session b = s.dev.session b))) ∧
    (∀ fn, (4 ≤ fn ∨ s.dev.fnPort fn = none) → s.leads (.pfFlr fn) (fun e => e = s.dev)) ∧
    (∀ i p j, s.dev.instVf i = some (p, j) →
      (let b := s.dev.takeBack i
       let c := before i
       let st := c.instState i
       let counted := fun (d e : Dev) => e.get R.INST_FLR_CNT_FLR i =
         saturate R.INST_FLR_CNT_FLR.w (d.get R.INST_FLR_CNT_FLR i + 1)
       (((b.inst i).resetting = false ∨ b.instBusyWith i ≠ some 9) → c = b) ∧
       ((s.dev.inst i).undo = none → b = s.dev) ∧
       (∀ u, (s.dev.inst i).undo = some u → u.notch ≠ s.dev.dial.notch → b = s.dev) ∧
       (∀ u, (s.dev.inst i).undo = some u → u.notch = s.dev.dial.notch → (b.inst i).frozen = u.frozen ∧
         (b.inst i).undo = none ∧ (∀ k, k ∉ u.words.map Prod.fst → b.word k = s.dev.word k) ∧
         (∀ x ∈ u.words, x.1 ∈ undoPage i → (u.words.map Prod.fst).Nodup → b.word x.1 = x.2)) ∧
       (s.dev.holding = true → s.leads (.vfFlr i) (fun e => counted s.dev e ∧ e.insts = s.dev.insts ∧
         e.msixCtl (vfFn i) = (false, false) ∧ (∀ x ∈ e.host.config, x.1.1 ≠ vfFn i) ∧
         s.dev.agrees e [fldKey R.INST_FLR_CNT_FLR i 0])) ∧
       (s.dev.holding = false → s.leads (.vfFlr i) (fun e => counted c e ∧ (e.get R.INST_EVENTS i).testBit 2 = true ∧
         (e.get R.HOST_EVENTS p).testBit 3 = true ∧ e.get R.INST_STATE_FLR i = 1 ∧
         ((s.dev.inst i).resetting = false ∨ (s.dev.inst i).flr = none →
           (st = stRunning → e.instState i = stQuiescing ∧ (e.inst i).flr = some stRunning ∧ (e.inst i).bound = 1500000 ∧
             (e.inst i).drainFrom = s.dev.dial.notch) ∧
           (st = stQuiescing → e.instState i = stQuiescing ∧ (e.inst i).flr = some stRunning ∧
             (e.inst i).bound = 1500000 ∧ (e.inst i).drainFrom = s.dev.dial.notch) ∧
           (st ≠ stRunning → st ≠ stQuiescing → e.instState i = st ∧ (e.inst i).flr = some st ∧
             (e.inst i).resetting = true)) ∧
         (∀ n, b.instBusyWith i = some n → n ≠ 10 → e.get R.INST_CMD_STATUS i = isPreempted))))) ∧
    (∀ i, s.dev.instVf i = none → s.leads (.vfFlr i) (fun e => e = s.dev)))

/-- An instance command is refused from a wrong state, or waits for the next Notch with status PENDING. For every state of an
awake device, instance i below 4,096 and path whose command on its page is performed. While one is in progress a command
reads back BUSY (1); while an FLR of the VF is handled, all but HARVEST read back BAD_STATE (3). Otherwise ACTIVATE and
RESTORE from FREE, QUIESCE from RUNNING, RESUME and FREEZE from QUIESCED, THAW and SAVE from FROZEN, RESET and REMOVE from
QUIESCED and FROZEN read back PENDING (2) and are to act in the next Notch, and from another state, and ACTIVATE, RESTORE and
REMOVE of instance 0, read back BAD_STATE; SAVE and RESTORE at an address that is no multiple of 64 read back 6, and SAVE
with MIG_SIZE below the image length reads back NO_ROOM (5). HARVEST reads back NO_LOG (14) with DIRTY_CFG.EN 0 and PENDING
otherwise. A refused command changes nothing but INST.CMD and the journal. The order of SAVE’s checks is the model’s choice,
log entry 84. (R396, R401, R402, R406, R407, R411, R423) -/
def Obligations.InstanceCommandsAreRefusedOrPend : Prop :=
  ∀ (s : State) (p : Path) (i : Nat), s.dev.awake = true → i < 4096 → s.dev.accepts p (pgINST i) = true →
    (let cmds := [(1, Instr.activate p i, [stFree]), (2, .quiesce p i, [stRunning]), (3, .resume p i, [stQuiesced]),
       (4, .freeze p i, [stQuiesced]), (5, .thaw p i, [stFrozen]), (6, .save p i, [stFrozen]), (7, .restore p i, [stFree]),
       (8, .reset p i, [stQuiesced, stFrozen]), (9, .remove p i, [stQuiesced, stFrozen])]
     let reads := fun (c st : Nat) (e : Dev) => e.get R.INST_CMD_CODE i = c ∧ e.get R.INST_CMD_STATUS i = st ∧
       s.dev.agrees e (instCmdKey i :: journalKeys) ∧ e.host = s.dev.host
     let ends := fun (c : Nat) (x : Instr) (st : Nat) => s.leads x (fun e => reads c st e ∧ e.insts = s.dev.insts)
     let pends := fun (c : Nat) (x : Instr) => s.leads x (fun e => reads c isPending e ∧ e.cmdBusy (instCmdKey i) = true ∧
       e.inst i = { s.dev.inst i with due := some c } ∧ ∀ j, j ≠ i → e.inst j = s.dev.inst j)
     (s.dev.cmdBusy (instCmdKey i) = true → (∀ x ∈ cmds, ends x.1 x.2.1 isBusy) ∧ ends 10 (.harvest p i) isBusy) ∧
     (s.dev.cmdBusy (instCmdKey i) = false →
       ((s.dev.inst i).flr.isSome = true → ∀ x ∈ cmds, ends x.1 x.2.1 isBadState) ∧
       ((s.dev.inst i).flr = none → ∀ x ∈ cmds,
         (let wrong := (i = 0 ∧ x.1 ∈ [1, 7, 9]) ∨ s.dev.instState i ∉ x.2.2
          let off := x.1 ∈ [6, 7] ∧ s.dev.get R.INST_MIG_ADDR_ADDR i % 64 ≠ 0
          let small := x.1 = 6 ∧ s.dev.get R.INST_MIG_SIZE_BYTES i < s.dev.imageLen i
          (wrong → ends x.1 x.2.1 isBadState) ∧ (¬ wrong → off → ends x.1 x.2.1 isBadImage) ∧
          (¬ wrong → ¬ off → small → ends x.1 x.2.1 isNoRoom) ∧ (¬ wrong → ¬ off → ¬ small → pends x.1 x.2.1))) ∧
       (s.dev.get R.INST_DIRTY_CFG_EN i = 0 → ends 10 (.harvest p i) isNoLog) ∧
       (s.dev.get R.INST_DIRTY_CFG_EN i ≠ 0 → pends 10 (.harvest p i))))

/-- Drains, function-wide resets, images and harvests end an instance in the state and status the rules give. For every state of
an awake device whose data path flows and instance i. QUIESCE_DRAIN_DONE of a QUIESCING drained instance, and QUIESCE_FORCED
of one not drained at its bound, make it QUIESCED with its event; the command reads DONE, or FORCED with STATE.FORCED and its
event, every transmit entry completed; under an FLR the reset goes on. Else they change nothing. FUNCTION_WIDE_RESET_COMPLETE
of a resetting instance clears its ring contexts, MSI-X table and ring events and keeps its ranges and dirty pages; after an
FLR it is RUNNING, QUIESCED or FREE as the FLR found it; after REMOVE it has no events and log; it keeps the state that RESET
or REMOVE gave it, and the command is DONE. The three that follow go through the operator PF of the instance’s port, or of
port A for an instance without a VF; while that port retrains they change nothing. SAVE_COMPLETE writes the image at MIG_ADDR
with SAVED and DONE, or ends with DMA_ERR. RESTORE_COMPLETE ends FREE with DMA_ERR, BAD_IMAGE or BAD_CRC by the first check
that fails, or with that of a later one, or QUIESCED with RESTORED, DONE and the rings’ BASE and PEND of the image.
HARVEST_COMPLETE writes the taken bitmap at DIRTY_ADDR with HARVESTED and DONE, or merges it back with DMA_ERR. The model’s
choices, log entries 57 (when a change acts), 84 (status without a VF), 87 (descriptors read again) and 122 (retraining).
(R398, R399, R400, R401, R404, R405, R406, R407, R408, R411) -/
def Obligations.InstanceWorkEndsInItsState : Prop :=
  ∀ (s : State) (i : Nat), s.dev.awake = true → s.dev.flows = true →
    (let x := s.dev.inst i
     let st := s.dev.instState i
     let busy := s.dev.cmdBusy (instCmdKey i) = true
     let through := fun (p a : Nat) (bs : List Byte) => Out.hostWrite (hostPort p) { fn := pfFn p, addr := a, bytes := bs }
     let quiesced := fun (forced : Bool) (e : Dev) => e.instState i = stQuiesced ∧ (e.get R.INST_EVENTS i).testBit 0 = true ∧
       e.flag R.INST_STATE_FORCED i = forced ∧ (x.flr.isSome = true → (e.inst i).resetting = true) ∧
       (x.flr = none → busy → e.cmdBusy (instCmdKey i) = false ∧
         e.get R.INST_CMD_STATUS i = if forced then isForced else isDone)
     (st = stQuiescing → s.dev.drained i = true → s.leads (.quiesceDrainDone i) (quiesced false)) ∧
     ((st ≠ stQuiescing ∨ s.dev.drained i = false) → s.leads (.quiesceDrainDone i) (fun e => e = s.dev)) ∧
     (st = stQuiescing → s.dev.drained i = false → x.drainFrom + x.bound ≤ s.dev.dial.notch →
       s.leads (.quiesceForced i) (fun e => quiesced true e ∧ (e.get R.INST_EVENTS i).testBit 1 = true ∧
         ∀ r ∈ s.dev.instRings i, r % 2 = 1 → (e.ring r).entries = [])) ∧
     ((st ≠ stQuiescing ∨ s.dev.drained i = true ∨ s.dev.dial.notch < x.drainFrom + x.bound) →
       s.leads (.quiesceForced i) (fun e => e = s.dev)) ∧
     (x.resetting = false → s.leads (.functionWideResetComplete i) (fun e => e = s.dev)) ∧
     (x.resetting = true → s.leads (.functionWideResetComplete i) (fun e =>
       (∀ r ∈ s.dev.instRings i, e.get R.RCTX_CFG_EN r = 0 ∧ e.consPos r = 0 ∧ e.prodPos r = 0 ∧ (e.ring r).entries = [] ∧
         (e.ring r).hold = []) ∧ (∀ v, v < s.dev.msixSize (vfFn i) → e.msixEntry (vfFn i) v = { }) ∧ e.get R.INST_RING_EVENTS i = 0 ∧
       e.get R.INST_RING_RANGE_QP_BASE i = s.dev.get R.INST_RING_RANGE_QP_BASE i ∧
       e.get R.INST_RING_RANGE_QP_COUNT i = s.dev.get R.INST_RING_RANGE_QP_COUNT i ∧ (e.inst i).resetting = false ∧
       (∀ f, x.flr = some f → (e.inst i).flr = none ∧ e.get R.INST_STATE_FLR i = 0 ∧ (e.inst i).dirty = x.dirty ∧
         (f = stRunning → e.instState i = stRunning) ∧ (f = stQuiesced ∨ f = stFrozen → e.instState i = stQuiesced) ∧
         (f = stRestoring ∨ f = stFree → e.instState i = stFree)) ∧
       (x.flr = none → s.dev.instBusyWith i = some 9 → e.instState i = st ∧ e.get R.INST_CMD_STATUS i = isDone ∧
         e.get R.INST_EVENTS i = 0 ∧ e.get R.INST_DIRTY_CFG_EN i = 0 ∧ (e.inst i).dirty = []) ∧
       (x.flr = none → s.dev.instBusyWith i ≠ some 9 → e.instState i = st ∧ (e.inst i).dirty = x.dirty ∧
         (busy → e.get R.INST_CMD_STATUS i = isDone)))) ∧
     (∀ z p, x.saving = true → x.frozen = some z → p = s.dev.imagePort i → busy →
       (s.dev.dmaOk p = true → s.leads (.saveComplete i true) (fun e => (e.inst i).saving = false ∧
         e.out = s.dev.out ++ [through p (s.dev.get R.INST_MIG_ADDR_ADDR i) (s.dev.image i z)] ∧
         (e.get R.INST_EVENTS i).testBit 3 = true ∧ e.get R.INST_CMD_STATUS i = isDone)) ∧
       (∀ ok, s.dev.retraining p = true → s.leads (.saveComplete i ok) (fun e => e = s.dev)) ∧
       (∀ ok, s.dev.retraining p = false → (ok = false ∨ s.dev.dmaOk p = false) → s.leads (.saveComplete i ok) (fun e => (e.inst i).saving = false ∧
         e.out = s.dev.out ∧ e.get R.INST_CMD_STATUS i = isDmaErr))) ∧
     (∀ ok, x.saving = false → s.leads (.saveComplete i ok) (fun e => e = s.dev)) ∧
     (st = stRestoring → s.dev.instBusyWith i = some 7 → s.dev.retraining (s.dev.imagePort i) = false →
       (let n := s.dev.get R.INST_MIG_SIZE_BYTES i
        let base := 2 * s.dev.get R.INST_RING_RANGE_QP_BASE i
        (s.leads (.restoreComplete i none []) (fun e => e.instState i = stFree ∧ e.get R.INST_CMD_STATUS i = isDmaErr)) ∧
        (∀ b descs, b.length = n →
          (n < 72 ∨ imgNat b 8 4 ≠ n → s.dev.imageFault i b = some isBadImage) ∧
          (72 ≤ n → imgNat b 8 4 = n → imgNat b (n - 8) 8 ≠ crc64 (b.take (n - 8)) →
            s.dev.imageFault i b = some isBadCrc) ∧
          (∀ f, s.dev.imageFault i b = some f → s.leads (.restoreComplete i (some b) descs) (fun e =>
            e.instState i = stFree ∧ e.get R.INST_CMD_STATUS i = f ∧ e.host = s.dev.host)) ∧
          (s.dev.imageFault i b = none → s.leads (.restoreComplete i (some b) descs) (fun e => e.instState i = stQuiesced ∧
            e.get R.INST_CMD_STATUS i = isDone ∧ (e.get R.INST_EVENTS i).testBit 4 = true ∧
            ∀ k, k < 2 * s.dev.get R.INST_RING_RANGE_QP_COUNT i →
              e.get R.RCTX_BASE_ADDR (base + k) = imgNat b (352 + 96 * k) 8 ∧
              (e.ring (base + k)).pend = imgNat b (352 + 96 * k + 0x48) 2))))) ∧
     ((st ≠ stRestoring ∨ s.dev.instBusyWith i ≠ some 7 ∨ s.dev.retraining (s.dev.imagePort i) = true) → ∀ b descs,
       s.leads (.restoreComplete i b descs) (fun e => e = s.dev)) ∧
     (∀ l, x.taken = some l → busy →
       (∀ p, p = s.dev.imagePort i → s.dev.dmaOk p = true → s.leads (.harvestComplete i true) (fun e =>
         e.out = s.dev.out ++ [through p (s.dev.get R.INST_DIRTY_ADDR_ADDR i)
           (bitmapBytes (s.dev.get R.INST_DIRTY_PAGES_PAGES i) l)] ∧ (e.get R.INST_EVENTS i).testBit 6 = true ∧
         (e.inst i).taken = none ∧ (e.inst i).dirty = x.dirty ∧ e.get R.INST_CMD_STATUS i = isDone)) ∧
       (s.dev.retraining (s.dev.imagePort i) = true → ∀ ok, s.leads (.harvestComplete i ok) (fun e => e = s.dev)) ∧
       (s.dev.retraining (s.dev.imagePort i) = false → s.leads (.harvestComplete i false) (fun e => (e.inst i).taken = none ∧ e.out = s.dev.out ∧
         e.get R.INST_CMD_STATUS i = isDmaErr ∧
         (s.dev.flag R.INST_DIRTY_CFG_EN i = true → ∀ p, p ∈ (e.inst i).dirty ↔ p ∈ x.dirty ∨ p ∈ l)))) ∧
     (∀ ok, x.taken = none → s.leads (.harvestComplete i ok) (fun e => e = s.dev)))

/-- At the next Notch boundary a waiting instance command changes the state or starts its work. For every state of an awake
device without a reset, Standby or a thermal trip to come and no store of control firmware to a register page under way,
whose only instance that is not as after reset is i, with a command in progress that waits to act. NOTCH_TICK lets it act:
ACTIVATE and RESUME make the instance RUNNING with status DONE, QUIESCE QUIESCING with the drain’s bound counted from the new
Notch, FREEZE FROZEN with its dial time and Notch held and DONE, THAW QUIESCED with DONE, RESTORE RESTORING, SAVE begins to
save, HARVEST takes the dirty pages and leaves none, and RESET and REMOVE begin the function-wide reset, the instance
QUIESCED or FREE. In Safe Hold, or as it is entered, only SAVE, RESTORE and HARVEST act, the others wait. The model’s
choices, log entries 57 (the level), 83 (what ACTIVATE clears) and 134 (Safe Hold). (R396, R397, R400, R403, R406, R407,
R411) -/
def Obligations.InstanceCommandsActInTheNextNotch : Prop :=
  ∀ (s : State) (i : Nat) (x : Inst) (c : Nat) (w : Word), s.dev.awake = true → s.dev.boot.resetAt = none →
    s.dev.standbyDue = none → s.dev.trips = false → s.dev.acc.stores = [] → (∀ n ∈ x.resetBy, s.dev.dial.notch + 1 < n) → s.dev.insts = [(i, x)] → x.due = some c → assoc s.dev.cmds (instCmdKey i) = some w →
    s.leads .notchTick (fun e =>
      (let done := e.get R.INST_CMD_STATUS i = isDone ∧ e.cmdBusy (instCmdKey i) = false
       let acts := e.holding = false ∨ c = 6 ∨ c = 7 ∨ c = 10
       (¬ acts → e.instState i = s.dev.instState i ∧ (e.inst i).due = some c) ∧
       (acts → (e.inst i).due = none ∧
       ((c = 1 ∨ c = 3) → e.instState i = stRunning ∧ done) ∧
       (c = 2 → e.instState i = stQuiescing ∧ (e.inst i).drainFrom = e.dial.notch ∧
         (e.inst i).bound = s.dev.get R.INST_QUIESCE_LIMIT_NOTCHES i) ∧
       (c = 4 → e.instState i = stFrozen ∧ done ∧ (e.inst i).frozen.map (fun z => (z.sec, z.ns, z.notch)) =
         some (e.dial.sec, e.dial.ns, e.dial.notch)) ∧
       (c = 5 → e.instState i = stQuiesced ∧ done ∧ (e.inst i).frozen = none) ∧
       (c = 6 → e.instState i = s.dev.instState i ∧ (e.inst i).saving = true) ∧
       (c = 7 → e.instState i = stRestoring) ∧
       (c = 8 ∨ c = 9 → e.instState i = (if c = 9 then stFree else stQuiesced) ∧ (e.inst i).resetting = true) ∧
       (c = 10 → e.instState i = s.dev.instState i ∧ (e.inst i).taken = some x.dirty ∧ (e.inst i).dirty = [] ∧
         e.get R.INST_DIRTY_STAT_MARKED i = 0))))

/-- A close makes one record per instance, records are written to the ring in order, and late closes are marked. For every state
of an awake device. LEDGER_SNAPSHOT later than the interval’s first Notch, at a minute boundary after its start or in the
first Notch after a forward step, makes, while the backlog takes them, one record for each instance that gets one, in
ascending order, with its SEQ, flags and counts, raises each SEQ by one, and opens the next interval with no counts at this
Notch and the last minute boundary; an instance whose record finds the backlog full loses it, LEDGER_LOST rises, LOST is set,
and its next record has GAP. At any other time it closes nothing. At a minute boundary Notch CLASS_MAP as written comes into
force, and at no other time. The record’s words hold version, flags, instance and SEQ, start, Notches, and the counts
saturated. LEDGER_RECORD_WRITE, with the ring on, its link up and room in it, writes the oldest record at BASE + 128 × PROD,
advances PROD and sets WRITTEN after the last of a close; a full ring sets FULL; with the ring off, the link down or no
record nothing changes. LEDGER_LATE sets LATE once for a close 156,250,000 Notches old with records still waiting, and else
changes nothing. The model’s choice, log entry 89 (what SEQ and FULL count). (R416, R417, R418, R419, R420, R421, R422) -/
def Obligations.TheLedgerClosesAndWritesRecords : Prop :=
  ∀ (s : State), s.dev.awake = true →
    (let l := s.dev.ledger
     let through := fun (p a : Nat) (bs : List Byte) => Out.hostWrite (hostPort p) { fn := pfFn p, addr := a, bytes := bs }
     let t := s.dev.dial.sec * 1000000000 + s.dev.dial.ns
     let stepped := ∃ old, s.dev.dial.stepped = some old ∧ old.1 * 1000000000 + old.2 < t
     let minute := s.dev.dial.sec % 60 = 0 ∧ s.dev.dial.ns = 0 ∧ l.startSec < s.dev.dial.sec
     let n := s.dev.dial.notch - l.firstNotch
     let map := if s.dev.dial.sec % 60 = 0 ∧ s.dev.dial.ns = 0 then s.dev.get R.INSTCTL_LEDGER_CFG_CLASS_MAP else l.classMap
     let flags := fun (i : Nat) (st : Bool) =>
       ({ step := st
          extended := l.extended
          sat := (s.dev.usage i).saturates n
          gap := l.gaps.contains i
          part := l.partials.contains i
          frozen := l.frozen.contains i } : LedgerFlags)
     (∀ st, (st = true ∧ stepped ∨ st = false ∧ ¬ stepped ∧ minute) → l.firstNotch < s.dev.dial.notch →
       s.leads .ledgerSnapshot (fun e => e.ledger.counts = [] ∧ e.ledger.partials = [] ∧ e.ledger.extended = false ∧
         e.ledger.classMap = map ∧ e.ledger.startSec = s.dev.dial.sec / 60 * 60 ∧ e.ledger.firstNotch = s.dev.dial.notch ∧
         (∀ i, (assoc e.ledger.seqs i).getD 0 =
           if i ∈ s.dev.ledgerInsts then ((assoc l.seqs i).getD 0 + 1) % 2 ^ 32 else (assoc l.seqs i).getD 0) ∧
         (l.backlog.length + s.dev.ledgerInsts.length ≤ 262144 → e.regs = s.dev.regs ∧
           e.ledger.backlog = l.backlog ++ s.dev.ledgerInsts.map (fun i => (s.dev.dial.notch,
             ledgerRecord i ((assoc l.seqs i).getD 0) l.startSec n (s.dev.usage i) (flags i st)))) ∧
         (262144 ≤ l.backlog.length → e.ledger.backlog = l.backlog ∧
           s.dev.agrees e [fldKey R.INSTCTL_LEDGER_LOST 0 0, fldKey R.INSTCTL_LEDGER_EVENTS 0 0] ∧
           (s.dev.ledgerInsts ≠ [] → (e.get R.INSTCTL_LEDGER_EVENTS).testBit 3 = true) ∧
           (∀ i, s.dev.ledgerInsts = [i] → e.get R.INSTCTL_LEDGER_LOST = saturate 64 (s.dev.get R.INSTCTL_LEDGER_LOST + 1)) ∧
           (∀ i ∈ s.dev.ledgerInsts, i ∈ e.ledger.gaps)))) ∧
     ((s.dev.dial.notch ≤ l.firstNotch ∨ (¬ stepped ∧ ¬ minute)) → s.leads .ledgerSnapshot (fun e => e = { s.dev with
       ledger := { l with classMap := map } })) ∧
     (∀ i, i ∈ s.dev.ledgerInsts ↔ i < 4096 ∧ (i ∈ l.seen ∨ ∃ u, assoc l.counts i = some u ∧ u ≠ ({ } : Usage))) ∧
     (∀ i seq start ns u f, i < 4096 → seq < 2 ^ 32 → start < 2 ^ 64 → u.bytes.length = 8 → u.frames.length = 8 →
       (let b := ledgerRecord i seq start ns u f
        b.length = 128 ∧ leNat (b.take 8) = 1 + f.num * 2 ^ 4 + i * 2 ^ 12 + seq * 2 ^ 32 ∧ leNat ((b.drop 8).take 8) = start ∧
        leNat ((b.drop 16).take 8) = min ns (2 ^ 40 - 1) ∧ leNat ((b.drop 24).take 8) = min u.tn (2 ^ 48 - 1) ∧
        leNat ((b.drop 32).take 8) = min u.crypto (2 ^ 48 - 1) ∧ leNat ((b.drop 40).take 8) = min u.ios (2 ^ 40 - 1) ∧
        ∀ k, k < 8 → leNat ((b.drop (48 + 8 * k)).take 6) = min (nth u.bytes k 0) (2 ^ 48 - 1) ∧
          leNat ((b.drop (54 + 8 * k)).take 2) + 65536 * leNat ((b.drop (112 + 2 * k)).take 2) =
            min (nth u.frames k 0) (2 ^ 32 - 1))) ∧
     (∀ c bs rest, s.dev.flows = true → l.backlog = (c, bs) :: rest → s.dev.flag R.INSTCTL_LEDGER_CFG_EN = true →
       s.dev.dmaOk (s.dev.get R.INSTCTL_LEDGER_CFG_PORT) = true →
       (s.dev.ledgerSize ≤ s.dev.ledgerUsed → s.leads .ledgerRecordWrite (fun e => e.ledger = l ∧ e.out = s.dev.out ∧
         (e.get R.INSTCTL_LEDGER_EVENTS).testBit 1 = true ∧ s.dev.agrees e [fldKey R.INSTCTL_LEDGER_EVENTS 0 0])) ∧
       (s.dev.ledgerUsed < s.dev.ledgerSize → s.dev.get R.INSTCTL_LEDGER_CFG_SIZE_LOG2 ≤ 20 →
         (let i := s.dev.get R.INSTCTL_LEDGER_PROD_INDEX
          let w := s.dev.get R.INSTCTL_LEDGER_PROD_WRAP
          s.leads .ledgerRecordWrite (fun e => e.ledger.backlog = rest ∧ e.out = s.dev.out ++ [through
              (s.dev.get R.INSTCTL_LEDGER_CFG_PORT) (s.dev.get R.INSTCTL_LEDGER_BASE_ADDR + 128 * i) bs] ∧
            (i + 1 < s.dev.ledgerSize → e.get R.INSTCTL_LEDGER_PROD_INDEX = i + 1 ∧ e.get R.INSTCTL_LEDGER_PROD_WRAP = w) ∧
            (i + 1 = s.dev.ledgerSize → e.get R.INSTCTL_LEDGER_PROD_INDEX = 0 ∧ e.get R.INSTCTL_LEDGER_PROD_WRAP = 1 - w) ∧
            (rest.head?.map Prod.fst ≠ some c → (e.get R.INSTCTL_LEDGER_EVENTS).testBit 0 = true) ∧
            s.dev.agrees e [fldKey R.INSTCTL_LEDGER_PROD_INDEX 0 0, fldKey R.INSTCTL_LEDGER_EVENTS 0 0])))) ∧
     ((l.backlog = [] ∨ s.dev.flag R.INSTCTL_LEDGER_CFG_EN = false ∨
         s.dev.dmaOk (s.dev.get R.INSTCTL_LEDGER_CFG_PORT) = false) →
       s.leads .ledgerRecordWrite (fun e => e = s.dev)) ∧
     (∀ c, l.backlog.map Prod.fst = [c] →
       (c + 156250000 ≤ s.dev.dial.notch → c ∉ l.late → s.leads .ledgerLate (fun e => e.ledger.late = l.late ++ [c] ∧
         (e.get R.INSTCTL_LEDGER_EVENTS).testBit 2 = true ∧ s.dev.agrees e [fldKey R.INSTCTL_LEDGER_EVENTS 0 0])) ∧
       ((s.dev.dial.notch < c + 156250000 ∨ c ∈ l.late) → s.leads .ledgerLate (fun e => e = s.dev))))

/-- Keys are loaded and cleared, and the crypto and storage units judge, change, drop, pass and return frames. For every state.
LOAD_KEY of an SA whose ALG suits its PROTO makes the staged bytes its key, sets KEY_LOADED and KEY_FP, clears the stage and
reads back 0, else 3; CLEAR_KEY zeroes the slot; POP_EVT removes the head of the event queue, or reads back 5. With the data
path flowing, the frame a unit completes is one that no frame of its record given before it precedes, in the unit or queued
in the Basin, and the result it returns is one that no frame given before it precedes; CRYPTO_PROCESS without a frame, or for
an SA not cached beyond the fetches of the Notch, changes nothing; a frame whose SA was written since it started leaves the
record and key as written; an errored frame, an SA not valid, keyed and sound, and a foreign instance are drops 9, 1 and 2; a
MACsec outbound frame is a drop 3 under 64 bytes, 7 on an exhausted SA, 8 when too long, else grows by 32 bytes with its
SecTAG and PN and SEQ rises; an inbound one of its SCI and AN is drop 5 on a replay, drop 6 on a bad tag, else decrypted, and
its number is then a replay; TLS inbound out of step passes unchanged. STORE_PROCESS drops 4, 1, 2 and 3 likewise, leaves a
connection written meanwhile as written, and waits while the port of data to place retrains; an outbound frame becomes
segments of at most MSS bytes with numbered TAGs; an inbound one passes with CSUM, OLD, OOS or OOO, or in sequence within a
PDU that is no data advances RCV_NXT and PDU_REM with OK. CRYPTO_RETURN and STORE_RETURN put the oldest result on ingress 18
or 19 when enough cells are granted, and else change nothing. The model’s choices, log entries 78 (the ciphers), 91 and 95
(layouts and outcomes of frames), 92 (ARRIVAL), 123 (starts and order) and 135 (what a Notch takes). (R234, R429, R431, R432,
R434, R435, R437, R438, R459, R461, R462, R466) -/
def Obligations.CryptoAndStorageProcessFrames : Prop :=
  (∀ (s : State) (p : Path) (n : Nat), s.dev.awake = true → s.dev.accepts p pgCRYPTO = true → n < 2 ^ 20 →
    (let cmd := fldKey R.CRYPTO_CMD_CODE 0 0
     let alg := s.dev.get R.SA_W0_ALG n
     let fps := [fldKey R.SA_W0_VALID n 0, fldKey R.SA_KEY_FP n 0, fldKey R.SA_KEY_FP n 1]
     (algAllowed (s.dev.get R.SA_W0_PROTO n) alg = false → s.leads (.loadKey p n) (fun e => e.get R.CRYPTO_CMD_STATUS = 3 ∧
       s.dev.agrees e (cmd :: journalKeys) ∧ e.units = s.dev.units)) ∧
     (algAllowed (s.dev.get R.SA_W0_PROTO n) alg = true → s.leads (.loadKey p n) (fun e => e.get R.CRYPTO_CMD_STATUS = 0 ∧
       assoc e.units.keys n = some (alg, s.dev.regs.stage.take (if alg = 0 then 16 else 32)) ∧
       (∀ m, m ≠ n → assoc e.units.keys m = assoc s.dev.units.keys m) ∧ e.get R.SA_W0_KEY_LOADED n = 1 ∧
       e.get R.SA_KEY_FP n 0 = leNat ((keyPrint alg (s.dev.regs.stage.take (keyLen alg))).take 8) ∧
       (∀ k, k < 4 → e.get R.CRYPTO_KEY_STAGE 0 k = 0) ∧
       s.dev.agrees e (cmd :: fps ++ (List.range 4).map (fun k => fldKey R.CRYPTO_KEY_STAGE 0 k) ++ journalKeys))) ∧
     s.leads (.clearKey p n) (fun e => e.get R.CRYPTO_CMD_STATUS = 0 ∧ assoc e.units.keys n = none ∧
       e.get R.SA_W0_KEY_LOADED n = 0 ∧ e.get R.SA_KEY_FP n 0 = 0 ∧ e.get R.SA_KEY_FP n 1 = 0 ∧
       s.dev.agrees e (cmd :: fps ++ journalKeys)) ∧
     (s.dev.units.events = [] → s.leads (.popEvt p) (fun e => e.get R.CRYPTO_CMD_STATUS = 5 ∧ e.units = s.dev.units ∧
       s.dev.agrees e (cmd :: journalKeys))) ∧
     (∀ x l, s.dev.units.events = x :: l → s.leads (.popEvt p) (fun e => e.get R.CRYPTO_CMD_STATUS = 0 ∧ e.units.events = l ∧
       (e.get R.CRYPTO_SA_EVT_VALID = 0 ↔ l = []) ∧
      (∀ y, l.head? = some y → e.get R.CRYPTO_SA_EVT_KIND = y.1 % 8 ∧ e.get R.CRYPTO_SA_EVT_SA = y.2 % 2 ^ 20))))) ∧
  (∀ (s : State) (hit : Bool), s.dev.awake = true → s.dev.flows = true →
    (s.dev.nextUnit 18 = none → s.leads (.cryptoProcess hit false) (fun e => e = s.dev)) ∧
    (let room := fun (u : UnitFrame) => s.dev.fetchRoom = true ∨ (hit = true ∧ u.tk.get T.DEST % 2 ^ 20 ∈ s.dev.units.cached)
    (∀ u, s.dev.nextUnit 18 = some u → ¬ room u → s.leads (.cryptoProcess hit false) (fun e => e = s.dev)) ∧
    (∀ u r, s.dev.nextUnit 18 = some u → room u → u.old = some r →
      s.leads (.cryptoProcess hit false) (fun e => e.units.cryptoIn = s.dev.units.cryptoIn.erase u ∧
        (∀ k, k < 32 → e.word ⟨.SA, u.tk.get T.DEST % 2 ^ 20, k⟩ = s.dev.word ⟨.SA, u.tk.get T.DEST % 2 ^ 20, k⟩) ∧
        assoc e.units.keys (u.tk.get T.DEST % 2 ^ 20) = assoc s.dev.units.keys (u.tk.get T.DEST % 2 ^ 20))) ∧
    (∀ u, s.dev.nextUnit 18 = some u → room u → u.old = none →
      (let d := s.dev
       let rest := d.units.cryptoIn.erase u
       let a := u.tk.get T.DEST % 2 ^ 20
       let b := u.bytes
       let drops := fun (c : Nat) (e : Dev) => e.units.cryptoIn = rest ∧ e.units.cryptoOut = d.units.cryptoOut ∧
         e.get R.CRYPTO_DROPS 0 c = saturate 64 (d.get R.CRYPTO_DROPS 0 c + 1) ∧ e.get R.CRYPTO_LAST_DROP_CODE = c ∧
         e.get R.CRYPTO_LAST_DROP_SA = a ∧ (e.get R.CRYPTO_EVENTS).testBit 1 = true ∧ e.get R.SA_SEQ a = d.get R.SA_SEQ a
       let gives := fun (x : UnitFrame) (e : Dev) => e.units.cryptoIn = rest ∧ e.units.cryptoOut = d.units.cryptoOut ++ [x]
       let leads := fun (P : Dev → Prop) => s.leads (.cryptoProcess hit false) (fun e => P e ∧
         e.get R.CRYPTO_OCTETS = saturate 64 (d.get R.CRYPTO_OCTETS + b.length) ∧ e.basin.frames = d.basin.frames)
       let keyed := d.flag R.SA_W0_VALID a = true ∧ d.flag R.SA_W0_KEY_LOADED a = true ∧ a ∉ d.units.badSa
       let sound := u.errored = false ∧ keyed ∧ u.tk.get T.INSTANCE = d.get R.SA_W0_INSTANCE a
       let macsec := sound ∧ d.get R.SA_W0_PROTO a = 1
       let n := max 1 (d.get R.SA_SEQ a)
       (u.errored = true → leads (drops 9)) ∧ (u.errored = false → ¬ keyed → leads (drops 1)) ∧
       (u.errored = false → keyed → u.tk.get T.INSTANCE ≠ d.get R.SA_W0_INSTANCE a → leads (drops 2)) ∧
       (sound → d.get R.SA_W0_PROTO a = 2 → d.flag R.SA_W0_DIR a = true → d.flag R.SA_W0_RX_SYNC a = false →
         leads (fun e => gives u e ∧ e.get R.CRYPTO_TLS_PASS = saturate 64 (d.get R.CRYPTO_TLS_PASS + 1))) ∧
       (macsec → d.flag R.SA_W0_DIR a = false →
         (b.length < 64 → leads (drops 3)) ∧ (64 ≤ b.length → d.flag R.SA_W0_EXHAUSTED a = true → leads (drops 7)) ∧
         (64 ≤ b.length → d.flag R.SA_W0_EXHAUSTED a = false → 16383 < b.length + 32 → leads (drops 8)) ∧
         (64 ≤ b.length → d.flag R.SA_W0_EXHAUSTED a = false → b.length + 32 ≤ 16383 → n < 2 ^ 64 - 1 →
           leads (fun e => ∃ x, gives x e ∧ x.bytes.length = b.length + 32 ∧ x.bytes.take 12 = b.take 12 ∧
             beAt x.bytes 12 2 = 0x88E5 ∧ beAt x.bytes 14 1 = 0x2C + d.get R.SA_W1_AN a ∧ beAt x.bytes 16 4 = n % 2 ^ 32 ∧
             sub x.bytes 20 8 = leBytes 8 (d.get R.SA_SCI a) ∧ e.get R.SA_SEQ a = n + 1 ∧
             e.get R.SA_FRAMES a = saturate 64 (d.get R.SA_FRAMES a + 1)))) ∧
       (macsec → d.flag R.SA_W0_DIR a = true →
         (let tl := if (beAt b 14 1).testBit 5 then 16 else 8
          let num := inferSeq (d.get R.SA_SEQ a) (beAt b 16 4)
          let ct := sub b (12 + tl) (b.length - 4 - 16 - 12 - tl)
          let k := d.saKey a
          let iv := d.macsecIv a num
          let good := aeadTag16 k.1 k.2 iv (b.take (12 + tl)) ct = sub b (b.length - 4 - 16) 16
          beAt b 12 2 = 0x88E5 → beAt b 14 1 / 4 % 4 = 3 → 12 + tl + 16 ≤ b.length - 4 →
          (tl = 16 → sub b 20 8 = d.sci a) → beAt b 14 1 % 4 = d.get R.SA_W1_AN a →
          (d.replayOk a num = false → leads (fun e => drops 5 e ∧
            e.get R.SA_W12_REPLAY_DROPS a = saturate 32 (d.get R.SA_W12_REPLAY_DROPS a + 1))) ∧
          (d.replayOk a num = true → ¬ good → leads (fun e => drops 6 e ∧
            e.get R.SA_W12_AUTH_FAILS a = saturate 32 (d.get R.SA_W12_AUTH_FAILS a + 1))) ∧
          (d.replayOk a num = true → good → leads (fun e => (∃ x, gives x e ∧
              x.bytes = b.take 12 ++ aeadXor k.1 k.2 iv ct ++ b.drop (b.length - 4)) ∧
            (0 < d.get R.SA_W0_WIN_SIZE a → d.get R.SA_W0_WIN_SIZE a ≤ 1024 → e.replayOk a num = false))))))))) ∧
  (∀ (s : State), s.dev.awake = true → s.dev.flows = true →
    (s.dev.nextUnit 19 = none → s.leads (.storeProcess [] false) (fun e => e = s.dev)) ∧
    (∀ u, s.dev.nextUnit 19 = some u → u.old = none → s.dev.storeWaits (u.tk.get T.DEST % 2 ^ 17) u = true →
      s.leads (.storeProcess [] false) (fun e => e = s.dev)) ∧
    (∀ u r, s.dev.nextUnit 19 = some u → u.old = some r →
      s.leads (.storeProcess [] false) (fun e =>
        ∀ k, k < 16 → e.word ⟨.CONN, u.tk.get T.DEST % 2 ^ 17, k⟩ = s.dev.word ⟨.CONN, u.tk.get T.DEST % 2 ^ 17, k⟩)) ∧
    (∀ u, s.dev.nextUnit 19 = some u → u.old = none → s.dev.storeWaits (u.tk.get T.DEST % 2 ^ 17) u = false →
      (let d := s.dev
       let rest := d.units.storeIn.erase u
       let c := u.tk.get T.DEST % 2 ^ 17
       let b := u.bytes
       let leads := fun (P : Dev → Prop) => s.leads (.storeProcess [] false) (fun e => P e ∧ e.units.storeIn = rest ∧
         e.get R.STORE_FRAMES_IN = saturate 64 (d.get R.STORE_FRAMES_IN + 1) ∧ e.basin.frames = d.basin.frames)
       let drops := fun (k : Nat) => leads (fun e => e.units.storeOut = d.units.storeOut ∧
         e.get R.STORE_DROPS 0 k = saturate 64 (d.get R.STORE_DROPS 0 k + 1) ∧ e.get R.STORE_LAST_DROP_CODE = k ∧
         e.get R.STORE_LAST_DROP_CONN = c ∧ (e.get R.STORE_EVENTS).testBit 0 = true)
       let valid := d.flag R.CONN_W0_VALID c = true ∧ c ∉ d.units.badConn
       (u.errored = true → drops 4) ∧ (u.errored = false → ¬ valid → drops 1) ∧
       (u.errored = false → valid → u.tk.get T.INSTANCE ≠ d.get R.CONN_W0_INSTANCE c → drops 2) ∧
       (u.errored = false → valid → u.tk.get T.INSTANCE = d.get R.CONN_W0_INSTANCE c → tcpPlace u = none → drops 3) ∧
       (∀ p, d.judgeStore c u = .inr (p, true) → 0 < d.get R.CONN_W0_MSS c →
         (let mss := d.get R.CONN_W0_MSS c
          let len := (p.payload b).length
          let n := (len + mss - 1) / mss
          leads (fun e => ∃ l, e.units.storeOut = d.units.storeOut ++ l ∧ l.length = n ∧
            l.map (fun x => x.tk) = (List.range n).map (fun k => u.tk.put T.TAG (2 ^ 8 + k * 2 ^ 16 + n * 2 ^ 24)) ∧
            (∀ x ∈ l, p.pay + 4 < x.bytes.length ∧ x.bytes.length ≤ p.pay + 4 + mss) ∧
            (l.map (fun x => x.bytes.length - p.pay - 4)).sum = len))) ∧
       (∀ p, d.judgeStore c u = .inr (p, false) →
         (let seq := beAt b (p.l4 + 4) 4
          let want := d.get R.CONN_W1_RCV_NXT c
          let before := (want + 2 ^ 32 - seq) % 2 ^ 32 < 2 ^ 31
          let sync := d.flag R.CONN_W0_RX_SYNC c = true
          let rem := d.get R.CONN_W1_PDU_REM c
          let len := (p.payload b).length
          let passes := fun (r : Nat) => leads (fun e =>
            e.units.storeOut = d.units.storeOut ++ [{ u with tk := u.tk.put T.TAG r }] ∧
            e.get R.STORE_PASS = saturate 64 (d.get R.STORE_PASS + 1) ∧ e.get R.CONN_W1_RCV_NXT c = want ∧
            (r = srOoo → e.get R.CONN_W0_RX_SYNC c = 0))
          (tcpGood b p.l3 p.l4 p.fin = false → passes srCsum) ∧
          (tcpGood b p.l3 p.l4 p.fin = true → (seq ≠ want ∧ before → passes srOld) ∧ (seq = want ∨ ¬ before →
            (¬ sync → passes srOos) ∧ (sync → seq ≠ want → passes srOoo) ∧
            (sync → seq = want → d.get R.CONN_W3_HDR_BYTES c = 0 → pduType (d.connStage c) ≠ 7 → 0 < len → len < rem →
              leads (fun e => e.units.storeOut = d.units.storeOut ++ [{ u with tk := u.tk.put T.TAG 0 }] ∧
                e.get R.CONN_W1_RCV_NXT c = (want + len) % 2 ^ 32 ∧ e.get R.CONN_W1_PDU_REM c = rem - len))))))))) ∧
  (∀ (s : State), s.dev.awake = true → s.dev.flows = true →
    (∀ u n, s.dev.nextUnit n = some u → u ∈ s.dev.unitIn n ∧ (∀ x ∈ s.dev.unitIn n, unitRecord n x.tk = unitRecord n u.tk →
      u.order ≤ x.order) ∧ (∀ f ∈ s.dev.basin.frames, f.egress = n → f.stage = .queued → unitRecord n f.tk = unitRecord n u.tk →
      u.order ≤ f.order)) ∧
    (∀ u n, s.dev.nextResult n = some u → u ∈ s.dev.unitOut n ∧ (∀ x ∈ s.dev.unitOut n ++ s.dev.unitIn n, u.order ≤ x.order) ∧
      (∀ f ∈ s.dev.basin.frames, f.egress = n → f.stage = .queued → u.order ≤ f.order)) ∧
    (s.dev.nextResult 18 = none → s.leads .cryptoReturn (fun e => e = s.dev)) ∧
    (s.dev.nextResult 19 = none → s.leads .storeReturn (fun e => e = s.dev)) ∧
    (∀ u, s.dev.nextResult 18 = some u → 0 < u.bytes.length →
      ((s.dev.grantedTo 18).length < cellsFor u.bytes.length → s.leads .cryptoReturn (fun e => e = s.dev)) ∧
      (cellsFor u.bytes.length ≤ (s.dev.grantedTo 18).length → u.tk.flag T.REPARSE = true → s.leads .cryptoReturn (fun e =>
        e.units.cryptoOut = s.dev.units.cryptoOut.erase u ∧ e.get R.CRYPTO_FRAMES = saturate 64 (s.dev.get R.CRYPTO_FRAMES + 1) ∧
        ∃ f, e.basin.frames = s.dev.basin.frames ++ [f] ∧ f.ingress = 18 ∧ f.bytes = u.bytes ∧ f.back.isSome = true ∧
          f.origin = u.origin ∧ f.stage = .arriving))) ∧
    (∀ u, s.dev.nextResult 19 = some u → 0 < u.bytes.length →
      ((s.dev.grantedTo 19).length < cellsFor u.bytes.length → s.leads .storeReturn (fun e => e = s.dev)) ∧
      (cellsFor u.bytes.length ≤ (s.dev.grantedTo 19).length → u.tk.flag T.REPARSE = true → s.leads .storeReturn (fun e =>
        e.units.storeOut = s.dev.units.storeOut.erase u ∧ e.get R.STORE_FRAMES_OUT = saturate 64 (s.dev.get R.STORE_FRAMES_OUT + 1) ∧
        ∃ f, e.basin.frames = s.dev.basin.frames ++ [f] ∧ f.ingress = 19 ∧ f.bytes = u.bytes ∧ f.back.isSome = true ∧
          f.origin = u.origin ∧ f.stage = .arriving))))

/-- Channels are armed, cleared, triggered, disabled and completed, and beats move their bytes. For every state of an awake
device. START over a performed path reads back 5 on a device channel from other paths than firmware, 3 unless IDLE or DONE
and not disabled, else 0: the channel takes, with the CFG of the Notch’s start, its first descriptor, without LATE, PEND_REQ
and ERR_CODE, and is ARMED, or ACTIVE from the next Notch with TRIG SOFTWARE; a failed read makes it ERROR with code 3, and
while the port of its descriptors retrains it waits IDLE. CLEAR returns DONE and ERROR to IDLE. SWREQ adds its bits.
MOVER_REQUEST of a line made in a Notch before clears it and triggers the channels of that line; NOTCH_TIMER, DIAL_TIME and
CHAIN trigger when due, else change nothing. A trigger makes ARMED and WAITING channels ACTIVE with a new burst, counts in
PEND_REQ on ACTIVE and PREEMPTED ones up to 255, then in REQ_LOST, and is ignored otherwise. MOVER_BEATS moves at most 128
beats a Notch; a one-beat FILL or COPY to HBM writes its bytes, CRC_ONLY writes none, the CRC takes the source bytes, BEATS
rises; a failed read is a fault, and while the host port of the source retrains nothing is read. DESCRIPTOR_COMPLETE writes
status, done count and CRC back, sets DONE_MAP with INT, and ends in DONE with the chained channels due, takes the next
descriptor, or ERROR with its code and ERR_MAP; before the end, and while the host port of the descriptors retrains, it
changes nothing. DISABLE stops a channel with nothing staged or pending and no write-back. The model’s choices, log entries
93 (orders and reserved bits), 98 (operands), 122 and 152 (what waits for the port). (R444, R446, R447, R448, R449, R450,
R452, R453, R454, R455, R467, R468) -/
def Obligations.TheBlockMoverRunsItsChannels : Prop :=
  ∀ (s : State), s.dev.awake = true →
    (let d := s.dev
     let st := fun (n : Nat) => d.chState n
     let trig := fun (n from_ : Nat) (e : Dev) =>
       (d.get R.MOVERCH_CFG_DISABLE 0 n = 0 → st n = msArmed ∨ st n = msWaiting → e.chState n = msActive ∧
         (e.chn n).from_ = from_ ∧ (e.chn n).burst =
           if d.chCfg R.MOVERCH_CFG_BURST n = 0 then none else some (d.chCfg R.MOVERCH_CFG_BURST n)) ∧
       (d.get R.MOVERCH_CFG_DISABLE 0 n = 0 → st n = msActive ∨ st n = msPreempted → e.chState n = st n ∧ e.chn n = d.chn n ∧
         e.get R.MOVERCH_STATUS_PEND_REQ 0 n = min 255 (d.get R.MOVERCH_STATUS_PEND_REQ 0 n + 1)) ∧
       (d.get R.MOVERCH_CFG_DISABLE 0 n = 1 ∨ st n ∉ [msArmed, msWaiting, msActive, msPreempted] →
         e.chState n = st n ∧ e.get R.MOVERCH_STATUS_PEND_REQ 0 n = d.get R.MOVERCH_STATUS_PEND_REQ 0 n)
     (∀ p n, d.accepts p pgMOVER = true → n < 64 →
       (let cmd := fldKey R.MOVER_CMD_CODE 0 0
        let a := d.get R.MOVERCH_DESC_ADDR 0 n / 64 * 64
        let ends := fun (x : Instr) (k : Nat) => s.leads x (fun e => e.get R.MOVER_CMD_STATUS = k ∧
          d.agrees e (cmd :: journalKeys) ∧ e.mover = d.mover)
        let own := n < 48 ∨ p = .firmware
        let free := (st n = msIdle ∨ st n = msDone) ∧ d.get R.MOVERCH_CFG_DISABLE 0 n = 0 ∧ (d.chn n).asked = none
        (¬ own → (∀ x, ends (.start p n x) 5) ∧ ends (.clear p n) 5) ∧
        (own → (¬ free → ∀ x, ends (.start p n x) 3) ∧ (st n ≠ msDone → st n ≠ msError → ends (.clear p n) 3) ∧
          (st n = msDone ∨ st n = msError → s.leads (.clear p n) (fun e => e.get R.MOVER_CMD_STATUS = 0 ∧
            e.chState n = msIdle ∧ d.agrees e (cmd :: fldKey R.MOVERCH_STATUS_STATE 0 n :: journalKeys))) ∧
          (free → d.getStart R.MOVERCH_CFG_DESC_SPACE 0 n = 0 → d.retraining 0 = true → ∀ x, s.leads (.start p n x) (fun e =>
            e.get R.MOVER_CMD_STATUS = 0 ∧ e.chState n = msIdle ∧ (e.chn n).asked = some x)) ∧
          (free → d.getStart R.MOVERCH_CFG_DESC_SPACE 0 n = 0 → d.retraining 0 = false → a + 64 ≤ 2 ^ 64 →
            (∀ b, b.length = 64 → s.leads (.start p n (some b)) (fun e => e.get R.MOVER_CMD_STATUS = 0 ∧
              (e.chn n).desc = b ∧ (e.chn n).addr = a ∧ (e.chn n).pos = 0 ∧ (e.chn n).staged = [] ∧
              e.get R.MOVERCH_STATUS_LATE 0 n = 0 ∧ e.get R.MOVERCH_STATUS_PEND_REQ 0 n = 0 ∧
              e.get R.MOVERCH_STATUS_ERR_CODE 0 n = 0 ∧
              (d.getStart R.MOVERCH_CFG_TRIG 0 n = 0 → e.chState n = msActive ∧ (e.chn n).from_ = d.dial.notch + 1) ∧
              (d.getStart R.MOVERCH_CFG_TRIG 0 n ≠ 0 → e.chState n = msArmed) ∧
              (∀ f ∈ [R.MOVERCH_CFG_PRIO, R.MOVERCH_CFG_TRIG, R.MOVERCH_CFG_TRIG_ARG, R.MOVERCH_CFG_BURST, R.MOVERCH_CFG_DESC_SPACE,
                R.MOVERCH_CFG_PERIOD], e.chCfg f n = d.getStart f 0 n))) ∧
            s.leads (.start p n none) (fun e => e.chState n = msError ∧ e.get R.MOVERCH_STATUS_ERR_CODE 0 n = meDma ∧
              (e.get R.MOVER_ERR_MAP).testBit n = true ∧ (e.get R.MOVER_EVENTS).testBit 1 = true))))) ∧
     (∀ p x, d.admits p pgMOVER = true → s.leads (.swreq p x) (fun e =>
       e.get R.MOVER_SWREQ = d.get R.MOVER_SWREQ ||| x.field 8 24 ∧ d.agrees e (fldKey R.MOVER_SWREQ 0 0 :: journalKeys))) ∧
     (∀ l, l < 32 →
       (let made := if l < 8 then ∃ x ∈ d.control.cores, x.2.mreq.testBit l = true ∧ x.2.mreqNow.testBit l = false
          else (d.getStart R.MOVER_SWREQ).testBit (l - 8) = true ∧ (d.get R.MOVER_SWREQ).testBit (l - 8) = true ∧ l ∉ d.mover.taken
        (made → s.leads (.moverRequest l) (fun e => (∀ b, b < 24 → (e.get R.MOVER_SWREQ).testBit b =
            ((d.get R.MOVER_SWREQ).testBit b && (decide (l < 8) || decide (b ≠ l - 8)))) ∧
          (l < 8 → ∀ c, (e.ctrl c).mreq.testBit l = ((d.ctrl c).mreq.testBit l && (d.ctrl c).mreqNow.testBit l)) ∧
          ∀ n, n < 64 → if d.chCfg R.MOVERCH_CFG_TRIG n = 1 ∧ d.chCfg R.MOVERCH_CFG_TRIG_ARG n = l ∧ d.chServes n = true then
            trig n d.dial.notch e else e.chn n = d.chn n ∧ e.chState n = st n)) ∧
        (¬ made → s.leads (.moverRequest l) (fun e => e = d)))) ∧
     (∀ n, n < 64 → d.chServes n = true →
       (let t := d.get R.MOVERCH_TRIG_SEC 0 n * 1000000000 + d.get R.MOVERCH_TRIG_NS 0 n
        let timer := d.chCfg R.MOVERCH_CFG_TRIG n = 2 ∧
          d.dial.notch % d.chCfg R.MOVERCH_CFG_PERIOD n = d.get R.MOVERCH_TRIG_NS_PHASE 0 n
        let due := d.chCfg R.MOVERCH_CFG_TRIG n = 3 ∧ (d.chn n).fired = false ∧ st n = msArmed ∧
          t ≤ d.dial.sec * 1000000000 + d.dial.ns
        (timer → s.leads (.notchTimer n) (fun e => trig n (d.dial.notch + 1) e ∧
          (st n = msActive → d.get R.MOVERCH_CFG_DISABLE 0 n = 0 → d.get R.MOVERCH_STATUS_PEND_REQ 0 n = 255 →
            e.get R.MOVER_REQ_LOST = saturate 64 (d.get R.MOVER_REQ_LOST + 1)))) ∧
        (¬ timer → s.leads (.notchTimer n) (fun e => e = d)) ∧
        (due → s.leads (.dialTime n) (fun e => (e.chn n).fired = true ∧ trig n (d.dial.notch + 1) e)) ∧
        (¬ due → s.leads (.dialTime n) (fun e => e = d)) ∧
        (n ∈ d.mover.chainDue → s.leads (.chain n) (fun e => n ∉ e.mover.chainDue ∧ trig n (d.dial.notch + 1) e)) ∧
        (n ∉ d.mover.chainDue → s.leads (.chain n) (fun e => e = d)))) ∧
     (d.mover.chans = [] → s.leads (.moverBeats []) (fun e => e = d)) ∧
     (∀ reads, d.mover.used ≤ 128 → (∀ x ∈ d.mover.chans, dDstSpace x.2.desc ≤ 2) → s.leads (.moverBeats reads) (fun e =>
       e.mover.used ≤ 128)) ∧
     (∀ n c, d.mover.chans = [(n, c)] → n < 64 → d.chServes n = true → d.mover.used < 128 → st n = msActive →
       c.from_ ≤ d.dial.notch → c.fault = none → c.pos = 0 → c.burst = none → 0 < dLen c.desc → dLen c.desc ≤ 64 →
       dDstSpace c.desc = 2 →
       (let len := dLen c.desc
        let moved := fun (bs : List Byte) (e : Dev) => (e.chn n).pos = 1 ∧
          (e.chn n).crc = crcFeed (dCrcMode c.desc) c.crc bs ∧ (e.chn n).done = c.done + bs.length ∧
          e.get R.MOVER_BEATS = saturate 64 (d.get R.MOVER_BEATS + 1) ∧ e.mover.used = d.mover.used + 1
        let written := fun (bs : List Byte) (e : Dev) => e.spaceBytes 2 (dDst c.desc) len = bs ∧
          ∀ a, (a < hbmBase + dDst c.desc ∨ hbmBase + dDst c.desc + len ≤ a) → e.mem.byte a = d.mem.byte a
        (dOp c.desc = 1 → s.leads (.moverBeats []) (fun e =>
          (let bs := (List.range len).map (fun o => BitVec.ofNat 8 (dFill c.desc / 256 ^ (o % 8)))
           moved bs e ∧ written bs e))) ∧
        (∀ bs, dSrcSpace c.desc = 0 → d.retraining 0 = false → c.rd = 0 → c.staged = [] → bs.length = len →
          (dOp c.desc = 0 → s.leads (.moverBeats [{ ch := n, beats := [some bs] }]) (fun e => moved bs e ∧ written bs e)) ∧
          (dOp c.desc = 2 → s.leads (.moverBeats [{ ch := n, beats := [some bs] }]) (fun e => moved bs e ∧ e.mem = d.mem))) ∧
        (dOp c.desc = 0 → dSrcSpace c.desc = 0 → d.retraining 0 = true → c.rd = 0 → c.staged = [] →
          s.leads (.moverBeats [{ ch := n, beats := [none] }]) (fun e => e.mem = d.mem ∧ (e.chn n).fault = none ∧
            (e.chn n).rd = 0 ∧ (e.chn n).pos = 0)) ∧
        (dOp c.desc = 0 → dSrcSpace c.desc = 0 → d.retraining 0 = false → c.rd = 0 → c.staged = [] →
          s.leads (.moverBeats [{ ch := n, beats := [none] }]) (fun e => (e.chn n).fault = some meDma ∧ e.mem = d.mem)))) ∧
     (∀ n next, n < 64 →
       (let c := d.chn n
        let at_ := d.chServes n = true ∧ st n ∈ [msActive, msPreempted, msWaiting] ∧ c.ended = true ∧ c.from_ ≤ d.dial.notch ∧
          (d.chCfg R.MOVERCH_CFG_DESC_SPACE n ≤ 1 → d.retraining (d.chCfg R.MOVERCH_CFG_DESC_SPACE n) = false)
        let words := leBytes 8 (c.code + 2 ^ 8 + d.get R.MOVERCH_STATUS_LATE 0 n * 2 ^ 9 +
          c.done % 2 ^ 32 * 2 ^ 32) ++ leBytes 8 (crcFinal (dCrcMode c.desc) c.crc)
        let back := Out.hostWrite .a { fn := pfFn 0, addr := c.addr + 0x30, bytes := words }
        let int_ := fun (e : Dev) => dInt c.desc = true → (e.get R.MOVER_DONE_MAP).testBit n = true ∧
          (e.get R.MOVER_EVENTS).testBit 0 = true ∧ e.get R.SRC_W1_PEND (128 + n) = 1
        (¬ at_ → s.leads (.descriptorComplete n next) (fun e => e = d)) ∧
        (at_ → d.chCfg R.MOVERCH_CFG_DESC_SPACE n = 0 →
          (c.code = meOk → dLast c.desc = true → s.leads (.descriptorComplete n next) (fun e => int_ e ∧
            e.chState n = msDone ∧ e.get R.MOVERCH_STATUS_PEND_REQ 0 n = 0 ∧ e.out = d.out ++ [back] ∧
            (∀ m, m < 64 → d.chCfg R.MOVERCH_CFG_TRIG m = 4 → d.chCfg R.MOVERCH_CFG_TRIG_ARG m = n →
              m ∈ e.mover.chainDue))) ∧
          (∀ b, c.code = meOk → dLast c.desc = false → b.length = 64 → c.addr + 128 ≤ 2 ^ 64 →
            s.leads (.descriptorComplete n (some b)) (fun e => int_ e ∧ (e.chn n).desc = b ∧ (e.chn n).addr = c.addr + 64 ∧
              (e.chn n).pos = 0 ∧ e.chState n = st n ∧ e.out = d.out ++ [back])) ∧
          (c.code ≠ meOk → c.code ≠ meMem → c.code < 256 → s.leads (.descriptorComplete n next) (fun e => int_ e ∧
            e.chState n = msError ∧ e.get R.MOVERCH_STATUS_ERR_CODE 0 n = c.code ∧
            (e.get R.MOVER_ERR_MAP).testBit n = true ∧ (e.get R.MOVER_EVENTS).testBit 1 = true ∧ e.out = d.out ++ [back]))))) ∧
     (∀ p n, d.admits p pgMOVER = true → n < 64 →
       (n < 48 ∨ p = .firmware → s.leads (.disable p n) (fun e => e.get R.MOVERCH_CFG_DISABLE 0 n = 1 ∧
         e.chState n = msDisabled ∧ e.get R.MOVERCH_STATUS_PEND_REQ 0 n = 0 ∧ (e.chn n).staged = [] ∧
         (e.chn n).crc = (d.chn n).crc ∧ e.get R.MOVERCH_STATUS_BYTES 0 n = d.get R.MOVERCH_STATUS_BYTES 0 n ∧
         (e.get R.MOVER_EVENTS).testBit 2 = true ∧ e.out = d.out ∧ ∀ m, m ≠ n → e.chn m = d.chn m)) ∧
       (48 ≤ n → p ≠ .firmware → s.leads (.disable p n) (fun e => e.chState n = st n ∧ e.chn n = d.chn n ∧
         (e.get R.HDR_ERR_CLASSES_CLASSES pgMOVER).testBit 2 = true))))

/-- HEALTH commands act or are refused, Safe Hold stops the device, and repairs, power and heat are recorded. For every state of
an awake device. Over a performed path each HEALTH command reads back BUSY (1) while one is in progress; outside RECOVERY
CLEAR_REASONS reads back 4 without the maker role, 5 if the condition of a named reason that clears itself holds, else 0 and
exactly the named reasons end; ENTER_SAFE_HOLD and RESET_DEVICE read back 0 and the entry, with cause 4 unless one is due
already, or the reset 15,625 Notches later is due; REMAP_REGION reads back 7 for a region that is none, 8 for one not normal,
6 with the reserve empty, else 2 and the copy starts; RETIRE_BANK reads back 7, 8, 6 or 0 likewise. SAFE_HOLD_ENTRY of an
entry due from an earlier Notch sets SAFE_HOLD and the cause, takes every link DOWN, halts the Glen threads and disables
operator channels at work; without one it changes nothing. HBM_REMAP_DONE of a running copy makes the region REMAPPED, counts
it, sets its event, reason 3 from 246 on, and ends the command. PHASE_FAIL marks the phase, lowers POWER_W and GLEN_CLK, sets
reason 8, and the third makes an entry with cause 3 due. THERMAL_SAMPLE notes a sample; at the boundary after it two samples
drive THERM_ALERT# low at 92.0 and release it at 88.0, make an entry with cause 2 due at 100.0, and at 105.0 degrees turn the
power off with the driven pins released. The model’s choices, log entries 98 (windows and remaps), 99 (entry numbers), 127
(the phase’s record) and 136 (GLEN_CLK below the class). (R502, R503, R507, R509, R512, R513, R514, R516, R519, R559, R611,
R623) -/
def Obligations.HealthCommandsAndSafeHold : Prop :=
  ∀ (s : State), s.dev.awake = true →
    (let d := s.dev
     let old := d.get R.HEALTH_REPLACE_REASONS
     let cmd := fldKey R.HEALTH_CMD_CODE 0 0
     (∀ (p : Path) (k n : Nat), d.accepts p pgHEALTH = true → k < 2 → n < 2 ^ 14 →
       (let ends := fun (x : Instr) (st : Nat) => s.leads x (fun e => e.get R.HEALTH_CMD_STATUS = st ∧
          d.agrees e (cmd :: journalKeys) ∧ e.health = d.health ∧ e.errs.safeDue = d.errs.safeDue ∧ e.boot = d.boot)
        (d.cmdBusy cmd = true → ends (.clearReasons p n) 1 ∧ ends (.enterSafeHold p) 1 ∧ ends (.resetDevice p) 1 ∧
          ends (.remapRegion p k n) 1 ∧ ends (.retireBank p n) 1) ∧
        (d.cmdBusy cmd = false → s.leads (.resetDevice p) (fun e => e.get R.HEALTH_CMD_STATUS = 0 ∧
          e.boot.resetAt = some (d.dial.notch + 15625) ∧ d.agrees e (cmd :: journalKeys))) ∧
        (d.cmdBusy cmd = false → d.stage ≠ bsRecovery →
          (n < 2 ^ 10 →
            (d.role p ≠ 3 → ends (.clearReasons p n) 4) ∧
            (d.role p = 3 → (List.range 10).any (fun r => n.testBit r && d.reasonHolds r) = true → ends (.clearReasons p n) 5) ∧
            (d.role p = 3 → (List.range 10).any (fun r => n.testBit r && d.reasonHolds r) = false → s.leads (.clearReasons p n) (fun e =>
              e.get R.HEALTH_CMD_STATUS = 0 ∧
              (∀ b, b < 16 → (e.get R.HEALTH_REPLACE_REASONS).testBit b = (old.testBit b && !n.testBit b)) ∧
              (old ≠ 0 → e.get R.HEALTH_REPLACE_REASONS = 0 → e.get R.HEALTH_REPLACE_REASON = 0 ∧
                e.get R.HEALTH_REPLACE_NOTCH = 0 ∧ Out.pin "REPLACE_REQ#" true ∈ e.out) ∧
              d.agrees e (cmd :: fldKey R.HEALTH_REPLACE_REASON 0 0 :: journalKeys)))) ∧
          s.leads (.enterSafeHold p) (fun e => e.get R.HEALTH_CMD_STATUS = 0 ∧ d.agrees e (cmd :: journalKeys) ∧
            e.errs.safeDue = if d.held then d.errs.safeDue else some (d.errs.safeDue.getD (4, 0, 0, d.dial.notch))) ∧
          (d.variant.stacks ≤ k ∨ 11904 ≤ n → ends (.remapRegion p k n) 7) ∧
          (k < d.variant.stacks → n < 11904 →
            (d.regionState k n ≠ hrNormal → ends (.remapRegion p k n) 8) ∧
            (d.regionState k n = hrNormal → 384 ≤ d.reserveUsed k → ends (.remapRegion p k n) 6) ∧
            (d.regionState k n = hrNormal → d.reserveUsed k < 384 → s.leads (.remapRegion p k n) (fun e =>
              e.get R.HEALTH_CMD_STATUS = 2 ∧ e.cmdBusy cmd = true ∧ e.regionState k n = hrCopying ∧
              e.reserveUsed k = d.reserveUsed k + 1 ∧
              e.health.remaps = d.health.remaps ++ [(k, n, 11904 + d.reserveUsed k)] ∧
              d.agrees e (cmd :: fldKey R.HBMREG_W0_STATE (regionIndex k n) 0 :: journalKeys)))) ∧
          (32 ≤ n → ends (.retireBank p n) 7) ∧
          (n < 32 → d.get R.BANK_W0_STATE n ≠ 0 → ends (.retireBank p n) 8) ∧
          (n < 32 → d.get R.BANK_W0_STATE n = 0 → d.mayRetire n = false → ends (.retireBank p n) 6) ∧
          (n < 32 → d.get R.BANK_W0_STATE n = 0 → d.mayRetire n = true → s.leads (.retireBank p n) (fun e =>
            e.get R.HEALTH_CMD_STATUS = 0 ∧ e.get R.BANK_W0_STATE n = 1 ∧ (e.get R.HEALTH_EVENTS).testBit 3 = true ∧
            e.get R.BASIN_CELLS_TOTAL_TOTAL = d.get R.BASIN_CELLS_TOTAL_TOTAL - 12288 ∧ e.health = d.health))))) ∧
     (∀ cause cls page n, cause < 8 → cls < 32 → page < 4096 → d.errs.safeDue = some (cause, cls, page, n) →
       (n < d.dial.notch → d.held = false → s.leads .safeHoldEntry (fun e => e.held = true ∧ e.errs.safeDue = none ∧
         e.get R.HEALTH_SAFE_CAUSE = cause ∧ e.get R.HEALTH_SAFE_CLASS = cls ∧ e.get R.HEALTH_SAFE_PAGE = page ∧
         e.get R.HEALTH_SAFE_NOTCH = n % 2 ^ 32 ∧ (e.get R.HEALTH_EVENTS).testBit 1 = true ∧
         (∀ q, q < 16 → d.portInService q = true → e.get R.PORT_STATUS_LINK q = 0) ∧
         (∀ g c t, (e.thread (.glen g c t)).halted = true) ∧
         (∀ m, m < 48 → 1 ≤ d.chState m → d.chState m ≤ 4 → e.chState m = msDisabled ∧ (e.chn m).staged = (d.chn m).staged) ∧
         (∀ m, 48 ≤ m → m < 64 → e.chState m = d.chState m))) ∧
       (n < d.dial.notch → d.held = true → s.leads .safeHoldEntry (fun e => e.regs = d.regs ∧ e.errs.safeDue = none)) ∧
       (d.dial.notch ≤ n → s.leads .safeHoldEntry (fun e => e = d))) ∧
     (d.errs.safeDue = none → s.leads .safeHoldEntry (fun e => e = d)) ∧
     (∀ k r q, k < 2 → r < 2 ^ 14 → q < 2 ^ 14 →
       (d.health.remaps.find? (fun x => x.1 == k && x.2.1 == r) = some (k, r, q) → s.leads (.hbmRemapDone k r) (fun e =>
         e.regionState k r = hrRemapped ∧ e.get R.HBMREG_W0_PHYS (regionIndex k r) = q ∧
         e.get R.HEALTH_HBM_REMAPPED 0 k = saturate 9 (d.get R.HEALTH_HBM_REMAPPED 0 k + 1) ∧
         (e.get R.HEALTH_EVENTS).testBit 2 = true ∧
         (245 ≤ d.get R.HEALTH_HBM_REMAPPED 0 k → (e.get R.HEALTH_REPLACE_REASONS).testBit 3 = true) ∧
         (∀ w, assoc d.cmds cmd = some w → w.field 4 1 = k → w.field 8 14 = r → e.get R.HEALTH_CMD_STATUS = 0 ∧
           e.cmdBusy cmd = false))) ∧
       (d.health.remaps.find? (fun x => x.1 == k && x.2.1 == r) = none → s.leads (.hbmRemapDone k r) (fun e => e = d))) ∧
     (∀ f clk, (12 ≤ f ∨ (d.get R.HEALTH_PHASES_FAILED_MAP).testBit f = true → s.leads (.phaseFail f clk) (fun e => e = d)) ∧
       (f < 12 → (d.get R.HEALTH_PHASES_FAILED_MAP).testBit f = false → s.leads (.phaseFail f clk) (fun e =>
         e.get R.HEALTH_PHASES_FAILED_MAP = d.get R.HEALTH_PHASES_FAILED_MAP ||| 2 ^ f ∧
         e.get R.HEALTH_STATUS_POWER_W = d.get R.HEALTH_STATUS_POWER_W - d.variant.powerMax / 12 ∧
         e.get R.HEALTH_STATUS_GLEN_CLK = min (d.get R.HEALTH_STATUS_GLEN_CLK) (max 1 clk) ∧
         (e.get R.HEALTH_EVENTS).testBit 4 = true ∧ (e.get R.HEALTH_REPLACE_REASONS).testBit 8 = true ∧
         (old = 0 → Out.pin "REPLACE_REQ#" false ∈ e.out ∧
           (d.getStart R.HEALTH_REPLACE_REASONS = 0 → e.get R.HEALTH_REPLACE_REASON = 8)) ∧
         (∀ a b, a < b → b < 12 → d.get R.HEALTH_PHASES_FAILED_MAP = 2 ^ a + 2 ^ b → d.held = false →
           e.errs.safeDue = some (d.errs.safeDue.getD (3, 0, 0, d.dial.notch)))))) ∧
     (∀ (t : Int), s.leads (.thermalSample t) (fun e =>
       e = { d with health := { d.health with
         temps := t :: d.health.temps.take 1
         sampled := true } })) ∧
     (∀ (t b : Int), d.boot.resetAt = none → d.standbyDue = none → d.health.temps = [t, b] → d.health.sampled = true →
       (let both := fun (p : Int → Prop) => p t ∧ p b
        (both (fun x => 1050 ≤ x) → s.leads .notchTick (fun e => e.boot.off = true ∧ e.boot.tripped = true ∧
          e.health.alert = false ∧ (d.health.alert = true → Out.pin "THERM_ALERT#" true ∈ e.out) ∧
          (d.dial.ppsOut = true → Out.ppsOut false 0 ∈ e.out) ∧ e.dial.ppsOut = false)) ∧
        (¬ both (fun x => 1050 ≤ x) → s.leads .notchTick (fun e =>
          (both (fun x => 920 ≤ x) → d.health.alert = false → e.health.alert = true ∧ Out.pin "THERM_ALERT#" false ∈ e.out ∧
            (e.get R.HDR_ERR_CLASSES_CLASSES pgHEALTH).testBit 17 = true) ∧
          (both (fun x => x ≤ 880) → e.health.alert = false ∧
            (d.health.alert = true → Out.pin "THERM_ALERT#" true ∈ e.out)) ∧
          (¬ both (fun x => 920 ≤ x) → ¬ both (fun x => x ≤ 880) → e.health.alert = d.health.alert) ∧
          (both (fun x => 1000 ≤ x) → d.held = false → d.errs.safeDue = none →
            e.errs.safeDue = some (2, 0, 0, d.dial.notch)))))))

/-- Over an installer PF a challenge opens a session in the order of the checks; idle time, CLOSE and a new endpoint end it. For
every state of an awake device and installer PF. SESS_CMD changes nothing in Safe Hold or where the path does not reach the
page; with the journal full, during a firmware swap, or where its records would overfill the buffer, it reads back BUSY.
Otherwise GET_CHALLENGE reads back PATH (8) for a role below 2, LOCKED (7) on a locked path, else DONE with the module
counter one higher, four fresh words as NONCE and that challenge the path’s only one. OPEN uses the challenge up and reads
back EXPIRED (6) for none or one 937,500,000 Notches old, PATH (8) for the operator role, NO_KEY (4), DMA_ERR (11) for a
signature not read, BAD_SIG (5) for one that is no XMSS signature of the 70 bytes under the slot’s key, BUSY (1) for a maker
session open elsewhere, in that order, opening nothing; the eighth refusal in a row for 4 or 5 locks the path for 937,500,000
Notches; else DONE and the path’s one session has the challenge’s role and slot. CLOSE reads back DONE and the session is
gone, or NO_SESSION (10). SESSION_IDLE_END ends a session without access for IDLE_S seconds and no other; LOCKOUT_END ends a
lock that has run out; ENDPOINT_ID_ASSIGNED ends the MCTP session, its challenge and its held writes. No register but the
command, the journal’s, the counter and the nonce changes. The model’s choices, log entries 78 and 129 (SHAKE256, XMSS), 94
(the nonce), 101 (COUNTER, the refusals’ count, the records) and 138 (records that wait). (R526, R530, R531, R532, R533,
R554, R555, R535, R537, R574, R589, R595) -/
def Obligations.SessionsOpenAndEnd : Prop :=
  ∀ (s : State), s.dev.awake = true →
    (let d := s.dev
     (∀ (hp : HostPort) (tag role slot : Nat) (data : Option (List Byte)), role < 4 → slot < 16 →
       (let p := Path.installer hp
        let b := p.bank
        let cmd : Key := ⟨.ROLE, b, 8⟩
        let ks := cmd :: journalKeys
        let shows := fun (e : Dev) (code st : Nat) => (e.word cmd).field 0 4 = code ∧ (e.word cmd).field 16 4 = st
        let keeps := fun (e : Dev) =>
          e = { d with regs := e.regs, acc := e.acc, roles := e.roles, store := e.store, fresh := e.fresh, errs := e.errs } ∧
          (∀ b', b' ≠ b → e.session b' = d.session b') ∧ e.roles.storedChain = d.roles.storedChain ∧ e.roles.owed = d.roles.owed ∧ e.roles.held = d.roles.held
        let ends := fun (x : Instr) (code records : Nat) (P : Dev → Prop) =>
          (d.roles.buffer.length + records ≤ 1024 → s.leads x P) ∧
          (1024 < d.roles.buffer.length + records → s.leads x (fun e => shows e code 1 ∧
            d.agrees e [cmd, fldKey R.ROLE_JOURNAL_STAT_REFUSED 0 0] ∧ e = { d with regs := e.regs }))
        let opening := Instr.open_ p tag data
        let sig := d.openSource p data
        let verifies := fun (c : Challenge) (b : List Byte) => xmssVerify (d.keySlot c.role c.slot).key (sessionTag ++
          leBytes 16 d.store.serial.toNat ++ leBytes 1 c.role ++ leBytes 1 c.slot ++ leBytes 1 p.num ++ leBytes 8 c.counter ++ c.nonce) b
        let asking := Instr.getChallenge p tag role slot
        let closing := Instr.close p tag
        (d.reaches p pgROLE = false ∨ d.held = true →
          s.leads asking (fun e => e = d) ∧ s.leads opening (fun e => e = d) ∧ s.leads closing (fun e => e = d)) ∧
        (d.reaches p pgROLE = true → d.held = false →
          (let busy := fun (x : Instr) (code : Nat) => s.leads x (fun e => shows e code 1 ∧
             d.agrees e [cmd, fldKey R.ROLE_JOURNAL_STAT_REFUSED 0 0] ∧ e = { d with regs := e.regs })
           (d.journalFull = true ∨ d.stage = bsSwapping → busy asking 1 ∧ busy opening 2 ∧ busy closing 3)) ∧
          (d.journalFull = false → d.stage ≠ bsSwapping →
            ((role < 2 → s.leads asking (fun e => shows e 1 8 ∧ keeps e ∧
                e.roles.challenges = d.roles.challenges ∧ e.store = d.store ∧ d.agrees e ks)) ∧
             (2 ≤ role → d.locked b = true → ends asking 1 2 (fun e => shows e 1 7 ∧ keeps e ∧
                e.roles.challenges = d.roles.challenges ∧ e.store = d.store ∧ d.agrees e ks)) ∧
             (2 ≤ role → d.locked b = false → s.leads asking (fun e => shows e 1 0 ∧ keeps e ∧
                e.store = { d.store with counter := d.store.counter + 1 } ∧ e.fresh = d.fresh + 4 ∧
                e.word ⟨.ROLE, b, 14⟩ = BitVec.ofNat 64 (d.store.counter + 1) ∧
                (∀ k, k < 4 → e.word ⟨.ROLE, b, 10 + k⟩ = Config.freeValue (d.fresh + k)) ∧
                (∃ c : Challenge, e.roles.challenges = d.roles.challenges.filter (fun x => x.bank != b) ++ [c] ∧
                  c.bank = b ∧ c.role = role ∧ c.slot = slot ∧ c.counter = d.store.counter + 1 ∧ c.notch = d.dial.notch) ∧
                d.agrees e (⟨.ROLE, b, 10⟩ :: ⟨.ROLE, b, 11⟩ :: ⟨.ROLE, b, 12⟩ :: ⟨.ROLE, b, 13⟩ :: ⟨.ROLE, b, 14⟩ :: ks)))) ∧
            (let c := d.roles.challenges.find? (fun x => x.bank == b)
             let read := d.noteRead p true (d.word ⟨.ROLE, b, 15⟩).toNat
             let refused := fun (st : Nat) => ends opening 2 2 (fun e => shows e 2 st ∧ keeps e ∧ e.store = d.store ∧
               (let base := if st = 11 then read else d
                e.errs = base.errs ∧ base.agrees e ks) ∧
               e.roles.challenges = d.roles.challenges.filter (fun x => x.bank != b) ∧
               (e.get R.ROLE_EVENTS).testBit 1 = true ∧ (e.session b).isSome = (d.session b).isSome ∧
               (let n := (assoc d.roles.refusals b).getD 0 + 1
                (st = 4 ∨ st = 5 → n < 8 → assoc e.roles.refusals b = some n ∧ e.roles.lockouts = d.roles.lockouts) ∧
                (st = 4 ∨ st = 5 → 8 ≤ n → assoc e.roles.refusals b = none ∧
                  assoc e.roles.lockouts b = some (d.dial.notch + 937500000) ∧ (e.get R.ROLE_EVENTS).testBit 2 = true) ∧
                (st ≠ 4 → st ≠ 5 → e.roles.refusals = d.roles.refusals ∧ e.roles.lockouts = d.roles.lockouts)))
             (c = none → refused 6) ∧
             (∀ x, c = some x →
               (x.notch + 937500000 ≤ d.dial.notch → refused 6) ∧
               (d.dial.notch < x.notch + 937500000 →
                 (x.role = 1 → refused 8) ∧
                 (x.role ≠ 1 → d.keyActive x.role x.slot = false → refused 4) ∧
                 (x.role ≠ 1 → d.keyActive x.role x.slot = true →
                   (sig = none → refused 11) ∧ (∀ bs, sig = some bs → verifies x bs = false → refused 5) ∧
                   (∀ bs, sig = some bs → verifies x bs = true →
                     (let other : Bool := d.roles.sessions.any (fun y => y.role == 3 && y.bank != b)
                      (x.role = 3 → other = true → refused 1) ∧
                      (x.role ≠ 3 ∨ other = false → ends opening 2 (if (d.session b).isSome then 3 else 2) (fun e => shows e 2 0 ∧ keeps e ∧ e.store = d.store ∧
                        e.roles.sessions = d.roles.sessions.filter (fun y => y.bank != b) ++
                          [{ bank := b, path := p, role := x.role, slot := x.slot, counter := x.counter,
                             last := d.dial.notch }] ∧
                        e.roles.challenges = d.roles.challenges.filter (fun x => x.bank != b) ∧
                        assoc e.roles.refusals b = none ∧ e.roles.lockouts = d.roles.lockouts ∧
                        (e.get R.ROLE_EVENTS).testBit 0 = true ∧ d.agrees e ks)))))))) ∧
            ((d.session b = none → s.leads closing (fun e => shows e 3 10 ∧ keeps e ∧ e.session b = none ∧
                e.roles.challenges = d.roles.challenges ∧ d.agrees e ks)) ∧
             ((d.session b).isSome = true → ends closing 3 2 (fun e => shows e 3 0 ∧ keeps e ∧
                e.roles.sessions = d.roles.sessions.filter (fun y => y.bank != b) ∧
                e.roles.challenges = d.roles.challenges ∧ d.agrees e ks))))))) ∧
     (∀ p : Path,
       (let ended : Bool := (d.session p.bank).any
          (fun x => decide (x.last + d.get R.ROLE_SESS_CFG_IDLE_S * 15625000 ≤ d.dial.notch))
        (ended = true → s.leads (.sessionIdleEnd p) (fun e =>
          e.roles.sessions = d.roles.sessions.filter (fun y => y.bank != p.bank) ∧
          d.agrees e journalKeys ∧ e = { d with regs := e.regs, acc := e.acc, roles := e.roles })) ∧
        (ended = false → s.leads (.sessionIdleEnd p) (fun e => e = d))) ∧
       (d.locked p.bank = true → s.leads (.lockoutEnd p) (fun e => e = d)) ∧
       (d.locked p.bank = false → s.leads (.lockoutEnd p) (fun e => assoc e.roles.lockouts p.bank = none ∧
         (∀ b, b ≠ p.bank → assoc e.roles.lockouts b = assoc d.roles.lockouts b) ∧
         e = { d with roles := { d.roles with lockouts := e.roles.lockouts } }))) ∧
     s.leads .endpointIdAssigned (fun e =>
       e.roles.sessions = d.roles.sessions.filter (fun y => y.bank != 4) ∧
       e.roles.challenges = d.roles.challenges.filter (fun x => x.bank != 4) ∧
       (∀ page, assoc e.acc.holds (4, page) = none) ∧
       (∀ b page, b ≠ 4 → assoc e.acc.holds (b, page) = assoc d.acc.holds (b, page)) ∧
       d.agrees e journalKeys ∧ e = { d with regs := e.regs, acc := e.acc, roles := e.roles }))

/-- Keys are enrolled and revoked, signed objects installed and the journal flushed into the serial store, or refused in order.
For every state of an awake device, over a path whose command is performed. ENROL reads back BUSY (1) in a swap, in RECOVERY
and where its records overfill the journal, BAD_ARG (5) for a class or slot that is none or ACTIVE, ROLE (4) below the
enrolling role, DMA_ERR (8) for a key not read, BAD_KEY (6) for another OID, SSTORE (9) when the write is made on no device,
else 0 and the slot is ACTIVE with the key read, in the copies of the devices that took it. REVOKE likewise, LAST (7) for the
last ACTIVE maker key, else 0, the slot is REVOKED and a maker slot’s fuse blown. Either ends every session of that key and
journals it. INSTALL_FW, INSTALL_SET and INSTALL_IDENTITY read back BUSY in a swap and in the Notch of an install, ROLE (4)
for an identity without the maker role, DMA_ERR (5), then 6 to 11 by the first of checks 3 to 8 that fails (order 6: XMSS
under the signer’s key), 12 for a failed write, each with the refused event and the store as it was; else 0: the object
stands in the slot that is not active and in the copies that took it, valid with its GENERATION, a settings package active
from the next start, journaled. JOURNAL_FLUSH of n puts the n oldest buffered records behind those of each device that takes
them, in sectors of at most 682 under headers, the oldest of 464 making room; records that waited take their places; a failed
program is counted with reason 7 and leaves the copy. No other slot, key or page changes. The model’s choices, log entries 94
and 129 (keys and signatures), 100 (records of an install, arguments), 124 (an install’s Notch), 130 (a failed read), 138 and
139 (records that wait, copies). (R513, R523, R526, R527, R528, R537, R540, R541, R542, R543, R544, R545) -/
def Obligations.KeysObjectsAndTheJournalReachTheStore : Prop :=
  ∀ (s : State), s.dev.awake = true →
    (let d := s.dev
     let outside := fun (e : Dev) => (∀ k : Key, k.sp ≠ .HDR → k.sp ≠ .HEALTH → k.sp ≠ .SSTORE → k.sp ≠ .ROLE → e.word k = d.word k) ∧
       e = { d with regs := e.regs, acc := e.acc, errs := e.errs, out := e.out, health := e.health, roles := e.roles, store := e.store }
     let takes := fun (f0 f1 : Bool) (k : Nat) => d.storeUsed k && !(if k = 0 then f0 else f1)
     let copies := fun (e : Dev) (f0 f1 : Bool) (C : StoreCopy → StoreCopy → Prop) => ∀ k, k < 2 →
       (takes f0 f1 k = true → C (d.storeCopy k) (e.storeCopy k)) ∧ (takes f0 f1 k = false → e.storeCopy k = d.storeCopy k)
     let full := fun (cmd : Key) (x : Instr) (status : Fld) => s.leads x (fun e => e.get status = 1 ∧
       d.agrees e [cmd, fldKey R.ROLE_JOURNAL_STAT_REFUSED 0 0] ∧ e = { d with regs := e.regs, acc := e.acc })
     (∀ (p : Path) (cls slot : Nat) (data : Option (List Byte)) (w : StoreWrite), cls < 4 → slot < 16 → d.accepts p pgROLE = true →
       (let cmd := fldKey R.ROLE_KEY_CMD_CODE 0 0
        let en := Instr.enrol p cls slot data w
        let re := Instr.revoke p cls slot w
        let refusedFrom := fun (base : Dev) (x : Instr) (st : Nat) => s.leads x (fun e => e.get R.ROLE_KEY_CMD_STATUS = st ∧
          e.store = d.store ∧ e.roles.sessions = (d.touch p).roles.sessions ∧ base.agrees e (cmd :: journalKeys) ∧ e.errs = base.errs ∧
          e.health = d.health)
        let refused := refusedFrom d
        let made : Bool := takes w.fail0 w.fail1 0 || takes w.fail0 w.fail1 1
        let changed := fun (x : Instr) (kind blown : Nat) (key : KeySlot → Prop) =>
         (1024 < d.roles.buffer.length + 1 + bit (d.journals p true) → full cmd x R.ROLE_KEY_CMD_STATUS) ∧
         (d.roles.buffer.length + d.roles.sessions.length + 2 ≤ 1024 → s.leads x (fun e => e.get R.ROLE_KEY_CMD_STATUS = 0 ∧
          (e.get R.ROLE_EVENTS).testBit 4 = true ∧ key (e.keySlot cls slot) ∧ e.store = { d.store with keys := e.store.keys, blown := blown, copy0 := e.store.copy0, copy1 := e.store.copy1 } ∧
          copies e w.fail0 w.fail1 (fun c c' => c' = ({ c with keys := e.store.keys }).erase 0x40000) ∧
          (∀ n, n ≠ 8 * cls + slot → assoc e.store.keys n = assoc d.store.keys n) ∧
          e.roles.sessions = (d.touch p).roles.sessions.filter (fun y =>
            !(d.roles.sessions.any (fun x => x.role == cls && x.slot == slot && x.bank == y.bank))) ∧
          (∃ r ∈ e.roles.buffer, r.kind = kind ∧ r.page = pgROLE ∧ r.path = p.num) ∧ outside e))
        let lost := fun (x : Instr) => s.leads x (fun e => e.get R.ROLE_KEY_CMD_STATUS = 9 ∧ e.store = d.store ∧
          e.roles.sessions = (d.touch p).roles.sessions ∧ outside e)
        let slots := if cls = 1 then 8 else 4
        (d.stage = bsSwapping ∨ d.stage = bsRecovery → refused en 1 ∧ refused re 1) ∧
        (d.stage ≠ bsSwapping → d.stage ≠ bsRecovery →
          (cls = 0 ∨ cls = 3 ∨ slots ≤ slot → refused en 5) ∧
          (cls = 0 ∨ slots ≤ slot → refused re 5) ∧
          (1 ≤ cls → slot < slots →
            (cls < 3 → rolePasses (d.role p) (cls + 1) = false → refused en 4) ∧
            (cls < 3 → rolePasses (d.role p) (cls + 1) = true →
              (d.keyActive cls slot = true → refused en 5) ∧
              (d.keyActive cls slot = false →
                (let src := d.sourceBytes p (d.get R.ROLE_KEY_ADDR) 68 data
                 (src = none → refusedFrom (d.noteRead p data.isNone (d.get R.ROLE_KEY_ADDR)) en 8) ∧
                 (∀ key, src = some key →
                   (key.take 4 ≠ xmssOid → refused en 6) ∧
                   (key.take 4 = xmssOid →
                     (made = false → lost en) ∧
                     (made = true →
                       changed en 7 d.store.blown (fun k => k.state = 1 ∧ k.key = key ∧ k.seq = d.get R.ROLE_JOURNAL_SEQ))))))) ∧
            (let need := min 3 (cls + 1)
             (rolePasses (d.role p) need = false → refused re 4) ∧
             (rolePasses (d.role p) need = true →
               (d.keyActive cls slot = false → refused re 5) ∧
               (d.keyActive cls slot = true →
                 (let last : Bool := cls == 3 && ((List.range 4).filter (fun k => d.keyActive 3 k)).length == 1
                  (last = true → refused re 7) ∧
                  (last = false →
                    (made = false → lost re) ∧
                    (made = true →
                      changed re 8 (if cls = 3 then d.store.blown ||| 2 ^ slot else d.store.blown)
                        (fun k => k.state = 2 ∧ k.key = (d.keySlot cls slot).key))))))))))) ∧
     (∀ (p : Path) (src : Nat) (data : Option (List Byte)) (w0 w1 : DeviceWrite), src < 2 → d.accepts p pgSSTORE = true →
       (let install := fun (type : Nat) => if type = 1 then Instr.installFw p src data w0 w1
          else if type = 2 then .installSet p src data w0 w1 else .installIdentity p src data w0 w1
        let verifies := fun (b : List Byte) => xmssVerify (d.keySlot (objClass b) (objSlot b)).key (b.take (b.length - 2824))
          ((b.drop (b.length - 2824)).take 2820)
        ∀ type, 1 ≤ type → type ≤ 3 →
          (let cmd := fldKey R.SSTORE_CMD_CODE 0 0
           let endsFrom := fun (base : Dev) (st : Nat) => s.leads (install type) (fun e => e.get R.SSTORE_CMD_STATUS = st ∧
             e.store = d.store ∧ (1 < st → (e.get R.SSTORE_EVENTS).testBit 1 = true) ∧
             base.agrees e (cmd :: fldKey R.SSTORE_EVENTS 0 0 :: journalKeys) ∧ e.errs = base.errs ∧ e.health = d.health)
           let ends := endsFrom d
           let swap : Bool := d.stage == bsSwapping || (d.stage == bsRecovery && type != 1) || d.installNow (fun _ => true)
           (swap = true → ends 1) ∧
           (swap = false →
             (type = 3 → rolePasses (d.role p) 3 = false → ends 4) ∧
             (type ≠ 3 ∨ rolePasses (d.role p) 3 = true →
               (d.installSource p src data = none →
                 endsFrom (if src = 1 then d else d.noteRead p data.isNone (d.get R.SSTORE_SRC_ADDR)) 5) ∧
               (∀ b, d.installSource p src data = some b →
                 (headerOk type b = false → ends 6) ∧
                 (headerOk type b = true →
                   (d.targetOk b = false → ends 7) ∧
                   (d.targetOk b = true →
                     (d.signerOk b = false → ends 8) ∧
                     (d.signerOk b = true →
                       (verifies b = false → ends 9) ∧
                       (verifies b = true →
                         (d.generationOk b = false → ends 10) ∧
                         (d.generationOk b = true →
                           (type = 2 → d.bodyOk b = false → ends 11) ∧
                           (type ≠ 2 ∨ d.bodyOk b = true →
                             (takes w0.fails w1.fails 0 = false ∧ takes w0.fails w1.fails 1 = false → s.leads (install type) (fun e =>
                               e.get R.SSTORE_CMD_STATUS = 12 ∧ (e.get R.SSTORE_EVENTS).testBit 1 = true ∧
                               ((d.storeUsed 0 = true ∨ d.storeUsed 1 = true) → (e.get R.SSTORE_EVENTS).testBit 2 = true) ∧ e.store = d.store ∧
                               outside e)) ∧
                             (1024 < d.roles.buffer.length + 1 + bit (d.journals p true) →
                               takes w0.fails w1.fails 0 = true ∨ takes w0.fails w1.fails 1 = true →
                               full cmd (install type) R.SSTORE_CMD_STATUS) ∧
                             (d.roles.buffer.length + 1 + bit (d.journals p true) ≤ 1024 →
                               takes w0.fails w1.fails 0 = true ∨ takes w0.fails w1.fails 1 = true → s.leads (install type) (fun e =>
                               (let f := 1 - d.get R.SSTORE_FW_ACTIVE
                                let t := 1 - d.get R.SSTORE_SET_ACTIVE
                                e.get R.SSTORE_CMD_STATUS = 0 ∧ (e.get R.SSTORE_EVENTS).testBit 0 = true ∧
                                e.get R.SSTORE_FW_ACTIVE = d.get R.SSTORE_FW_ACTIVE ∧
                                e.get R.SSTORE_SET_ACTIVE = d.get R.SSTORE_SET_ACTIVE ∧
                                (∃ r ∈ e.roles.buffer, r.kind = 9 ∧ r.new = BitVec.ofNat 64 (objGen b)) ∧
                                (type = 1 → e.fwSlot f = b ∧ e.fwValid f = true ∧ e.get R.SSTORE_FW_GEN 0 f = objGen b ∧
                                  e.fwSlot (1 - f) = d.fwSlot (1 - f) ∧
                                  e.store = { d.store with fwA := e.store.fwA, fwB := e.store.fwB, copy0 := e.store.copy0, copy1 := e.store.copy1 } ∧
                                  copies e w0.fails w1.fails (fun c c' => (if f = 0 then c'.fwA = b ∧ c'.fwB = c.fwB else c'.fwB = b ∧ c'.fwA = c.fwA) ∧
                                    c' = { c with fwA := c'.fwA, fwB := c'.fwB, erases := c'.erases })) ∧
                                (type = 2 → e.setSlot t = b ∧ e.setValid t = true ∧ e.get R.SSTORE_SET_GEN 0 t = objGen b ∧
                                  e.setSlot (1 - t) = d.setSlot (1 - t) ∧
                                  e.store = { d.store with
                                    setA := e.store.setA, setB := e.store.setB, activeSet := t, copy0 := e.store.copy0, copy1 := e.store.copy1 } ∧
                                  copies e w0.fails w1.fails (fun c c' => (if t = 0 then c'.setA = b ∧ c'.setB = c.setB else c'.setB = b ∧ c'.setA = c.setA) ∧
                                    c' = { c with setA := c'.setA, setB := c'.setB, erases := c'.erases })) ∧
                                (type = 3 → e.store = { d.store with identity := b, copy0 := e.store.copy0, copy1 := e.store.copy1 } ∧
                                  copies e w0.fails w1.fails (fun c c' => c' = { c with identity := b, calibration := b, erases := c'.erases })) ∧
                                e.boot = { d.boot with installing := some (d.dial.notch, type) } ∧ outside { e with boot := d.boot }))))))))))))))) ∧
     (∀ (n : Nat) (w : StoreWrite),
       (let out := d.roles.buffer.take n
        let made : Bool := takes w.fail0 w.fail1 0 || takes w.fail0 w.fail1 1
        let rest := if made then d.roles.buffer.drop n else d.roles.buffer
        let room := 1024 - rest.length
        s.leads (.journalFlush n w) (fun e =>
          e.roles.buffer.take rest.length = rest ∧ e.roles.owed = d.roles.owed.drop room ∧
          (e.roles.buffer.drop rest.length).map (fun r => (r.notch, r.kind, r.path)) =
            (d.roles.owed.take room).map (fun r => (r.notch, r.kind, r.path)) ∧
          e.roles = { d.roles with buffer := e.roles.buffer, owed := e.roles.owed, storedChain := e.roles.storedChain,
                                   lastChain := e.roles.lastChain } ∧
          (d.roles.owed = [] → e.roles.lastChain = d.roles.lastChain ∧ ∀ k, k.sp = .ROLE → e.word k = d.word k) ∧
          (out = [] → e.roles.storedChain = d.roles.storedChain ∧ d.agrees e journalKeys ∧
            e = { d with regs := e.regs, acc := e.acc, roles := e.roles }) ∧
          (out ≠ [] → outside e ∧ e.store = { d.store with copy0 := e.store.copy0, copy1 := e.store.copy1 } ∧
            e.roles.storedChain = (if made then out.getLast?.map JRec.chain else d.roles.storedChain) ∧
            (∀ k, k < 2 → d.storeUsed k = true → takes w.fail0 w.fail1 k = false →
              (e.get R.SSTORE_EVENTS).testBit 2 = true ∧ (e.get R.HEALTH_REPLACE_REASONS).testBit 7 = true ∧
              e.get R.HEALTH_SSTORE_PE_FAIL 0 k = min 65535 (d.get R.HEALTH_SSTORE_PE_FAIL 0 k + 1)) ∧
            copies e w.fail0 w.fail1 (fun c c' =>
              (let all := c.records ++ out
               (∃ j, j ≤ all.length ∧ c'.records = all.drop j ∧
                 (c.journal.length + (out.length + 681) / 682 ≤ 464 → j = 0)) ∧
               (c.journal.length ≤ 464 → c'.journal.length ≤ 464) ∧
               ((∀ x ∈ c.journal, x.recs.length ≤ 682) → ∀ x ∈ c'.journal, x.recs.length ≤ 682) ∧
               ((∀ x ∈ c.journal, x.recs.head?.map JRec.seq = some x.seq) →
                 ∀ x ∈ c'.journal, x.recs.head?.map JRec.seq = some x.seq) ∧
               c' = { c with journal := c'.journal, begun := c'.begun, erases := c'.erases })))))))

/-- Requests over MCTP are lost, held or answered, and each answers with its status and its effect. For every state of an awake
device, bus and tag. Before the device serves MCTP, and longer than 8,192 bytes, a request changes nothing; during a firmware
swap it is held with those before it; else it is answered by one message, with an in-band interrupt on I3C, its session’s
idle time begins anew, and: GET_IDENTITY answers the endorsement object, BUSY (1) in RECOVERY. GET_REPORT answers BUSY in
RECOVERY, EXHAUSTED (13) past the last leaf, SSTORE (12) when a record of 256 leaves more is written on neither device, else
a report of 5,997 bytes with the nonce and the attestation key, signed with its next leaf, which is one higher then.
GET_CHALLENGE answers BAD_ARG (14), BUSY, LOCKED (7), or counter and nonce; OPEN, by whether its XMSS signature verifies,
opens the session of a fresh challenge; CLOSE ends it or answers NO_SESSION (10); these read BUSY where the journal has no
room for their records. REG_READ, REG_WRITE and STAGE_CHUNK answer NO_SESSION without a session, else the register’s value,
ROLE (9) where a role error was recorded, and BAD_ARG for a chunk of 0 or more than 1,024 bytes or past the area, else its
bytes stand there. PLDM_FIRMWARE_UPDATE needs the installer role, a free journal and no install in its Notch, and installs as
INSTALL_FW. Sensors answer their readings; SET_EVENT_RECEIVER stores the receiver; POLL_FOR_PLATFORM_EVENT takes the oldest
held event. The model’s choices, log entries 78 and 129 (XMSS), 82 (when MCTP is served), 94, 101 and 102 (sessions, PLDM’s
form, the vendor), 139 (copies) and 47 (received data). (R517, R537, R545, R546, R547, R549, R550, R551, R553, R565, R574,
R625) -/
def Obligations.ManagementMessagesAreServed : Prop :=
  ∀ (s : State) (bus : MctpBus) (tag : Nat), s.dev.awake = true →
    (let d := s.dev
     let p := Path.mctp bus
     let a := d.arrives (mctpSource bus)
     let t := a.touch p
     let reply := fun (code st : Nat) (payload : List Byte) =>
       [0x7E, Config.vendorId 0, Config.vendorId 1, BitVec.ofNat 8 (code + 128), BitVec.ofNat 8 tag, BitVec.ofNat 8 st, 0, 0] ++ payload
     let bell := if bus = .i3c then [Out.inBand] else []
     let requests := fun (x : Instr) (q : MctpReq) (n size : Nat) =>
       (d.barOpen p = false ∨ 8192 < size → s.leads x (fun e => e = d)) ∧
       (d.barOpen p = true → size ≤ 8192 → d.stage = bsSwapping → s.leads x (fun e =>
         e = { a with roles := { d.roles with held := d.roles.held ++ [(bus, (n, q))] } }))
     (∀ (nonce : List Byte) (w : StoreWrite) (role slot page off id eid : Nat) (data : Word) (bytes : List Byte) (w0 w1 : DeviceWrite) (m : Int),
       requests (.getIdentity bus tag) .getIdentity tag 8 ∧ requests (.getReport bus tag nonce w) (.getReport nonce w) tag (8 + nonce.length) ∧
       requests (.getChallenge p tag role slot) (.getChallenge role slot) tag 10 ∧
       requests (.open_ p tag (some bytes)) (.openSession bytes) tag (8 + bytes.length) ∧ requests (.close p tag) .close tag 8 ∧
       requests (.regRead bus tag page off) (.regRead page off) tag 12 ∧
       requests (.regWrite bus tag page off data) (.regWrite page off data) tag 20 ∧
       requests (.stageChunk bus tag off bytes) (.stageChunk off bytes) tag (12 + bytes.length) ∧
       requests (.pldmFirmwareUpdate bus bytes w0 w1) (.firmware bytes (.both w0 w1)) 0 0 ∧
       requests (.getSensorReading bus id m) (.sensor id m) 0 0 ∧ requests (.setEventReceiver bus eid) (.setReceiver eid) 0 0 ∧
       requests (.pollForPlatformEvent bus) .pollEvent 0 0) ∧
     (d.barOpen p = true → d.stage ≠ bsSwapping →
       (let tells := fun (x : Instr) (base : Dev) (msg : List Byte) => s.leads x (fun e =>
          e = { base with out := base.out ++ bell ++ [.message p msg] })
        let leaf := d.get R.ROLE_ATTEST_LEAF_NEXT
        let full : Bool := leaf == d.get R.ROLE_ATTEST_RES_END
        (d.stage = bsRecovery → tells (.getIdentity bus tag) t (reply 1 1 []) ∧
          (∀ nonce w, nonce.length ≤ 8184 → tells (.getReport bus tag nonce w) t (reply 2 1 [])) ∧
          (∀ slot, tells (.getChallenge p tag 1 slot) t (reply 0x10 1 []))) ∧
        (d.stage ≠ bsRecovery → tells (.getIdentity bus tag) t (reply 1 0 d.store.identity) ∧
          (∀ nonce w, nonce.length ≤ 8184 →
            (let made : Bool := (d.storeUsed 0 && !w.fail0) || (d.storeUsed 1 && !w.fail1)
            (2 ^ 40 ≤ leaf → tells (.getReport bus tag nonce w) t (reply 2 13 [])) ∧
            (leaf < 2 ^ 40 → full = true → made = false → s.leads (.getReport bus tag nonce w) (fun e =>
              e.out.getLast? = some (.message p (reply 2 12 [])) ∧ e.get R.ROLE_ATTEST_LEAF_NEXT = leaf ∧
              e.get R.ROLE_ATTEST_RES_END = leaf ∧ e.store = d.store)) ∧
            (leaf < 2 ^ 40 → full = false ∨ made = true → s.leads (.getReport bus tag nonce w) (fun e =>
              e.get R.ROLE_ATTEST_LEAF_NEXT = leaf + 1 ∧
              (full = true → e.get R.ROLE_ATTEST_RES_END = leaf + 256 ∧
                e.store = { d.store with copy0 := e.store.copy0, copy1 := e.store.copy1 } ∧
                (∃ b : List Byte, b.length = 64 ∧ b.take 16 = [0x4B, 0x58, 0x53, 0x52, 0, 0, 0, 0] ++ leBytes 8 (leaf + 256) ∧
                  (b.drop 56).take 4 = leBytes 4 (crc32c (b.take 56)) ∧
                  ∀ k, k < 2 →
                    (d.storeUsed k = true → (if k = 0 then w.fail0 else w.fail1) = false →
                      e.storeCopy k = (d.storeCopy k).reserve b ∧ (e.storeCopy k).signing.getLast? = some b) ∧
                    (d.storeUsed k = false ∨ (if k = 0 then w.fail0 else w.fail1) = true → e.storeCopy k = d.storeCopy k))) ∧
              (full = false → e.store = d.store ∧ d.agrees e [fldKey R.ROLE_ATTEST_LEAF_NEXT 0 0]) ∧
              e.roles = t.roles ∧
              (∃ report, e.out.getLast? = some (.message p (reply 2 0 report)) ∧ report.length = 5997 ∧
                report.take 8 = [0x4B, 0x58, 0x41, 0x52, 1, 0, 0x6D, 0x17] ∧
                (nonce.length = 32 → (report.drop 8).take 32 = nonce) ∧
                (report.drop 0x140).take 68 = (XmssSeeds.ofBytes d.secretSeeds).publicKey ∧
                report.drop 392 = (XmssSeeds.ofBytes d.secretSeeds).sign leaf (report.take 392))))))) ∧
        (∀ role slot, role = 0 ∨ 3 < role → tells (.getChallenge p tag role slot) t (reply 0x10 14 [])) ∧
        (∀ role slot, 1 ≤ role → role ≤ 3 → d.stage ≠ bsRecovery ∨ role ≠ 1 →
          (d.locked 4 = true → d.journalFull = true → tells (.getChallenge p tag role slot) t.journalRefuse (reply 0x10 1 [])) ∧
          (d.locked 4 = true → d.journalFull = false → s.leads (.getChallenge p tag role slot) (fun e =>
            e.out = d.out ++ bell ++ [.message p (reply 0x10 7 [])] ∧ e.store = d.store ∧ e.roles.challenges = d.roles.challenges ∧
            d.agrees e journalKeys)) ∧
          (d.locked 4 = false → s.leads (.getChallenge p tag role slot) (fun e =>
            e.out = d.out ++ bell ++ [.message p (reply 0x10 0 (leBytes 8 (BitVec.ofNat 64 (d.store.counter + 1)).toNat ++
              (List.range 4).flatMap (fun k => leBytes 8 (Config.freeValue (d.fresh + k)).toNat)))] ∧
            e.store = { d.store with counter := d.store.counter + 1 } ∧
            (∃ c : Challenge, e.roles.challenges = d.roles.challenges.filter (fun x => x.bank != 4) ++ [c] ∧
              c.bank = 4 ∧ c.role = role ∧ c.slot = slot ∧ c.counter = d.store.counter + 1 ∧ c.notch = d.dial.notch)))) ∧
        (∀ c : Challenge, d.roles.challenges.find? (fun x => x.bank == 4) = some c →
          d.dial.notch < c.notch + 937500000 → d.keyActive c.role c.slot = true →
          c.role ≠ 3 ∨ d.roles.sessions.any (fun x => x.role == 3 && x.bank != 4) = false →
          (let r := t.openJudged p (some true)
           r.2 = 0 ∧ r.1.role p = c.role ∧ r.1.roles.staging = [] ∧ (r.1.get R.ROLE_EVENTS).testBit 0 = true ∧
            (∀ b, b ≠ 4 → r.1.session b = d.session b) ∧ d.agrees r.1 journalKeys)) ∧
        (∀ sig : List Byte, sig.length ≤ 8184 → (let c := d.roles.challenges.find? (fun x => x.bank == 4)
          let ok : Bool := c.any (fun c => xmssVerify (d.keySlot c.role c.slot).key (d.openMessage p c) sig)
          let r := t.openJudged p (some ok)
          let fits := r.1.roles.buffer.length ≤ max 1024 d.roles.buffer.length
          (fits → tells (.open_ p tag (some sig)) r.1 (reply 0x11 r.2 [])) ∧
          (¬ fits → tells (.open_ p tag (some sig)) t.journalRefuse (reply 0x11 1 [])))) ∧
        (d.session 4 = none →
          tells (.close p tag) t (reply 0x12 10 []) ∧
          (∀ page off data bytes, tells (.regRead bus tag page off) t (reply 0x13 10 []) ∧
            tells (.regWrite bus tag page off data) t (reply 0x14 10 []) ∧
            (bytes.length ≤ 8180 → tells (.stageChunk bus tag off bytes) t (reply 0x15 10 [])))) ∧
        ((d.session 4).isSome = true →
          (d.journalFull = true → tells (.close p tag) t.journalRefuse (reply 0x12 1 [])) ∧
          (d.journalFull = false → s.leads (.close p tag) (fun e => e.out = d.out ++ bell ++ [.message p (reply 0x12 0 [])] ∧
            e.session 4 = none ∧ d.agrees e journalKeys)) ∧
          (∀ page off, (let r := t.busRead p page off true
            tells (.regRead bus tag page off) r.2 (reply 0x13 0 (leBytes 8 r.1.toNat)))) ∧
          (∀ page off data, (let u := t.accessWrite p page off true data
            tells (.regWrite bus tag page off data) u (reply 0x14 (if t.roleErrors < u.roleErrors then 9 else 0) []))) ∧
          (∀ off bytes,
            (bytes.length ≤ 8180 → bytes = [] ∨ 1024 < bytes.length ∨ 0x1000000 < off + bytes.length →
              tells (.stageChunk bus tag off bytes) t (reply 0x15 14 [])) ∧
            (bytes ≠ [] → bytes.length ≤ 1024 → off + bytes.length ≤ 0x1000000 →
              s.leads (.stageChunk bus tag off bytes) (fun e =>
                e = { t with roles := { t.roles with staging := e.roles.staging }, out := t.out ++ bell ++ [.message p (reply 0x15 0 [])] } ∧
                e.roles.staging.bytes off bytes.length = bytes ∧
                (∀ a, a < off ∨ off + bytes.length ≤ a → e.roles.staging.byte a = d.roles.staging.byte a))))) ∧
        (∀ image w0 w1, (let x := Instr.pldmFirmwareUpdate bus image w0 w1
          (d.role p < 2 → tells x t [10]) ∧
          (2 ≤ d.role p → d.journalFull = true → tells x t.journalRefuse [1]) ∧
          (2 ≤ d.role p → d.journalFull = false → d.installNow (fun _ => true) = true → tells x t [1]) ∧
          (2 ≤ d.role p → d.journalFull = false → d.installNow (fun _ => true) = false → (let r := t.install p 1 image (.both w0 w1)
            tells x r.1 [BitVec.ofNat 8 r.2])))) ∧
        (∀ id m, (let word := fun (v : Int) => [BitVec.ofNat 8 id] ++ leBytes 4 (unsigned 32 v)
          (let x := Instr.getSensorReading bus id m
           (id = 1 → tells x t (word (match d.health.temps with | [] => m | v :: _ => v))) ∧
           (2 ≤ id → id ≤ 5 → tells x t (word m)) ∧
           (id = 6 → tells x t (word (d.get R.HEALTH_STATUS_POWER_W))) ∧
           (id = 7 → tells x t (word ((List.range 12).countP (fun f => !(d.get R.HEALTH_PHASES_FAILED_MAP).testBit f)))) ∧
           (id = 0 ∨ 7 < id → tells x t [])))) ∧
        (∀ eid, tells (.setEventReceiver bus eid) { t with health := { t.health with receiver := some (bus, eid) } } []) ∧
        (d.health.events = [] → tells (.pollForPlatformEvent bus) t []) ∧
        (∀ x rest, d.health.events = x :: rest →
          tells (.pollForPlatformEvent bus) { t with health := { t.health with events := rest } } x))))

/-- POWER_ON, ROM, FIRMWARE, SETTINGS, GLENS and SERVICE lead from reset to service, and a fall of the supply ends it. For every
state. POWER_ON of a device without supply that has not tripped makes the device as after reset: Notch 0, stage ROM, every
register at its reset value but CAUSE (0), the strapped POWER_W, the rollback floor, the wear of the serial store and,
without host port B, what follows from that; the serial store, journal included, stays; else it changes nothing. UNDERVOLTAGE
takes the supply and the wake detector’s settings, releases the outputs, and in the Notch of an install leaves the slot
written empty and the one before in use, in that of a phase failure the phase in the health record or not. For an awake
device each stage’s command changes nothing in another stage. ROM, where no settings slot names a host page, uses the devices
whose SFDP fits, reads keys, a maker key that its fuses do not match being REVOKED, identity, health record, the largest END
of the signing state and the journal’s last record from the copies that check, chooses the settings slot, makes the RESTART
record, and its fitted ports with PERST# released train; the stage reads FIRMWARE in every case. FIRMWARE marks the firmware
slots that check, runs the committed one or the other, else enters RECOVERY. SETTINGS without a valid slot writes T_SET and
the stage alone. GLENS puts the start image into every slot, the passing Glens in turn into service, marks the others FAILED.
SERVICE sets the stage, T_SERVICE, its event and the kept reasons, and the watchdog counts from then. The model’s choices,
log entries 5 and 106 (values, stages), 16 and 94 (serial, fuses), 27 (Glens), 78, 124 and 127 (torn writes), 129, 139
(copies). (R125, R513, R538, R548, R559, R561, R564, R565, R566, R567, R568, R608) -/
def Obligations.TheStartRunsThroughItsStages : Prop :=
  ∀ (s : State),
    (let d := s.dev
     (∀ strap,
       (d.boot.off = false ∨ d.boot.tripped = true → s.leads (.powerOn strap) (fun e => e = d)) ∧
       (d.boot.off = true → d.boot.tripped = false → s.leads (.powerOn strap) (fun e =>
         e = { variant := d.variant, out := e.out, fresh := d.fresh, regs := e.regs, start := e.regs,
               store := { d.store with reasons := e.store.reasons, floor := max d.store.floor (d.get R.SSTORE_FW_FLOOR) },
               wake := e.wake, host := { links := e.host.links },
               boot := { strap := strap % 4 } } ∧
         e.wake.standby = false ∧ e.stage = bsRom ∧ e.get R.BOOT_STATUS_CAUSE = 0 ∧
         e.get R.HEALTH_STATUS_POWER_W = d.variant.powerMax * nth [55, 70, 85, 100] (strap % 4) 100 / 100 ∧
         (∀ p, (e.link p).training = false ∧ (e.link p).perst = (d.link p).perst) ∧
         (∀ k, k < 2 → e.get R.HEALTH_SSTORE_WEAR 0 k = d.get R.HEALTH_SSTORE_WEAR 0 k ∧
           e.get R.HEALTH_SSTORE_PE_FAIL 0 k = d.get R.HEALTH_SSTORE_PE_FAIL 0 k) ∧
         (∀ k : Key, k ∉ [fldKey R.BOOT_STATUS_CAUSE 0 0, fldKey R.HEALTH_STATUS_POWER_W 0 0, fldKey R.SSTORE_FW_FLOOR 0 0,
           fldKey R.HEALTH_HBM_VISIBLE 0 1, fldKey R.HOST_LINK_CFG_VF_TOTAL 0 0, fldKey R.HEALTH_SSTORE_WEAR 0 0,
           fldKey R.HEALTH_SSTORE_WEAR 0 1] → e.word k = resetWord k)))) ∧
     s.leads .undervoltage (fun e =>
       e = { d with dial := { d.dial with ppsOut := false }, health := { d.health with alert := false }, wake := { },
                    boot := { d.boot with off := true, tripped := false }, out := e.out, store := e.store, fresh := e.fresh } ∧
       (d.awake = false → e.store = d.store ∧ e.fresh = d.fresh) ∧
       ((∀ f, d.health.phaseAt ≠ some (f, d.dial.notch)) → e.store.phases = d.store.phases ∧ e.fresh = d.fresh) ∧
       (∀ f, d.health.phaseAt = some (f, d.dial.notch) →
         e.store.phases = d.store.phases ∨ e.store.phases = d.store.phases &&& (2 ^ 12 - 1 - 2 ^ f)) ∧
       (d.installNow (fun t => t == 1 || t == 2) = false → e.store = { d.store with phases := e.store.phases }) ∧
       (∀ n, d.awake = true → d.boot.installing = some (d.dial.notch, 1) → n = 1 - d.get R.SSTORE_FW_ACTIVE → e.fwSlot n = [] ∧
         e.fwSlot (1 - n) = d.fwSlot (1 - n) ∧ e.store = { d.store with fwA := e.store.fwA, fwB := e.store.fwB, phases := e.store.phases }) ∧
       (∀ n, d.awake = true → d.boot.installing = some (d.dial.notch, 2) → n = 1 - d.get R.SSTORE_SET_ACTIVE → e.setSlot n = [] ∧
         e.setSlot (1 - n) = d.setSlot (1 - n) ∧
         e.store = { d.store with setA := e.store.setA, setB := e.store.setB, activeSet := 1 - n, phases := e.store.phases }) ∧
       (d.health.alert = true → Out.pin "THERM_ALERT#" true ∈ e.out) ∧
       (d.get R.HEALTH_REPLACE_REASONS ≠ 0 → Out.pin "REPLACE_REQ#" true ∈ e.out) ∧ (∀ o ∈ d.out, o ∈ e.out)) ∧
     (d.awake = true →
       (∀ r : RomReads,
         (let rom := Instr.rom r
          let sound := fun (x : Sfdp) => decide (512 ≤ x.mbit) && x.sector == 65536 && x.page == 256
          let u0 : Bool := r.present.1 && sound r.sfdp.1
          let u1 : Bool := r.present.2 && sound r.sfdp.2
          let pick := fun (u0 u1 : Bool) (c : RegionCopy) (check : StoreCopy → Bool) =>
            if (c == .first && u0 && check d.store.copy0) = true then some d.store.copy0
            else if (c != .neither && u1 && check d.store.copy1) = true then some d.store.copy1 else none
          let mode := fun (x : Sfdp) => if x.octal8D8D8D then 2 else if x.octal1S8D8D then 1 else 0
          let setOf := fun (n : Nat) (c : StoreCopy) => if n = 0 then c.setA else c.setB
          let slotOf := fun (c : StoreCopy) (n : Nat) => (assoc c.keys n).getD { }
          (d.stage ≠ bsRom → s.leads rom (fun e => e = d)) ∧
          (d.stage = bsRom → s.leads rom (fun e => e.stage = bsFirmware)) ∧
          (d.stage = bsRom → d.store.activeSet < 2 → d.store.committed < 2 →
            (∀ k n, k < 2 → n < 2 → ∀ x ∈ setEntries (setOf n (d.storeCopy k)), x.isHost = false) → s.leads rom (fun e =>
            (let kc := pick u0 u1 r.keys (fun _ => true)
             let ic := pick u0 u1 r.identity (fun c => e.objectChecks 3 c.identity)
             let health : Bool := (pick u0 u1 r.health (fun _ => true)).isSome
             let set := fun (n : Nat) => pick u0 u1 (if n = 0 then r.setA else r.setB) (fun c => e.objectChecks 2 (setOf n c))
             let valid := fun (n : Nat) => (set n).isSome = true
             let a := d.store.activeSet
             let ends := (((if r.signing.1 && u0 then d.store.copy0.signing else []) ++
               (if r.signing.2 && u1 then d.store.copy1.signing else [])).filterMap reservedEnd).foldl max 0
             let last := latestOf ((if r.journal.1 && u0 then (d.store.copy0.latest r.badRecords.1).toList else []) ++
               (if r.journal.2 && u1 then (d.store.copy1.latest r.badRecords.2).toList else []))
             let second := fun (c : RegionCopy) (check : StoreCopy → Bool) =>
               (c == .first && u0 && check d.store.copy0) = false ∧ (c != .neither && u1 && check d.store.copy1) = true
             (∀ cls slot, cls < 3 → slot < 8 → e.keySlot cls slot = kc.elim { } (fun c => slotOf c (8 * cls + slot))) ∧
             (∀ slot, slot < 4 → (let x := slotOf (kc.getD d.store.copy0) (24 + slot)
               let fused : Bool := shake256 x.key 32 == d.store.makerHash.getD slot [] && !d.store.blown.testBit slot
               e.keySlot 3 slot = if x.state = 1 ∧ fused = false then { x with state := 2 } else x)) ∧
             (e.boot.nominal = false ↔ ic.isSome = true) ∧ e.store.identity = (ic.getD d.store.copy0).identity ∧
             e.store.seeds = (ic.getD d.store.copy0).seeds ∧
             e.get R.HEALTH_PHASES_FAILED_MAP = (if health then d.store.phases % 2 ^ 12 else 0) ∧
             e.get R.BOOT_STATUS_COMMITTED_SLOT = (if health then d.store.committed else 0) ∧
             e.get R.ROLE_ATTEST_LEAF_NEXT = ends % 2 ^ 41 ∧ e.get R.ROLE_ATTEST_RES_END = ends % 2 ^ 41 ∧
             (∀ k, k < 2 → e.readWord .firmware pgROLE (29 + k) =
               BitVec.ofNat 64 (leNat (((shake256 e.secretSeeds 16).drop (8 * k)).take 8))) ∧
             e.roles.storedChain = last.map JRec.chain ∧
             (∃ x, e.roles.buffer = [x] ∧ x.kind = 10 ∧ x.role = 4 ∧ x.seq = (last.elim 0 (fun y => y.seq + 1)) % 2 ^ 64 ∧
               x.chain = x.link ((last.map JRec.chain).getD (shake256 (auditTag ++ d.serialBytes) 32))) ∧
             (∀ k, k < 2 → e.storeCopy k = (if last = none then { d.storeCopy k with journal := [], begun := 0 } else d.storeCopy k)) ∧
             (∀ b, 2 ≤ b → b ≤ 4 → e.word ⟨.ROLE, b, 14⟩ = BitVec.ofNat 64 d.store.counter) ∧
             (∀ n, n < 2 → (e.setValid n = true ↔ valid n) ∧ e.setSlot n = setOf n ((set n).getD d.store.copy0)) ∧
             (valid a → e.get R.SSTORE_SET_ACTIVE = a ∧ e.store.activeSet = a) ∧
             (¬ valid a → valid (1 - a) → e.get R.SSTORE_SET_ACTIVE = 1 - a ∧ e.store.activeSet = 1 - a ∧
               e.get R.BOOT_STATUS_SET_FALLBACK = 1 ∧ (e.get R.BOOT_EVENTS).testBit 4 = true) ∧
             (¬ valid a → ¬ valid (1 - a) → e.get R.BOOT_STATUS_SET_NONE = 1 ∧ e.get R.SSTORE_SET_ACTIVE = a) ∧
             (second r.keys (fun _ => true) ∨ second r.identity (fun c => e.objectChecks 3 c.identity) ∨
               second r.health (fun _ => true) ∨ second r.setA (fun c => e.objectChecks 2 c.setA) ∨
               second r.setB (fun c => e.objectChecks 2 c.setB) → (e.get R.SSTORE_EVENTS).testBit 3 = true) ∧
             e.get R.SSTORE_DEV_PRESENT 0 0 = bit r.present.1 ∧ e.get R.SSTORE_DEV_PRESENT 0 1 = bit r.present.2 ∧
             e.storeUsed 0 = u0 ∧ e.storeUsed 1 = u1 ∧ e.boot.storeMode = (mode r.sfdp.1, mode r.sfdp.2) ∧
             (∀ p, p < 2 → (e.link p).training =
               ((d.hostFitted p && !(d.link p).perst) || (d.link p).training)) ∧
             e.dial = d.dial ∧ e.basin = d.basin ∧ e.mem = d.mem ∧ e.glens = d.glens))))) ∧
       (∀ ca cb,
         (let x := Instr.firmware ca cb
          let fwOf := fun (n : Nat) (c : StoreCopy) => if n = 0 then c.fwA else c.fwB
          let copy := fun (n : Nat) => (let c := if n = 0 then ca else cb
            if (c == .first && d.storeUsed 0 && d.objectChecks 1 (fwOf n d.store.copy0)) = true then some d.store.copy0
            else if (c != .neither && d.storeUsed 1 && d.objectChecks 1 (fwOf n d.store.copy1)) = true then some d.store.copy1
            else none)
          let ok : Nat → Bool := fun n => (copy n).isSome
          let a := d.store.committed
          let run : Option Nat := if d.boot.nominal then none else if ok a then some a else if ok (1 - a) then some (1 - a) else none
          (d.stage ≠ bsFirmware → s.leads x (fun e => e = d)) ∧
          (d.stage = bsFirmware → a < 2 → s.leads x (fun e =>
            e.fwValid 0 = ok 0 ∧ e.fwValid 1 = ok 1 ∧
            (∀ n, n < 2 → e.fwSlot n = fwOf n ((copy n).getD d.store.copy0) ∧
              e.get R.SSTORE_FW_GEN 0 n = objGen (e.fwSlot n)) ∧
            (run = none → e.stage = bsRecovery ∧ e.get R.SSTORE_FW_ACTIVE = d.get R.SSTORE_FW_ACTIVE) ∧
            (∀ n, run = some n → e.stage = bsSettings ∧ e.get R.SSTORE_FW_ACTIVE = n ∧
              e.get R.BOOT_STATUS_FW_FALLBACK = bit (n != a) ∧ e.get R.BOOT_T_STAGE1_T_FW = d.dial.notch % 2 ^ 32) ∧
            (∀ k : Key, k.sp ≠ .SSTORE → k.sp ≠ .BOOT → e.word k = d.word k) ∧
            e = { d with regs := e.regs, acc := e.acc, store := { d.store with fwA := e.store.fwA, fwB := e.store.fwB } })))) ∧
       (d.stage ≠ bsSettings → s.leads .settings (fun e => e = d)) ∧
       (d.stage = bsSettings → s.leads .settings (fun e => e.stage = bsGlens ∧
         e.get R.BOOT_T_STAGE1_T_SET = d.dial.notch % 2 ^ 32 ∧
         (d.setValid (d.get R.SSTORE_SET_ACTIVE) = false →
           d.agrees e [fldKey R.BOOT_STATUS_STAGE 0 0, fldKey R.BOOT_T_STAGE1_T_SET 0 0] ∧ e = { d with regs := e.regs }))) ∧
       (∀ failed, (let x := Instr.glens failed
         let good := (List.range d.variant.glensAll).filter (fun g => !failed.contains g)
         (d.stage ≠ bsGlens ∨ d.boot.serving = true → s.leads x (fun e => e = d)) ∧
         (d.stage = bsGlens → d.boot.serving = false → s.leads x (fun e =>
           e.boot = { d.boot with serving := true } ∧ e.stage = bsGlens ∧
           e.get R.BOOT_T_STAGE2_T_GLENS = d.dial.notch % 2 ^ 32 ∧
           (∀ k, k < d.variant.glensActive → (e.slot k).current = startImage ∧ (e.slot k).staged = (d.slot k).staged) ∧
           (∀ k g, k < d.variant.glensActive → good[k]? = some g → e.glState g = glService ∧ e.slState k = slService ∧
             e.get R.GPHYS_STATUS_SLOT g = k ∧ (e.glen g).code = imageCode startImage) ∧
           (∀ k g, d.variant.glensActive ≤ k → good[k]? = some g → e.glState g = glSpare) ∧
           (∀ g, g < d.variant.glensAll → failed.contains g = true → e.glState g = glFailed) ∧
           e.store = d.store ∧ e.roles = d.roles ∧ e.dial = d.dial ∧ e.basin = d.basin)))) ∧
       (d.stage ≠ bsGlens ∨ d.boot.serving = false → s.leads .service (fun e => e = d)) ∧
       (d.stage = bsGlens → d.boot.serving = true → s.leads .service (fun e => e.stage = bsService ∧
         e.get R.BOOT_T_STAGE2_T_SERVICE = d.dial.notch % 2 ^ 32 ∧ (e.get R.BOOT_EVENTS).testBit 0 = true ∧
         (∀ b, b < 10 → d.store.reasons.testBit b = true → (e.get R.HEALTH_REPLACE_REASONS).testBit b = true) ∧
         e.boot = { d.boot with wdogFrom := d.dial.notch } ∧
         e.wake.serviceAt = (if d.wake.pinLow then some d.dial.notch else none) ∧
         (∀ k : Key, k.sp ≠ .BOOT → k.sp ≠ .HEALTH → e.word k = d.word k) ∧
         e = { d with regs := e.regs, acc := e.acc, health := e.health, out := e.out, boot := e.boot, wake := e.wake }))))

/-- The control firmware is swapped, tried, committed and reverted, and the watchdog restarts it. For every state of an awake
device. Over a performed path SWAP_FW reads back BUSY (1) during a swap, BAD_IMAGE (5) for a slot that does not check,
BAD_STATE (6) in a trial and in the Notch of an INSTALL_FW, else PENDING (2) and step 1 begins: the stage reads SWAPPING.
COMMIT_FW and REVERT_FW read back BAD_STATE without a trial; COMMIT_FW else DONE, the running slot the committed one and the
trial over; REVERT_FW else PENDING and a restart on the committed slot with no trial. TRIAL_EXPIRY at the trial’s end and
WATCHDOG_EXPIRY 15,625,000 Notches after a kick revert likewise, the latter at once past step 2. The boundary of the Notch in
which the handover state is written, or FW_HANDOVER_TIMEOUT at 312,500 Notches, makes step 2: the slot runs, the control
cores stand as restarted, the restart is journaled. FW_RUNNING in time ends a swap: the stage as before, the watchdog afresh,
a swap opens its trial, its command reads DONE; after a revert REVERTED (7). A refusal, or SWAP_TIMEOUT 1,562,500 Notches
after step 2, reverts a swap. WDOG_KICK of the firmware counts and restarts the watchdog; of another path it is a role error.
Outside those conditions each changes nothing. The model’s choices, log entries 94 and 129 (checks), 103 (order, journal),
124 (an install), 137 (the handover’s Notch is free) and 138 (a full journal). (R522, R523, R565, R571, R572, R573, R574,
R578, R579, R588) -/
def Obligations.FirmwareSwapsTrialsAndTheWatchdog : Prop :=
  ∀ (s : State), s.dev.awake = true →
    (let d := s.dev
     let calm := fun (e : Dev) =>
       (∀ k : Key, k.sp ∉ [Space.BOOT, .SSTORE, .CTRLCORE, .HEALTH, .ROLE, .SRC, .HDR] → e.word k = d.word k) ∧
       e = { d with regs := e.regs, acc := e.acc, roles := e.roles, health := e.health, out := e.out, boot := e.boot, cmds := e.cmds,
                    control := e.control, glens := e.glens }
     let steps2 := fun (e : Dev) (old new : Nat) =>
       e.get R.SSTORE_FW_ACTIVE = new ∧ e.get R.BOOT_WDOG_KICKS = 0 ∧ e.get R.CTRLCORE_STOPPED_MAP = 0 ∧
       e.get R.HEALTH_STATUS_CTRL_STOPPED = 0 ∧
       (∀ c, c < 16 → assoc e.control.cores c = none ∧ assoc e.glens.threads (.ctrl c) = none) ∧
       (∃ r ∈ e.roles.buffer ++ e.roles.owed, r.kind = 12 ∧ r.old = BitVec.ofNat 64 old ∧ r.new = BitVec.ofNat 64 new)
     let active := d.get R.SSTORE_FW_ACTIVE
     let committed := d.store.committed
     let cmd := fldKey R.BOOT_CMD_CODE 0 0
     let given := d.dial.notch + 1 + (Config.freeValue d.fresh).toNat
     let reverts := fun (x : Instr) (old : Nat) (command : Bool) (stopped : Option Nat) (also : Dev → Prop) => s.leads x (fun e =>
       e.stage = bsSwapping ∧ e.get R.BOOT_STATUS_FW_TRIAL = 0 ∧ (e.get R.BOOT_EVENTS).testBit 2 = true ∧
       e.boot = { d.boot with trialEnd := none, swap := some (FwSwap.mk old committed command false d.dial.notch stopped given d.startStage) } ∧
       calm { e with fresh := d.fresh } ∧ e.fresh = d.fresh + 1 ∧ also e)
     (∀ (p : Path) (slot : Nat) (copy : RegionCopy), slot < 2 → d.accepts p pgBOOT = true →
       (let ends := fun (x : Instr) (st : Nat) => s.leads x (fun e => e.get R.BOOT_CMD_STATUS = st ∧ e.boot = d.boot ∧
          e.store = d.store ∧ d.agrees e (cmd :: journalKeys) ∧ calm e)
        let swapIt := Instr.swapFw p slot copy
        let held := fun (c : StoreCopy) => if slot = 0 then c.fwA else c.fwB
        let ok : Bool := (copy == .first && d.storeUsed 0 && d.objectChecks 1 (held d.store.copy0)) ||
          (copy != .neither && d.storeUsed 1 && d.objectChecks 1 (held d.store.copy1))
        let trial := d.flag R.BOOT_STATUS_FW_TRIAL
        let fresh := d.installNow (fun t => t == 1)
        (∀ x, d.boot.swap = some x → ends swapIt 1 ∧ ends (.revertFw p) 1 ∧
          ends (.commitFw p) (if x.command = false ∧ x.since = d.dial.notch then 6 else 1)) ∧
        (d.boot.swap = none →
          (ok = false → ends swapIt 5) ∧
          (ok = true → trial = true ∨ fresh = true → ends swapIt 6) ∧
          (ok = true → trial = false → fresh = false → s.leads swapIt (fun e =>
            e.get R.BOOT_CMD_STATUS = 2 ∧ e.cmdBusy cmd = true ∧ e.stage = bsSwapping ∧
            e.boot = { d.boot with swap := some (FwSwap.mk active slot true true d.dial.notch none given d.stage) } ∧
            calm { e with fresh := d.fresh } ∧ e.fresh = d.fresh + 1 ∧
            d.agrees e (cmd :: fldKey R.BOOT_STATUS_STAGE 0 0 :: journalKeys))) ∧
          (trial = false → ends (.commitFw p) 6 ∧ ends (.revertFw p) 6) ∧
          (trial = true → s.leads (.commitFw p) (fun e => e.get R.BOOT_CMD_STATUS = 0 ∧ e.store.committed = active ∧
              e.get R.BOOT_STATUS_COMMITTED_SLOT = active ∧ e.get R.BOOT_STATUS_FW_TRIAL = 0 ∧
              e.boot = { d.boot with trialEnd := none } ∧ calm { e with store := d.store } ∧
              e.store = { d.store with committed := active }) ∧
            reverts (.revertFw p) active true none (fun e => e.get R.BOOT_CMD_STATUS = 2 ∧ e.cmdBusy cmd = true))))) ∧
     (∀ t, d.boot.trialEnd = some t →
       (timeNs t ≤ timeNs d.now → d.boot.swap = none → reverts .trialExpiry active false none (fun _ => True)) ∧
       (timeNs d.now < timeNs t ∨ d.boot.swap.isSome = true → s.leads .trialExpiry (fun e => e = d))) ∧
     (d.boot.trialEnd = none → s.leads .trialExpiry (fun e => e = d)) ∧
     (d.boot.swap = none → s.leads .fwHandoverTimeout (fun e => e = d) ∧ (∀ b, s.leads (.fwRunning b) (fun e => e = d)) ∧
       (∀ n, s.leads (.swapTimeout n) (fun e => e = d)) ∧
       (d.stage = bsService → d.boot.wdogFrom + 15625000 ≤ d.dial.notch → committed < 2 →
         reverts .watchdogExpiry active false (some d.dial.notch) (fun e => steps2 e active committed ∧
           (e.get R.BOOT_EVENTS).testBit 3 = true))) ∧
     (d.stage ≠ bsService ∨ d.dial.notch < d.boot.wdogFrom + 15625000 → s.leads .watchdogExpiry (fun e => e = d)) ∧
     (∀ x, d.boot.swap = some x → x.new < 2 → committed < 2 → x.stage < 8 →
       (let at2 := x.stopped.getD (x.since + 312500)
        let fails := fun (c : Instr) =>
          (x.stopped = none → reverts c x.new x.command none (fun e => steps2 e x.old x.new)) ∧
          (x.stopped.isSome = true → reverts c active x.command none (fun _ => True))
        (x.stopped = none → d.boot.resetAt = none → d.standbyDue = none → d.trips = false → s.leads .notchTick (fun e =>
          (let due := x.handover ≤ d.dial.notch + 1 ∧ x.handover < x.since + 312500
           (due → e.boot.swap = some { x with stopped := some (d.dial.notch + 1) } ∧ steps2 e x.old x.new) ∧
           (¬ due → e.boot.swap = some x ∧ e.get R.SSTORE_FW_ACTIVE = active)))) ∧
        (x.stopped.isSome = true ∨ d.dial.notch < x.since + 312500 → s.leads .fwHandoverTimeout (fun e => e = d)) ∧
        (x.stopped = none → x.since + 312500 ≤ d.dial.notch → s.leads .fwHandoverTimeout (fun e => steps2 e x.old x.new ∧
          e.boot = { d.boot with swap := some { x with stopped := some d.dial.notch } } ∧ e.stage = d.stage ∧ calm e)) ∧
        (x.trial = true → fails (.fwRunning false)) ∧
        (x.trial = false → s.leads (.fwRunning false) (fun e => e = d)) ∧
        (x.trial = true → at2 + 1562500 ≤ d.dial.notch → s.leads (.fwRunning true) (fun e => e = d)) ∧
        (x.trial = false ∨ d.dial.notch < at2 + 1562500 → d.roles.held = [] → s.leads (.fwRunning true) (fun e =>
          e.stage = x.stage ∧ e.boot.swap = none ∧ e.boot.wdogFrom = d.dial.notch ∧
          (x.stopped = none → steps2 e x.old x.new) ∧
          (x.stopped.isSome = true → e.get R.SSTORE_FW_ACTIVE = active) ∧
          (x.trial = true → e.get R.BOOT_STATUS_FW_TRIAL = 1 ∧ e.get R.BOOT_TRIAL_LEFT_S = d.get R.BOOT_TRIAL_LIMIT_S ∧
            (e.get R.BOOT_EVENTS).testBit 1 = true ∧
            e.boot.trialEnd = some (d.dial.sec + d.get R.BOOT_TRIAL_LIMIT_S, d.dial.ns)) ∧
          (x.trial = false → e.boot.trialEnd = d.boot.trialEnd ∧
            e.get R.BOOT_STATUS_FW_TRIAL = d.get R.BOOT_STATUS_FW_TRIAL) ∧
          (∀ w, x.command = true → assoc d.cmds cmd = some w → e.cmdBusy cmd = false ∧
            e.get R.BOOT_CMD_STATUS = if x.trial = false ∧ w.field 0 4 = 1 then 7 else 0) ∧ calm e)) ∧
        (∀ n, (let m := x.stopped.getD (max x.since (min n (x.since + 312500)))
          (x.trial = false ∨ d.dial.notch < m + 1562500 → s.leads (.swapTimeout n) (fun e => e = d)) ∧
          (x.trial = true → m + 1562500 ≤ d.dial.notch → fails (.swapTimeout n)))))) ∧
     (∀ p : Path,
       (d.reaches p pgBOOT = false ∨ d.held = true → s.leads (.wdogKick p) (fun e => e = d)) ∧
       (d.reaches p pgBOOT = true → d.held = false →
         (p = .firmware → s.leads (.wdogKick p) (fun e =>
           e.get R.BOOT_WDOG_KICKS = min (2 ^ 32 - 1) (d.get R.BOOT_WDOG_KICKS + 1) ∧
           e.get R.BOOT_WDOG_LAST = d.dial.notch % 2 ^ 32 ∧ d.agrees e [fldKey R.BOOT_WDOG_KICKS 0 0] ∧
           e = { d with regs := e.regs, boot := { d.boot with wdogFrom := d.dial.notch } })) ∧
         (p ≠ .firmware → s.leads (.wdogKick p) (fun e => e.boot = d.boot ∧
           (∃ x ∈ e.errs.now, x.page = pgBOOT ∧ x.cls = 2 ∧ x.code = d.role p) ∧
           (∀ k : Key, k.sp ≠ .HDR → k.sp ≠ .HEALTH → e.word k = d.word k))))))

/-- Every step keeps registers, memories and staging area in their canonical form, so that equal contents are equal data. An
invariant of every step. In a state whose register store is strictly rising by place with no entry at its reset value, and
whose byte memories and MCTP staging area list addresses strictly rising with no byte equal to what an unlisted address reads
as, a step, whatever command is in front, of all 270 and with any operands, answers a state of which the same holds: so after
any run two devices that read alike everywhere hold equal registers and memories. The form is the model’s
(notes/assumptions/6). (R17, R476, R551) -/
def Obligations.EveryStepKeepsTheCanonicalForm : Prop :=
  ∀ (s t : State), s.canonical → step s = .next t → t.canonical

/-- After reset nothing waits, every register and byte reads its value after reset, and the stated values are those of the spec.
In State.reset no command waits, registers, memories and staging area are in canonical form, every register word reads its
value after reset and every byte of memory what an unlisted byte reads as; the Notch count and dial time are 0; the stage is
ROM, the source FREE and the state UNLOCKED, no command is in progress, no session is open, no frame is in the Basin, every
cell is free (393,216), instance 0 is RUNNING and every other FREE; and the stated values of some pages stand: lock threshold
100, source timeout 15,625,000, port links 3, fresh lane group modes, FT bucket size 7, age limit 1,562,500, IDLE_S 900,
TRIAL.LIMIT_S 600, WEAR_LIMIT 80. The model’s choices: log entry 5 (what a register without a stated value reads), 6 (a byte
that nothing has written), 27 (a Glen reads SELFTEST) and 106 (the device stands at Notch 0, past POWER, in ROM). (R21, R22,
R559, R560, R561, R555, R579, R392) -/
def Obligations.ResetLeavesTheStatedValues : Prop :=
  State.reset.pending = [] ∧ State.reset.canonical ∧
  (let d := State.reset.dev
   (∀ k : Key, d.word k = resetWord k) ∧ (∀ a, d.mem.byte a = emptyByte) ∧ (∀ a, d.roles.staging.byte a = emptyByte) ∧
   d.dial.notch = 0 ∧ d.now = (0, 0) ∧ d.dial.stepPending = none ∧ d.stage = bsRom ∧ d.awake = true ∧
   d.get R.DIAL_CTRL_SRC = 0 ∧ d.get R.DIAL_STATUS_STATE = 0 ∧ (∀ k, d.cmdBusy k = false) ∧ (∀ b, d.session b = none) ∧
   d.basin.frames = [] ∧ d.roles.buffer = [] ∧ d.get R.BASIN_CELL_FREE_FREE = 393216 ∧ d.get R.BASIN_CELLS_TOTAL_TOTAL = 393216 ∧
   d.get R.DIAL_SERVO_CFG_LOCK_THRESH_NS = 100 ∧ d.get R.DIAL_SERVO_CFG_SRC_TIMEOUT = 15625000 ∧
   (∀ q, q < 16 → d.get R.PORT_STATUS_LINK q = 3) ∧ (∀ g, g < 8 → d.get R.LANEGRP_MODE_QMODE0 g = 5) ∧
   (∀ n, n < 16 → d.get R.TABLE_FT_CFG_BUCKET_LOG2 0 n = 7) ∧ (∀ n, n < 160 → d.get R.BASIN_Q_AGE_AGE_LIMIT 0 n = 1562500) ∧
   d.instState 0 = 1 ∧ (∀ i, i ≠ 0 → d.instState i = 0) ∧
   d.get R.ROLE_SESS_CFG_IDLE_S = 900 ∧ d.get R.BOOT_TRIAL_LIMIT_S = 600 ∧ d.get R.HEALTH_SSTORE_WEAR_LIMIT 0 0 = 80 ∧
   d.get R.HEALTH_SSTORE_WEAR_LIMIT 0 1 = 80 ∧ (∀ g, g < d.variant.glensAll → d.glState g = glSelftest))
end

