-- ==== Sys2Proof/Laws/Bytes.lean ====
section
/-! SUPPORT. Bytes that spell a number, and the width of the CRC-64. -/

namespace Sys2Proof.Machine

theorem leBytes_length (n x : Nat) : (leBytes n x).length = n := by
  induction n generalizing x with
  | zero => rfl
  | succ n ih => simp [leBytes, ih]

theorem leNat_leBytes (n x : Nat) (h : x < 256 ^ n) : leNat (leBytes n x) = x := by
  induction n generalizing x with
  | zero => simp only [leBytes, leNat]; omega
  | succ n ih =>
    have h' : x / 256 < 256 ^ n := by rw [Nat.pow_succ] at h; omega
    simp only [leBytes, leNat, ih _ h', BitVec.toNat_ofNat]
    omega

theorem crcBits_lt (n r : Nat) (h : r < 2 ^ 64) : crcBits poly64 n r < 2 ^ 64 := by
  induction n generalizing r with
  | zero => exact h
  | succ n ih =>
    unfold crcBits
    apply ih
    split
    · exact Nat.xor_lt_two_pow (by omega) (by decide)
    · omega

theorem crcByte_lt (r : Nat) (b : Byte) (h : r < 2 ^ 64) : crcByte poly64 r b < 2 ^ 64 :=
  crcBits_lt 8 _ (Nat.xor_lt_two_pow h (by have := b.isLt; omega))

/-- A CRC-64 has 64 bits. -/
theorem crc64_lt (bs : List Byte) : crc64 bs < 256 ^ 8 := by
  have h : ∀ (l : List Byte) (r : Nat), r < 2 ^ 64 → l.foldl (crcByte poly64) r < 2 ^ 64 := by
    intro l
    induction l with
    | nil => intro r hr; exact hr
    | cons b l ih => intro r hr; exact ih _ (crcByte_lt r b hr)
  exact Nat.xor_lt_two_pow (n := 64) (h bs _ (by decide)) (by decide)

end Sys2Proof.Machine
end

