-- ==== Sys2Proof/Laws/State.lean ====
section
/-! SUPPORT. What the updates every family shares leave as it was: one lemma for each field of the device and each update. -/

namespace Sys2Proof.Machine

@[simp] theorem Dev.put_variant (d : Dev) (f : Fld) (v u i : Nat) : (d.put f v u i).variant = d.variant := rfl
@[simp] theorem Dev.put_start (d : Dev) (f : Fld) (v u i : Nat) : (d.put f v u i).start = d.start := rfl
@[simp] theorem Dev.put_mem (d : Dev) (f : Fld) (v u i : Nat) : (d.put f v u i).mem = d.mem := rfl
@[simp] theorem Dev.put_snap (d : Dev) (f : Fld) (v u i : Nat) : (d.put f v u i).snap = d.snap := rfl
@[simp] theorem Dev.put_out (d : Dev) (f : Fld) (v u i : Nat) : (d.put f v u i).out = d.out := rfl
@[simp] theorem Dev.put_fresh (d : Dev) (f : Fld) (v u i : Nat) : (d.put f v u i).fresh = d.fresh := rfl
@[simp] theorem Dev.put_dial (d : Dev) (f : Fld) (v u i : Nat) : (d.put f v u i).dial = d.dial := rfl
@[simp] theorem Dev.put_acc (d : Dev) (f : Fld) (v u i : Nat) : (d.put f v u i).acc = d.acc := rfl
@[simp] theorem Dev.put_errs (d : Dev) (f : Fld) (v u i : Nat) : (d.put f v u i).errs = d.errs := rfl
@[simp] theorem Dev.put_roles (d : Dev) (f : Fld) (v u i : Nat) : (d.put f v u i).roles = d.roles := rfl
@[simp] theorem Dev.put_store (d : Dev) (f : Fld) (v u i : Nat) : (d.put f v u i).store = d.store := rfl
@[simp] theorem Dev.put_basin (d : Dev) (f : Fld) (v u i : Nat) : (d.put f v u i).basin = d.basin := rfl
@[simp] theorem Dev.put_ports (d : Dev) (f : Fld) (v u i : Nat) : (d.put f v u i).ports = d.ports := rfl
@[simp] theorem Dev.put_wake (d : Dev) (f : Fld) (v u i : Nat) : (d.put f v u i).wake = d.wake := rfl
@[simp] theorem Dev.put_sched (d : Dev) (f : Fld) (v u i : Nat) : (d.put f v u i).sched = d.sched := rfl
@[simp] theorem Dev.put_health (d : Dev) (f : Fld) (v u i : Nat) : (d.put f v u i).health = d.health := rfl
@[simp] theorem Dev.put_cmds (d : Dev) (f : Fld) (v u i : Nat) : (d.put f v u i).cmds = d.cmds := rfl
@[simp] theorem Dev.put_glens (d : Dev) (f : Fld) (v u i : Nat) : (d.put f v u i).glens = d.glens := rfl
@[simp] theorem Dev.put_defile (d : Dev) (f : Fld) (v u i : Nat) : (d.put f v u i).defile = d.defile := rfl
@[simp] theorem Dev.put_ledger (d : Dev) (f : Fld) (v u i : Nat) : (d.put f v u i).ledger = d.ledger := rfl
@[simp] theorem Dev.put_control (d : Dev) (f : Fld) (v u i : Nat) : (d.put f v u i).control = d.control := rfl
@[simp] theorem Dev.put_tables (d : Dev) (f : Fld) (v u i : Nat) : (d.put f v u i).tables = d.tables := rfl
@[simp] theorem Dev.put_host (d : Dev) (f : Fld) (v u i : Nat) : (d.put f v u i).host = d.host := rfl
@[simp] theorem Dev.put_insts (d : Dev) (f : Fld) (v u i : Nat) : (d.put f v u i).insts = d.insts := rfl
@[simp] theorem Dev.put_units (d : Dev) (f : Fld) (v u i : Nat) : (d.put f v u i).units = d.units := rfl
@[simp] theorem Dev.put_boot (d : Dev) (f : Fld) (v u i : Nat) : (d.put f v u i).boot = d.boot := rfl
@[simp] theorem Dev.put_mover (d : Dev) (f : Fld) (v u i : Nat) : (d.put f v u i).mover = d.mover := rfl
@[simp] theorem Dev.put_test (d : Dev) (f : Fld) (v u i : Nat) : (d.put f v u i).test = d.test := rfl

@[simp] theorem Dev.putWord_variant (d : Dev) (k : Key) (v : Word) : (d.putWord k v).variant = d.variant := rfl
@[simp] theorem Dev.putWord_start (d : Dev) (k : Key) (v : Word) : (d.putWord k v).start = d.start := rfl
@[simp] theorem Dev.putWord_mem (d : Dev) (k : Key) (v : Word) : (d.putWord k v).mem = d.mem := rfl
@[simp] theorem Dev.putWord_snap (d : Dev) (k : Key) (v : Word) : (d.putWord k v).snap = d.snap := rfl
@[simp] theorem Dev.putWord_out (d : Dev) (k : Key) (v : Word) : (d.putWord k v).out = d.out := rfl
@[simp] theorem Dev.putWord_fresh (d : Dev) (k : Key) (v : Word) : (d.putWord k v).fresh = d.fresh := rfl
@[simp] theorem Dev.putWord_dial (d : Dev) (k : Key) (v : Word) : (d.putWord k v).dial = d.dial := rfl
@[simp] theorem Dev.putWord_acc (d : Dev) (k : Key) (v : Word) : (d.putWord k v).acc = d.acc := rfl
@[simp] theorem Dev.putWord_errs (d : Dev) (k : Key) (v : Word) : (d.putWord k v).errs = d.errs := rfl
@[simp] theorem Dev.putWord_roles (d : Dev) (k : Key) (v : Word) : (d.putWord k v).roles = d.roles := rfl
@[simp] theorem Dev.putWord_store (d : Dev) (k : Key) (v : Word) : (d.putWord k v).store = d.store := rfl
@[simp] theorem Dev.putWord_basin (d : Dev) (k : Key) (v : Word) : (d.putWord k v).basin = d.basin := rfl
@[simp] theorem Dev.putWord_ports (d : Dev) (k : Key) (v : Word) : (d.putWord k v).ports = d.ports := rfl
@[simp] theorem Dev.putWord_wake (d : Dev) (k : Key) (v : Word) : (d.putWord k v).wake = d.wake := rfl
@[simp] theorem Dev.putWord_sched (d : Dev) (k : Key) (v : Word) : (d.putWord k v).sched = d.sched := rfl
@[simp] theorem Dev.putWord_health (d : Dev) (k : Key) (v : Word) : (d.putWord k v).health = d.health := rfl
@[simp] theorem Dev.putWord_cmds (d : Dev) (k : Key) (v : Word) : (d.putWord k v).cmds = d.cmds := rfl
@[simp] theorem Dev.putWord_glens (d : Dev) (k : Key) (v : Word) : (d.putWord k v).glens = d.glens := rfl
@[simp] theorem Dev.putWord_defile (d : Dev) (k : Key) (v : Word) : (d.putWord k v).defile = d.defile := rfl
@[simp] theorem Dev.putWord_ledger (d : Dev) (k : Key) (v : Word) : (d.putWord k v).ledger = d.ledger := rfl
@[simp] theorem Dev.putWord_control (d : Dev) (k : Key) (v : Word) : (d.putWord k v).control = d.control := rfl
@[simp] theorem Dev.putWord_tables (d : Dev) (k : Key) (v : Word) : (d.putWord k v).tables = d.tables := rfl
@[simp] theorem Dev.putWord_host (d : Dev) (k : Key) (v : Word) : (d.putWord k v).host = d.host := rfl
@[simp] theorem Dev.putWord_insts (d : Dev) (k : Key) (v : Word) : (d.putWord k v).insts = d.insts := rfl
@[simp] theorem Dev.putWord_units (d : Dev) (k : Key) (v : Word) : (d.putWord k v).units = d.units := rfl
@[simp] theorem Dev.putWord_boot (d : Dev) (k : Key) (v : Word) : (d.putWord k v).boot = d.boot := rfl
@[simp] theorem Dev.putWord_mover (d : Dev) (k : Key) (v : Word) : (d.putWord k v).mover = d.mover := rfl
@[simp] theorem Dev.putWord_test (d : Dev) (k : Key) (v : Word) : (d.putWord k v).test = d.test := rfl

@[simp] theorem Dev.count_variant (d : Dev) (f : Fld) (n u i : Nat) : (d.count f n u i).variant = d.variant := rfl
@[simp] theorem Dev.count_start (d : Dev) (f : Fld) (n u i : Nat) : (d.count f n u i).start = d.start := rfl
@[simp] theorem Dev.count_mem (d : Dev) (f : Fld) (n u i : Nat) : (d.count f n u i).mem = d.mem := rfl
@[simp] theorem Dev.count_snap (d : Dev) (f : Fld) (n u i : Nat) : (d.count f n u i).snap = d.snap := rfl
@[simp] theorem Dev.count_out (d : Dev) (f : Fld) (n u i : Nat) : (d.count f n u i).out = d.out := rfl
@[simp] theorem Dev.count_fresh (d : Dev) (f : Fld) (n u i : Nat) : (d.count f n u i).fresh = d.fresh := rfl
@[simp] theorem Dev.count_dial (d : Dev) (f : Fld) (n u i : Nat) : (d.count f n u i).dial = d.dial := rfl
@[simp] theorem Dev.count_acc (d : Dev) (f : Fld) (n u i : Nat) : (d.count f n u i).acc = d.acc := rfl
@[simp] theorem Dev.count_errs (d : Dev) (f : Fld) (n u i : Nat) : (d.count f n u i).errs = d.errs := rfl
@[simp] theorem Dev.count_roles (d : Dev) (f : Fld) (n u i : Nat) : (d.count f n u i).roles = d.roles := rfl
@[simp] theorem Dev.count_store (d : Dev) (f : Fld) (n u i : Nat) : (d.count f n u i).store = d.store := rfl
@[simp] theorem Dev.count_basin (d : Dev) (f : Fld) (n u i : Nat) : (d.count f n u i).basin = d.basin := rfl
@[simp] theorem Dev.count_ports (d : Dev) (f : Fld) (n u i : Nat) : (d.count f n u i).ports = d.ports := rfl
@[simp] theorem Dev.count_wake (d : Dev) (f : Fld) (n u i : Nat) : (d.count f n u i).wake = d.wake := rfl
@[simp] theorem Dev.count_sched (d : Dev) (f : Fld) (n u i : Nat) : (d.count f n u i).sched = d.sched := rfl
@[simp] theorem Dev.count_health (d : Dev) (f : Fld) (n u i : Nat) : (d.count f n u i).health = d.health := rfl
@[simp] theorem Dev.count_cmds (d : Dev) (f : Fld) (n u i : Nat) : (d.count f n u i).cmds = d.cmds := rfl
@[simp] theorem Dev.count_glens (d : Dev) (f : Fld) (n u i : Nat) : (d.count f n u i).glens = d.glens := rfl
@[simp] theorem Dev.count_defile (d : Dev) (f : Fld) (n u i : Nat) : (d.count f n u i).defile = d.defile := rfl
@[simp] theorem Dev.count_ledger (d : Dev) (f : Fld) (n u i : Nat) : (d.count f n u i).ledger = d.ledger := rfl
@[simp] theorem Dev.count_control (d : Dev) (f : Fld) (n u i : Nat) : (d.count f n u i).control = d.control := rfl
@[simp] theorem Dev.count_tables (d : Dev) (f : Fld) (n u i : Nat) : (d.count f n u i).tables = d.tables := rfl
@[simp] theorem Dev.count_host (d : Dev) (f : Fld) (n u i : Nat) : (d.count f n u i).host = d.host := rfl
@[simp] theorem Dev.count_insts (d : Dev) (f : Fld) (n u i : Nat) : (d.count f n u i).insts = d.insts := rfl
@[simp] theorem Dev.count_units (d : Dev) (f : Fld) (n u i : Nat) : (d.count f n u i).units = d.units := rfl
@[simp] theorem Dev.count_boot (d : Dev) (f : Fld) (n u i : Nat) : (d.count f n u i).boot = d.boot := rfl
@[simp] theorem Dev.count_mover (d : Dev) (f : Fld) (n u i : Nat) : (d.count f n u i).mover = d.mover := rfl
@[simp] theorem Dev.count_test (d : Dev) (f : Fld) (n u i : Nat) : (d.count f n u i).test = d.test := rfl

@[simp] theorem Dev.less_variant (d : Dev) (f : Fld) (n u i : Nat) : (d.less f n u i).variant = d.variant := rfl
@[simp] theorem Dev.less_start (d : Dev) (f : Fld) (n u i : Nat) : (d.less f n u i).start = d.start := rfl
@[simp] theorem Dev.less_mem (d : Dev) (f : Fld) (n u i : Nat) : (d.less f n u i).mem = d.mem := rfl
@[simp] theorem Dev.less_snap (d : Dev) (f : Fld) (n u i : Nat) : (d.less f n u i).snap = d.snap := rfl
@[simp] theorem Dev.less_out (d : Dev) (f : Fld) (n u i : Nat) : (d.less f n u i).out = d.out := rfl
@[simp] theorem Dev.less_fresh (d : Dev) (f : Fld) (n u i : Nat) : (d.less f n u i).fresh = d.fresh := rfl
@[simp] theorem Dev.less_dial (d : Dev) (f : Fld) (n u i : Nat) : (d.less f n u i).dial = d.dial := rfl
@[simp] theorem Dev.less_acc (d : Dev) (f : Fld) (n u i : Nat) : (d.less f n u i).acc = d.acc := rfl
@[simp] theorem Dev.less_errs (d : Dev) (f : Fld) (n u i : Nat) : (d.less f n u i).errs = d.errs := rfl
@[simp] theorem Dev.less_roles (d : Dev) (f : Fld) (n u i : Nat) : (d.less f n u i).roles = d.roles := rfl
@[simp] theorem Dev.less_store (d : Dev) (f : Fld) (n u i : Nat) : (d.less f n u i).store = d.store := rfl
@[simp] theorem Dev.less_basin (d : Dev) (f : Fld) (n u i : Nat) : (d.less f n u i).basin = d.basin := rfl
@[simp] theorem Dev.less_ports (d : Dev) (f : Fld) (n u i : Nat) : (d.less f n u i).ports = d.ports := rfl
@[simp] theorem Dev.less_wake (d : Dev) (f : Fld) (n u i : Nat) : (d.less f n u i).wake = d.wake := rfl
@[simp] theorem Dev.less_sched (d : Dev) (f : Fld) (n u i : Nat) : (d.less f n u i).sched = d.sched := rfl
@[simp] theorem Dev.less_health (d : Dev) (f : Fld) (n u i : Nat) : (d.less f n u i).health = d.health := rfl
@[simp] theorem Dev.less_cmds (d : Dev) (f : Fld) (n u i : Nat) : (d.less f n u i).cmds = d.cmds := rfl
@[simp] theorem Dev.less_glens (d : Dev) (f : Fld) (n u i : Nat) : (d.less f n u i).glens = d.glens := rfl
@[simp] theorem Dev.less_defile (d : Dev) (f : Fld) (n u i : Nat) : (d.less f n u i).defile = d.defile := rfl
@[simp] theorem Dev.less_ledger (d : Dev) (f : Fld) (n u i : Nat) : (d.less f n u i).ledger = d.ledger := rfl
@[simp] theorem Dev.less_control (d : Dev) (f : Fld) (n u i : Nat) : (d.less f n u i).control = d.control := rfl
@[simp] theorem Dev.less_tables (d : Dev) (f : Fld) (n u i : Nat) : (d.less f n u i).tables = d.tables := rfl
@[simp] theorem Dev.less_host (d : Dev) (f : Fld) (n u i : Nat) : (d.less f n u i).host = d.host := rfl
@[simp] theorem Dev.less_insts (d : Dev) (f : Fld) (n u i : Nat) : (d.less f n u i).insts = d.insts := rfl
@[simp] theorem Dev.less_units (d : Dev) (f : Fld) (n u i : Nat) : (d.less f n u i).units = d.units := rfl
@[simp] theorem Dev.less_boot (d : Dev) (f : Fld) (n u i : Nat) : (d.less f n u i).boot = d.boot := rfl
@[simp] theorem Dev.less_mover (d : Dev) (f : Fld) (n u i : Nat) : (d.less f n u i).mover = d.mover := rfl
@[simp] theorem Dev.less_test (d : Dev) (f : Fld) (n u i : Nat) : (d.less f n u i).test = d.test := rfl

@[simp] theorem Dev.raiseBit_variant (d : Dev) (f : Fld) (b u i : Nat) : (d.raiseBit f b u i).variant = d.variant := rfl
@[simp] theorem Dev.raiseBit_start (d : Dev) (f : Fld) (b u i : Nat) : (d.raiseBit f b u i).start = d.start := rfl
@[simp] theorem Dev.raiseBit_mem (d : Dev) (f : Fld) (b u i : Nat) : (d.raiseBit f b u i).mem = d.mem := rfl
@[simp] theorem Dev.raiseBit_snap (d : Dev) (f : Fld) (b u i : Nat) : (d.raiseBit f b u i).snap = d.snap := rfl
@[simp] theorem Dev.raiseBit_out (d : Dev) (f : Fld) (b u i : Nat) : (d.raiseBit f b u i).out = d.out := rfl
@[simp] theorem Dev.raiseBit_fresh (d : Dev) (f : Fld) (b u i : Nat) : (d.raiseBit f b u i).fresh = d.fresh := rfl
@[simp] theorem Dev.raiseBit_dial (d : Dev) (f : Fld) (b u i : Nat) : (d.raiseBit f b u i).dial = d.dial := rfl
@[simp] theorem Dev.raiseBit_errs (d : Dev) (f : Fld) (b u i : Nat) : (d.raiseBit f b u i).errs = d.errs := rfl
@[simp] theorem Dev.raiseBit_roles (d : Dev) (f : Fld) (b u i : Nat) : (d.raiseBit f b u i).roles = d.roles := rfl
@[simp] theorem Dev.raiseBit_store (d : Dev) (f : Fld) (b u i : Nat) : (d.raiseBit f b u i).store = d.store := rfl
@[simp] theorem Dev.raiseBit_basin (d : Dev) (f : Fld) (b u i : Nat) : (d.raiseBit f b u i).basin = d.basin := rfl
@[simp] theorem Dev.raiseBit_ports (d : Dev) (f : Fld) (b u i : Nat) : (d.raiseBit f b u i).ports = d.ports := rfl
@[simp] theorem Dev.raiseBit_wake (d : Dev) (f : Fld) (b u i : Nat) : (d.raiseBit f b u i).wake = d.wake := rfl
@[simp] theorem Dev.raiseBit_sched (d : Dev) (f : Fld) (b u i : Nat) : (d.raiseBit f b u i).sched = d.sched := rfl
@[simp] theorem Dev.raiseBit_health (d : Dev) (f : Fld) (b u i : Nat) : (d.raiseBit f b u i).health = d.health := rfl
@[simp] theorem Dev.raiseBit_cmds (d : Dev) (f : Fld) (b u i : Nat) : (d.raiseBit f b u i).cmds = d.cmds := rfl
@[simp] theorem Dev.raiseBit_glens (d : Dev) (f : Fld) (b u i : Nat) : (d.raiseBit f b u i).glens = d.glens := rfl
@[simp] theorem Dev.raiseBit_defile (d : Dev) (f : Fld) (b u i : Nat) : (d.raiseBit f b u i).defile = d.defile := rfl
@[simp] theorem Dev.raiseBit_ledger (d : Dev) (f : Fld) (b u i : Nat) : (d.raiseBit f b u i).ledger = d.ledger := rfl
@[simp] theorem Dev.raiseBit_control (d : Dev) (f : Fld) (b u i : Nat) : (d.raiseBit f b u i).control = d.control := rfl
@[simp] theorem Dev.raiseBit_tables (d : Dev) (f : Fld) (b u i : Nat) : (d.raiseBit f b u i).tables = d.tables := rfl
@[simp] theorem Dev.raiseBit_host (d : Dev) (f : Fld) (b u i : Nat) : (d.raiseBit f b u i).host = d.host := rfl
@[simp] theorem Dev.raiseBit_insts (d : Dev) (f : Fld) (b u i : Nat) : (d.raiseBit f b u i).insts = d.insts := rfl
@[simp] theorem Dev.raiseBit_units (d : Dev) (f : Fld) (b u i : Nat) : (d.raiseBit f b u i).units = d.units := rfl
@[simp] theorem Dev.raiseBit_boot (d : Dev) (f : Fld) (b u i : Nat) : (d.raiseBit f b u i).boot = d.boot := rfl
@[simp] theorem Dev.raiseBit_mover (d : Dev) (f : Fld) (b u i : Nat) : (d.raiseBit f b u i).mover = d.mover := rfl
@[simp] theorem Dev.raiseBit_test (d : Dev) (f : Fld) (b u i : Nat) : (d.raiseBit f b u i).test = d.test := rfl

@[simp] theorem Dev.raise_variant (d : Dev) (f : Fld) (u i : Nat) : (d.raise f u i).variant = d.variant := rfl
@[simp] theorem Dev.raise_start (d : Dev) (f : Fld) (u i : Nat) : (d.raise f u i).start = d.start := rfl
@[simp] theorem Dev.raise_mem (d : Dev) (f : Fld) (u i : Nat) : (d.raise f u i).mem = d.mem := rfl
@[simp] theorem Dev.raise_snap (d : Dev) (f : Fld) (u i : Nat) : (d.raise f u i).snap = d.snap := rfl
@[simp] theorem Dev.raise_out (d : Dev) (f : Fld) (u i : Nat) : (d.raise f u i).out = d.out := rfl
@[simp] theorem Dev.raise_fresh (d : Dev) (f : Fld) (u i : Nat) : (d.raise f u i).fresh = d.fresh := rfl
@[simp] theorem Dev.raise_dial (d : Dev) (f : Fld) (u i : Nat) : (d.raise f u i).dial = d.dial := rfl
@[simp] theorem Dev.raise_errs (d : Dev) (f : Fld) (u i : Nat) : (d.raise f u i).errs = d.errs := rfl
@[simp] theorem Dev.raise_roles (d : Dev) (f : Fld) (u i : Nat) : (d.raise f u i).roles = d.roles := rfl
@[simp] theorem Dev.raise_store (d : Dev) (f : Fld) (u i : Nat) : (d.raise f u i).store = d.store := rfl
@[simp] theorem Dev.raise_basin (d : Dev) (f : Fld) (u i : Nat) : (d.raise f u i).basin = d.basin := rfl
@[simp] theorem Dev.raise_ports (d : Dev) (f : Fld) (u i : Nat) : (d.raise f u i).ports = d.ports := rfl
@[simp] theorem Dev.raise_wake (d : Dev) (f : Fld) (u i : Nat) : (d.raise f u i).wake = d.wake := rfl
@[simp] theorem Dev.raise_sched (d : Dev) (f : Fld) (u i : Nat) : (d.raise f u i).sched = d.sched := rfl
@[simp] theorem Dev.raise_health (d : Dev) (f : Fld) (u i : Nat) : (d.raise f u i).health = d.health := rfl
@[simp] theorem Dev.raise_cmds (d : Dev) (f : Fld) (u i : Nat) : (d.raise f u i).cmds = d.cmds := rfl
@[simp] theorem Dev.raise_glens (d : Dev) (f : Fld) (u i : Nat) : (d.raise f u i).glens = d.glens := rfl
@[simp] theorem Dev.raise_defile (d : Dev) (f : Fld) (u i : Nat) : (d.raise f u i).defile = d.defile := rfl
@[simp] theorem Dev.raise_ledger (d : Dev) (f : Fld) (u i : Nat) : (d.raise f u i).ledger = d.ledger := rfl
@[simp] theorem Dev.raise_control (d : Dev) (f : Fld) (u i : Nat) : (d.raise f u i).control = d.control := rfl
@[simp] theorem Dev.raise_tables (d : Dev) (f : Fld) (u i : Nat) : (d.raise f u i).tables = d.tables := rfl
@[simp] theorem Dev.raise_host (d : Dev) (f : Fld) (u i : Nat) : (d.raise f u i).host = d.host := rfl
@[simp] theorem Dev.raise_insts (d : Dev) (f : Fld) (u i : Nat) : (d.raise f u i).insts = d.insts := rfl
@[simp] theorem Dev.raise_units (d : Dev) (f : Fld) (u i : Nat) : (d.raise f u i).units = d.units := rfl
@[simp] theorem Dev.raise_boot (d : Dev) (f : Fld) (u i : Nat) : (d.raise f u i).boot = d.boot := rfl
@[simp] theorem Dev.raise_mover (d : Dev) (f : Fld) (u i : Nat) : (d.raise f u i).mover = d.mover := rfl
@[simp] theorem Dev.raise_test (d : Dev) (f : Fld) (u i : Nat) : (d.raise f u i).test = d.test := rfl

@[simp] theorem Dev.emit_variant (d : Dev) (o : Out) : (d.emit o).variant = d.variant := rfl
@[simp] theorem Dev.emit_regs (d : Dev) (o : Out) : (d.emit o).regs = d.regs := rfl
@[simp] theorem Dev.emit_start (d : Dev) (o : Out) : (d.emit o).start = d.start := rfl
@[simp] theorem Dev.emit_mem (d : Dev) (o : Out) : (d.emit o).mem = d.mem := rfl
@[simp] theorem Dev.emit_snap (d : Dev) (o : Out) : (d.emit o).snap = d.snap := rfl
@[simp] theorem Dev.emit_fresh (d : Dev) (o : Out) : (d.emit o).fresh = d.fresh := rfl
@[simp] theorem Dev.emit_dial (d : Dev) (o : Out) : (d.emit o).dial = d.dial := rfl
@[simp] theorem Dev.emit_acc (d : Dev) (o : Out) : (d.emit o).acc = d.acc := rfl
@[simp] theorem Dev.emit_errs (d : Dev) (o : Out) : (d.emit o).errs = d.errs := rfl
@[simp] theorem Dev.emit_roles (d : Dev) (o : Out) : (d.emit o).roles = d.roles := rfl
@[simp] theorem Dev.emit_store (d : Dev) (o : Out) : (d.emit o).store = d.store := rfl
@[simp] theorem Dev.emit_basin (d : Dev) (o : Out) : (d.emit o).basin = d.basin := rfl
@[simp] theorem Dev.emit_ports (d : Dev) (o : Out) : (d.emit o).ports = d.ports := rfl
@[simp] theorem Dev.emit_wake (d : Dev) (o : Out) : (d.emit o).wake = d.wake := rfl
@[simp] theorem Dev.emit_sched (d : Dev) (o : Out) : (d.emit o).sched = d.sched := rfl
@[simp] theorem Dev.emit_health (d : Dev) (o : Out) : (d.emit o).health = d.health := rfl
@[simp] theorem Dev.emit_cmds (d : Dev) (o : Out) : (d.emit o).cmds = d.cmds := rfl
@[simp] theorem Dev.emit_glens (d : Dev) (o : Out) : (d.emit o).glens = d.glens := rfl
@[simp] theorem Dev.emit_defile (d : Dev) (o : Out) : (d.emit o).defile = d.defile := rfl
@[simp] theorem Dev.emit_ledger (d : Dev) (o : Out) : (d.emit o).ledger = d.ledger := rfl
@[simp] theorem Dev.emit_control (d : Dev) (o : Out) : (d.emit o).control = d.control := rfl
@[simp] theorem Dev.emit_tables (d : Dev) (o : Out) : (d.emit o).tables = d.tables := rfl
@[simp] theorem Dev.emit_host (d : Dev) (o : Out) : (d.emit o).host = d.host := rfl
@[simp] theorem Dev.emit_insts (d : Dev) (o : Out) : (d.emit o).insts = d.insts := rfl
@[simp] theorem Dev.emit_units (d : Dev) (o : Out) : (d.emit o).units = d.units := rfl
@[simp] theorem Dev.emit_boot (d : Dev) (o : Out) : (d.emit o).boot = d.boot := rfl
@[simp] theorem Dev.emit_mover (d : Dev) (o : Out) : (d.emit o).mover = d.mover := rfl
@[simp] theorem Dev.emit_test (d : Dev) (o : Out) : (d.emit o).test = d.test := rfl

@[simp] theorem Dev.request_variant (d : Dev) (src : Nat) : (d.request src).variant = d.variant := rfl
@[simp] theorem Dev.request_start (d : Dev) (src : Nat) : (d.request src).start = d.start := rfl
@[simp] theorem Dev.request_mem (d : Dev) (src : Nat) : (d.request src).mem = d.mem := rfl
@[simp] theorem Dev.request_snap (d : Dev) (src : Nat) : (d.request src).snap = d.snap := rfl
@[simp] theorem Dev.request_out (d : Dev) (src : Nat) : (d.request src).out = d.out := rfl
@[simp] theorem Dev.request_fresh (d : Dev) (src : Nat) : (d.request src).fresh = d.fresh := rfl
@[simp] theorem Dev.request_dial (d : Dev) (src : Nat) : (d.request src).dial = d.dial := rfl
@[simp] theorem Dev.request_acc (d : Dev) (src : Nat) : (d.request src).acc = d.acc := rfl
@[simp] theorem Dev.request_errs (d : Dev) (src : Nat) : (d.request src).errs = d.errs := rfl
@[simp] theorem Dev.request_roles (d : Dev) (src : Nat) : (d.request src).roles = d.roles := rfl
@[simp] theorem Dev.request_store (d : Dev) (src : Nat) : (d.request src).store = d.store := rfl
@[simp] theorem Dev.request_basin (d : Dev) (src : Nat) : (d.request src).basin = d.basin := rfl
@[simp] theorem Dev.request_ports (d : Dev) (src : Nat) : (d.request src).ports = d.ports := rfl
@[simp] theorem Dev.request_wake (d : Dev) (src : Nat) : (d.request src).wake = d.wake := rfl
@[simp] theorem Dev.request_sched (d : Dev) (src : Nat) : (d.request src).sched = d.sched := rfl
@[simp] theorem Dev.request_health (d : Dev) (src : Nat) : (d.request src).health = d.health := rfl
@[simp] theorem Dev.request_cmds (d : Dev) (src : Nat) : (d.request src).cmds = d.cmds := rfl
@[simp] theorem Dev.request_glens (d : Dev) (src : Nat) : (d.request src).glens = d.glens := rfl
@[simp] theorem Dev.request_defile (d : Dev) (src : Nat) : (d.request src).defile = d.defile := rfl
@[simp] theorem Dev.request_ledger (d : Dev) (src : Nat) : (d.request src).ledger = d.ledger := rfl
@[simp] theorem Dev.request_control (d : Dev) (src : Nat) : (d.request src).control = d.control := rfl
@[simp] theorem Dev.request_tables (d : Dev) (src : Nat) : (d.request src).tables = d.tables := rfl
@[simp] theorem Dev.request_host (d : Dev) (src : Nat) : (d.request src).host = d.host := rfl
@[simp] theorem Dev.request_insts (d : Dev) (src : Nat) : (d.request src).insts = d.insts := rfl
@[simp] theorem Dev.request_units (d : Dev) (src : Nat) : (d.request src).units = d.units := rfl
@[simp] theorem Dev.request_boot (d : Dev) (src : Nat) : (d.request src).boot = d.boot := rfl
@[simp] theorem Dev.request_mover (d : Dev) (src : Nat) : (d.request src).mover = d.mover := rfl
@[simp] theorem Dev.request_test (d : Dev) (src : Nat) : (d.request src).test = d.test := rfl

@[simp] theorem Dev.emit_out (d : Dev) (o : Out) : (d.emit o).out = d.out ++ [o] := rfl
@[simp] theorem Dev.put_regs (d : Dev) (f : Fld) (v u i : Nat) :
    (d.put f v u i).regs = d.regs.setWord (fldKey f u i) ((d.regs.word (fldKey f u i)).withField f.lo f.w v) := rfl
@[simp] theorem Dev.putWord_regs (d : Dev) (k : Key) (v : Word) : (d.putWord k v).regs = d.regs.setWord k v := rfl
@[simp] theorem Dev.each_nil {α : Type} (d : Dev) (f : Dev → α → Dev) : d.each [] f = d := rfl
@[simp] theorem Dev.each_cons {α : Type} (d : Dev) (a : α) (l : List α) (f : Dev → α → Dev) :
    d.each (a :: l) f = (f d a).each l f := rfl

/-- What every element of the list leaves as it was, the whole list does. -/
theorem Dev.each_keeps {α β : Type} (g : Dev → β) (f : Dev → α → Dev) (l : List α) (d : Dev)
    (h : ∀ d a, a ∈ l → g (f d a) = g d) : g (d.each l f) = g d := by
  induction l generalizing d with
  | nil => rfl
  | cons a t ih =>
    rw [Dev.each_cons, ih (f d a) (fun d b hb => h d b (List.mem_cons_of_mem a hb)), h d a List.mem_cons_self]

/-- What every element of the list keeps true, the whole list does. -/
theorem Dev.each_preserves {α : Type} (p : Dev → Prop) (f : Dev → α → Dev) (l : List α) (d : Dev)
    (h : ∀ d a, a ∈ l → p d → p (f d a)) (hd : p d) : p (d.each l f) := by
  induction l generalizing d with
  | nil => exact hd
  | cons a t ih =>
    exact ih (f d a) (fun d b hb => h d b (List.mem_cons_of_mem a hb)) (h d a List.mem_cons_self hd)

/-! ### Outcomes -/

/-- A meaning built with `always` answers a next state with the queue as it was. -/
theorem State.always_eq (s : State) (f : Dev → Dev) : s.always f = .next { s with dev := f s.dev } := rfl

theorem State.act_awake {s : State} (f : Dev → Dev) (h : s.dev.awake = true) :
    s.act f = .next { s with dev := f s.dev } := by simp [State.act, State.always, h]

/-- Without supply, and in Standby, a command of the running device changes nothing. -/
theorem State.act_asleep {s : State} (f : Dev → Dev) (h : s.dev.awake = false) : s.act f = .next s := by
  simp [State.act, State.always, h]

theorem State.live_flows {s : State} (f : Dev → Dev) (h : s.dev.awake = true) (hf : s.dev.flows = true) :
    s.live f = .next { s with dev := f s.dev } := by
  simp [State.live, State.act, State.always, h, hf]

/-- Where the data path does not flow, its commands change nothing. -/
theorem State.live_still {s : State} (f : Dev → Dev) (hf : s.dev.flows = false) : s.live f = .next s := by
  simp [State.live, State.act, State.always, hf]

end Sys2Proof.Machine
end

