-- ==== Sys2Proof/Laws/Store.lean ====
section
/-! SUPPORT. Reading after writing, and the canonical form kept: association lists, the words of the register space and the
bytes of memory. -/

namespace Sys2Proof

/-! ### Association lists -/

section
variable {α β : Type} [DecidableEq α]

@[simp] theorem assoc_nil (k : α) : assoc ([] : List (α × β)) k = none := rfl

theorem assoc_cons (e : α × β) (l : List (α × β)) (k : α) :
    assoc (e :: l) k = if e.1 = k then some e.2 else assoc l k := by
  by_cases h : e.1 = k <;> simp [assoc, h]

theorem assocDel_cons (e : α × β) (l : List (α × β)) (k : α) :
    assocDel (e :: l) k = if e.1 = k then assocDel l k else e :: assocDel l k := by
  by_cases h : e.1 = k <;> simp [assocDel, h]

@[simp] theorem assoc_assocDel_same (l : List (α × β)) (k : α) : assoc (assocDel l k) k = none := by
  induction l with
  | nil => rfl
  | cons e t ih =>
    rw [assocDel_cons]
    split
    · exact ih
    · rename_i h
      rw [assoc_cons, if_neg h, ih]

theorem assoc_assocDel_other (l : List (α × β)) {k k' : α} (h : k' ≠ k) : assoc (assocDel l k) k' = assoc l k' := by
  induction l with
  | nil => rfl
  | cons e t ih =>
    rw [assocDel_cons, assoc_cons]
    split
    · rename_i he
      rw [if_neg (fun hc => h (hc.symm.trans he)), ih]
    · rw [assoc_cons, ih]

theorem assoc_append (l m : List (α × β)) (k : α) : assoc (l ++ m) k = (assoc l k).orElse (fun _ => assoc m k) := by
  induction l with
  | nil => simp
  | cons e t ih =>
    rw [List.cons_append, assoc_cons, assoc_cons]
    split <;> simp [ih]

@[simp] theorem assoc_assocSet_same (l : List (α × β)) (k : α) (v : β) : assoc (assocSet l k v) k = some v := by
  show assoc (assocDel l k ++ [(k, v)]) k = some v
  rw [assoc_append, assoc_assocDel_same]
  simp [assoc_cons]

theorem assoc_assocSet_other (l : List (α × β)) {k k' : α} (v : β) (h : k' ≠ k) :
    assoc (assocSet l k v) k' = assoc l k' := by
  show assoc (assocDel l k ++ [(k, v)]) k' = assoc l k'
  rw [assoc_append, assoc_assocDel_other l h, assoc_cons]
  rw [if_neg (Ne.symm h)]
  cases assoc l k' <;> simp

theorem mem_assocDel {l : List (α × β)} {k : α} {e : α × β} : e ∈ assocDel l k ↔ e ∈ l ∧ e.1 ≠ k := by
  simp [assocDel]

end

namespace Machine

/-! ### The words of the register space -/

/-- The order of the places in a store. -/
def keyLt (a b : Key) : Prop :=
  a.sp.ctorIdx < b.sp.ctorIdx ∨
    (a.sp.ctorIdx = b.sp.ctorIdx ∧ (a.idx < b.idx ∨ (a.idx = b.idx ∧ a.word < b.word)))

theorem keyLt_of_not {a b : Key} (hne : a ≠ b) (h : ¬ keyLt a b) : keyLt b a := by
  obtain ⟨sa, ia, wa⟩ := a
  obtain ⟨sb, ib, wb⟩ := b
  unfold keyLt at *
  simp only at *
  by_cases hs : sa.ctorIdx = sb.ctorIdx
  · have hsp : sa = sb := by rw [← Space.ofNat_ctorIdx sa, ← Space.ofNat_ctorIdx sb, hs]
    subst hsp
    by_cases hi : ia = ib
    · subst hi
      have : wa ≠ wb := fun hw => hne (by rw [hw])
      omega
    · omega
  · omega

theorem keyLt_trans {a b c : Key} (h : keyLt a b) (h' : keyLt b c) : keyLt a c := by
  unfold keyLt at *
  omega

theorem assoc_insert_same (k : Key) (v : Word) (s : Store) : assoc (Store.insert k v (assocDel s k)) k = some v := by
  have gen : ∀ l : Store, assoc l k = none → assoc (Store.insert k v l) k = some v := by
    intro l
    induction l with
    | nil => intro _; simp [Store.insert, assoc_cons]
    | cons e t ih =>
      intro h
      rw [assoc_cons] at h
      split at h
      · cases h
      · rename_i he
        rw [Store.insert]
        split
        · simp [assoc_cons]
        · rw [assoc_cons, if_neg he, ih h]
  exact gen _ (assoc_assocDel_same s k)

theorem assoc_insert_other {k k' : Key} (v : Word) (s : Store) (h : k' ≠ k) :
    assoc (Store.insert k v s) k' = assoc s k' := by
  induction s with
  | nil => simp [Store.insert, assoc_cons, Ne.symm h]
  | cons e t ih =>
    rw [Store.insert]
    split
    · rw [assoc_cons, if_neg (Ne.symm h)]
    · rw [assoc_cons, assoc_cons, ih]

/-- A word reads as it was written. -/
@[simp] theorem Store.word_setWord_same (s : Store) (k : Key) (v : Word) : (s.setWord k v).word k = v := by
  unfold Store.setWord Store.word
  split
  · rename_i h
    rw [assoc_assocDel_same, h]; rfl
  · rw [assoc_insert_same]; rfl

/-- A write leaves every other word as it was. -/
theorem Store.word_setWord_other (s : Store) {k k' : Key} (v : Word) (h : k' ≠ k) :
    (s.setWord k v).word k' = s.word k' := by
  unfold Store.setWord Store.word
  split
  · rw [assoc_assocDel_other s h]
  · rw [assoc_insert_other v _ h, assoc_assocDel_other s h]

theorem mem_insert {k : Key} {v : Word} {s : Store} {e : Key × Word} (h : e ∈ Store.insert k v s) :
    e = (k, v) ∨ e ∈ s := by
  induction s with
  | nil => simpa [Store.insert] using h
  | cons x t ih =>
    rw [Store.insert] at h
    split at h
    · simpa using h
    · rcases List.mem_cons.1 h with h | h
      · exact Or.inr (by simp [h])
      · rcases ih h with h | h
        · exact Or.inl h
        · exact Or.inr (List.mem_cons_of_mem x h)

/-- Every write keeps the canonical form. -/
theorem Store.setWord_wf {s : Store} (k : Key) (v : Word) (h : s.wf) : (s.setWord k v).wf := by
  have hd : Store.wf (assocDel s k) :=
    ⟨List.Pairwise.sublist List.filter_sublist h.1, fun e he => h.2 e (mem_assocDel.1 he).1⟩
  unfold Store.setWord
  split
  · exact hd
  · rename_i hv
    have hk : ∀ e ∈ assocDel s k, e.1 ≠ k := fun e he => (mem_assocDel.1 he).2
    refine ⟨?_, fun e he => ?_⟩
    · generalize assocDel s k = l at hd hk
      have hp : l.Pairwise (fun a b => keyLt a.1 b.1) := hd.1
      clear hd
      show (Store.insert k v l).Pairwise (fun a b => keyLt a.1 b.1)
      induction l with
      | nil => simp [Store.insert]
      | cons e t ih =>
        have hpe := List.pairwise_cons.1 hp
        rw [Store.insert]
        split
        · rename_i hlt
          refine List.pairwise_cons.2 ⟨fun b hb => ?_, hp⟩
          rcases List.mem_cons.1 hb with hb | hb
          · subst hb; exact hlt
          · exact keyLt_trans hlt (hpe.1 b hb)
        · rename_i hlt
          refine List.pairwise_cons.2 ⟨fun b hb => ?_, ih (fun x hx => hk x (List.mem_cons_of_mem e hx)) hpe.2⟩
          rcases mem_insert hb with hb | hb
          · subst hb
            exact keyLt_of_not (Ne.symm (hk e List.mem_cons_self)) hlt
          · exact hpe.1 b hb
    · rcases mem_insert he with he | he
      · subst he; exact hv
      · exact hd.2 e he

/-! ### The bytes of memory -/

theorem assoc_minsert_same (a : Nat) (b : Byte) (m : Memory) : assoc (Memory.insert a b (assocDel m a)) a = some b := by
  have gen : ∀ l : Memory, assoc l a = none → assoc (Memory.insert a b l) a = some b := by
    intro l
    induction l with
    | nil => intro _; simp [Memory.insert, assoc_cons]
    | cons e t ih =>
      intro h
      rw [assoc_cons] at h
      split at h
      · cases h
      · rename_i he
        rw [Memory.insert]
        split
        · simp [assoc_cons]
        · rw [assoc_cons, if_neg he, ih h]
  exact gen _ (assoc_assocDel_same m a)

theorem assoc_minsert_other {a a' : Nat} (b : Byte) (m : Memory) (h : a' ≠ a) :
    assoc (Memory.insert a b m) a' = assoc m a' := by
  induction m with
  | nil => simp [Memory.insert, assoc_cons, Ne.symm h]
  | cons e t ih =>
    rw [Memory.insert]
    split
    · rw [assoc_cons, if_neg (Ne.symm h)]
    · rw [assoc_cons, assoc_cons, ih]

/-- A byte reads as it was written. -/
@[simp] theorem Memory.byte_setByte_same (m : Memory) (a : Nat) (b : Byte) : (m.setByte a b).byte a = b := by
  unfold Memory.setByte Memory.byte
  split
  · rename_i h
    rw [assoc_assocDel_same, h]; rfl
  · rw [assoc_minsert_same]; rfl

/-- A write leaves every other byte as it was. -/
theorem Memory.byte_setByte_other (m : Memory) {a a' : Nat} (b : Byte) (h : a' ≠ a) :
    (m.setByte a b).byte a' = m.byte a' := by
  unfold Memory.setByte Memory.byte
  split
  · rw [assoc_assocDel_other m h]
  · rw [assoc_minsert_other b _ h, assoc_assocDel_other m h]

theorem mem_minsert {a : Nat} {b : Byte} {m : Memory} {e : Host.Cell} (h : e ∈ Memory.insert a b m) :
    e = (a, b) ∨ e ∈ m := by
  induction m with
  | nil => simpa [Memory.insert] using h
  | cons x t ih =>
    rw [Memory.insert] at h
    split at h
    · simpa using h
    · rcases List.mem_cons.1 h with h | h
      · exact Or.inr (by simp [h])
      · rcases ih h with h | h
        · exact Or.inl h
        · exact Or.inr (List.mem_cons_of_mem x h)

/-- Every write of a byte keeps the canonical form. -/
theorem Memory.setByte_wf {m : Memory} (a : Nat) (b : Byte) (h : m.wf) : (m.setByte a b).wf := by
  have hd : Memory.wf (assocDel m a) :=
    ⟨List.Pairwise.sublist List.filter_sublist h.1, fun e he => h.2 e (mem_assocDel.1 he).1⟩
  unfold Memory.setByte
  split
  · exact hd
  · rename_i hb
    have hk : ∀ e ∈ assocDel m a, e.1 ≠ a := fun e he => (mem_assocDel.1 he).2
    refine ⟨?_, fun e he => ?_⟩
    · generalize assocDel m a = l at hd hk
      have hp := hd.1
      clear hd
      induction l with
      | nil => simp [Memory.insert]
      | cons e t ih =>
        have hpe := List.pairwise_cons.1 hp
        rw [Memory.insert]
        split
        · rename_i hlt
          refine List.pairwise_cons.2 ⟨fun x hx => ?_, hp⟩
          rcases List.mem_cons.1 hx with hx | hx
          · subst hx; exact hlt
          · exact Nat.lt_trans hlt (hpe.1 x hx)
        · rename_i hlt
          refine List.pairwise_cons.2 ⟨fun x hx => ?_, ih (fun y hy => hk y (List.mem_cons_of_mem e hy)) hpe.2⟩
          rcases mem_minsert hx with hx | hx
          · subst hx
            have := hk e List.mem_cons_self
            show e.1 < a
            omega
          · exact hpe.1 x hx
    · rcases mem_minsert he with he | he
      · subst he; exact hb
      · exact hd.2 e he

/-- A write of bytes keeps the canonical form. -/
theorem Memory.setBytes_wf {m : Memory} (a : Nat) (bs : List Byte) (h : m.wf) : (m.setBytes a bs).wf := by
  induction bs generalizing m a with
  | nil => exact h
  | cons b t ih => exact ih (a + 1) (Memory.setByte_wf a b h)

/-- A write of bytes leaves every byte below it and beyond it as it was. -/
theorem Memory.byte_setBytes_other (m : Memory) (a : Nat) (bs : List Byte) (x : Nat) (h : x < a ∨ a + bs.length ≤ x) :
    (m.setBytes a bs).byte x = m.byte x := by
  induction bs generalizing m a with
  | nil => rfl
  | cons b t ih =>
    simp only [List.length_cons] at h
    show ((m.setByte a b).setBytes (a + 1) t).byte x = m.byte x
    rw [ih (m.setByte a b) (a + 1) (by omega), Memory.byte_setByte_other m b (by omega)]

/-- Bytes read as they were written. -/
theorem Memory.byte_setBytes_same (m : Memory) (a : Nat) (bs : List Byte) (k : Nat) (h : k < bs.length) :
    (m.setBytes a bs).byte (a + k) = bs[k] := by
  induction bs generalizing m a k with
  | nil => simp at h
  | cons b t ih =>
    show ((m.setByte a b).setBytes (a + 1) t).byte (a + k) = (b :: t)[k]
    cases k with
    | zero => rw [Memory.byte_setBytes_other _ _ _ _ (by omega)]; simp
    | succ k =>
      simp only [List.length_cons] at h
      have := ih (m.setByte a b) (a + 1) k (by omega)
      rw [show a + (k + 1) = a + 1 + k by omega, this]; rfl

/-- Bytes taken away keep the canonical form. -/
theorem Memory.filter_wf {m : Memory} (p : Host.Cell → Bool) (h : m.wf) : Memory.wf (m.filter p) :=
  ⟨List.Pairwise.sublist List.filter_sublist h.1, fun e he => h.2 e (List.mem_filter.1 he).1⟩

end Machine

end Sys2Proof
end

