-- ==== Sys2Proof/Laws/Ops.lean ====
section
/-! SUPPORT. Bit fields of a word, fields of registers after they are written, and what the shared operations over registers
leave as it was. -/

namespace Sys2Proof

/-! ### Fields of a word -/

theorem Word.field_lt (x : Word) (lo w : Nat) : x.field lo w < 2 ^ w := (x.extractLsb' lo w).isLt

theorem Word.field_withField_same (x : Word) (lo w v : Nat) (h : lo + w ≤ 64) :
    (x.withField lo w v).field lo w = v % 2 ^ w := by
  unfold Word.field Word.withField
  have : ((x &&& ~~~((BitVec.allOnes w).setWidth 64 <<< lo)) ||| ((BitVec.ofNat w v).setWidth 64 <<< lo)).extractLsb' lo w
      = BitVec.ofNat w v := by
    ext i hi
    have h1 : lo + i < 64 := by omega
    have h3 : i < 64 := by omega
    have h2 : ¬ (lo + i < lo) := by omega
    simp [h1, h2, hi]
  rw [this, BitVec.toNat_ofNat]

theorem Word.field_withField_other (x : Word) (lo w v lo' w' : Nat) (h : lo' + w' ≤ lo ∨ lo + w ≤ lo') :
    (x.withField lo w v).field lo' w' = x.field lo' w' := by
  unfold Word.field Word.withField
  congr 1
  ext i hi
  by_cases h1 : lo' + i < 64
  · by_cases h2 : lo' + i < lo
    · simp [h1, h2]
    · have h3 : ¬ (lo' + i - lo < w) := by omega
      have h5 : (BitVec.ofNat w v).getLsbD (lo' + i - lo) = false := BitVec.getLsbD_of_ge _ _ (by omega)
      simp [h1, h2, h3, h5]
  · have h6 : BitVec.getLsbD x (lo' + i) = false := BitVec.getLsbD_of_ge _ _ (by omega)
    simp [h1, h6]

namespace Machine

/-! ### Fields of registers -/

/-- What a register place reads as after one word is set. -/
theorem Dev.word_putWord (d : Dev) (k k' : Key) (v : Word) :
    (d.putWord k v).word k' = if k' = k then v else d.word k' := by
  by_cases h : k' = k
  · subst h; simp [Dev.putWord, Dev.word]
  · simp [Dev.putWord, Dev.word, h, Store.word_setWord_other]

theorem Dev.word_put_other (d : Dev) (f : Fld) (v u i : Nat) {k : Key} (h : k ≠ fldKey f u i) :
    (d.put f v u i).word k = d.word k := by
  simp [Dev.put, Dev.word, Store.word_setWord_other _ _ h]

/-- A field reads as the low bits of what was written to it. -/
theorem Dev.get_put_same (d : Dev) (f : Fld) (v u i : Nat) (h : f.lo + f.w ≤ 64) :
    (d.put f v u i).get f u i = v % 2 ^ f.w := by
  simp [Dev.put, Dev.get, Word.field_withField_same _ _ _ _ h]

/-- A field of another place is not changed. -/
theorem Dev.get_put_key (d : Dev) (f g : Fld) (v u i u' i' : Nat) (h : fldKey g u' i' ≠ fldKey f u i) :
    (d.put f v u i).get g u' i' = d.get g u' i' := by
  simp [Dev.put, Dev.get, Store.word_setWord_other _ _ h]

/-- A field with no bit in common is not changed. -/
theorem Dev.get_put_apart (d : Dev) (f g : Fld) (v u i u' i' : Nat)
    (h : g.lo + g.w ≤ f.lo ∨ f.lo + f.w ≤ g.lo) : (d.put f v u i).get g u' i' = d.get g u' i' := by
  by_cases hk : fldKey g u' i' = fldKey f u i
  · simp [Dev.put, Dev.get, hk, Word.field_withField_other _ _ _ _ _ _ h]
  · exact d.get_put_key f g v u i u' i' hk

theorem Dev.get_lt (d : Dev) (f : Fld) (u i : Nat) : d.get f u i < 2 ^ f.w := Word.field_lt _ _ _

theorem fldKey_ne_space {f g : Fld} (u i u' i' : Nat) (h : g.sp ≠ f.sp) : fldKey g u' i' ≠ fldKey f u i := by
  intro he
  exact h (congrArg Key.sp he)

theorem fldKey_ne_word {f g : Fld} (u i u' i' : Nat) (h : g.word + g.stride * i' ≠ f.word + f.stride * i) :
    fldKey g u' i' ≠ fldKey f u i := by
  intro he
  exact h (congrArg Key.word he)

theorem fldKey_ne_unit {f g : Fld} {u u' : Nat} (i i' : Nat) (h : u' ≠ u) : fldKey g u' i' ≠ fldKey f u i := by
  intro he
  exact h (congrArg Key.idx he)

/-- A counter reads the sum, held at the greatest value of its width. -/
theorem Dev.get_count_same (d : Dev) (f : Fld) (n u i : Nat) (h : f.lo + f.w ≤ 64) :
    (d.count f n u i).get f u i = saturate f.w (d.get f u i + n) := by
  unfold Dev.count
  rw [Dev.get_put_same _ _ _ _ _ h]
  have : 0 < 2 ^ f.w := Nat.pos_of_ne_zero (by simp)
  exact Nat.mod_eq_of_lt (by unfold saturate; omega)

theorem Dev.get_count_key (d : Dev) (f g : Fld) (n u i u' i' : Nat) (h : fldKey g u' i' ≠ fldKey f u i) :
    (d.count f n u i).get g u' i' = d.get g u' i' := d.get_put_key f g _ u i u' i' h

theorem Dev.get_count_apart (d : Dev) (f g : Fld) (n u i u' i' : Nat)
    (h : g.lo + g.w ≤ f.lo ∨ f.lo + f.w ≤ g.lo) : (d.count f n u i).get g u' i' = d.get g u' i' :=
  d.get_put_apart f g _ u i u' i' h

theorem Dev.word_count_other (d : Dev) (f : Fld) (n u i : Nat) {k : Key} (h : k ≠ fldKey f u i) :
    (d.count f n u i).word k = d.word k := d.word_put_other f _ u i h

theorem Dev.word_raiseBit_other (d : Dev) (f : Fld) (b u i : Nat) {k : Key} (h : k ≠ fldKey f u i) :
    (d.raiseBit f b u i).word k = d.word k := by
  simp [Dev.raiseBit, Dev.word, Store.word_setWord_other _ _ h]

theorem Dev.get_raiseBit_key (d : Dev) (f g : Fld) (b u i u' i' : Nat) (h : fldKey g u' i' ≠ fldKey f u i) :
    (d.raiseBit f b u i).get g u' i' = d.get g u' i' := by
  simp [Dev.raiseBit, Dev.get, Store.word_setWord_other _ _ h]

/-- The bit raised reads 1. -/
theorem Dev.get_raise_bit (d : Dev) (f : Fld) (b u i : Nat) (h : f.lo + b < 64) (hb : b < f.w) :
    ((d.raiseBit f b u i).get f u i).testBit b = true := by
  simp only [Dev.raiseBit, Dev.get, Store.word_setWord_same, Word.field, BitVec.testBit_toNat]
  rw [BitVec.getLsbD_extractLsb']
  simp [hb, h]

theorem Dev.get_raise_key (d : Dev) (f g : Fld) (u i u' i' : Nat) (h : fldKey g u' i' ≠ fldKey f u i) :
    (d.raise f u i).get g u' i' = d.get g u' i' := d.get_raiseBit_key f g 0 u i u' i' h

/-- A one-bit event field raised reads 1. -/
theorem Dev.get_raise_same (d : Dev) (f : Fld) (u i : Nat) (h : f.lo < 64) (hw : f.w = 1) :
    (d.raise f u i).get f u i = 1 := by
  have h0 := d.get_raise_bit f 0 u i (by omega) (by omega)
  have h1 := (d.raiseBit f 0 u i).get_lt f u i
  rw [hw] at h1
  show (d.raiseBit f 0 u i).get f u i = 1
  have h2 : (d.raiseBit f 0 u i).get f u i ≠ 0 := by
    intro hz; rw [hz] at h0; simp at h0
  omega

/-- Raising a bit leaves the fields apart from it as they were. -/
theorem Dev.get_raise_apart (d : Dev) (f g : Fld) (b u i u' i' : Nat)
    (h : f.lo + b < g.lo ∨ g.lo + g.w ≤ f.lo + b) : (d.raiseBit f b u i).get g u' i' = d.get g u' i' := by
  by_cases hk : fldKey g u' i' = fldKey f u i
  · simp only [Dev.raiseBit, Dev.get, hk, Store.word_setWord_same, Word.field]
    congr 1
    ext j hj
    simp only [BitVec.getElem_extractLsb', BitVec.getLsbD_or]
    have hz : ¬ (g.lo + j - (f.lo + b) = 0 ∧ f.lo + b ≤ g.lo + j) := by omega
    simp
    intro _ h1 h2
    exact absurd ⟨h2, h1⟩ hz
  · exact d.get_raiseBit_key f g b u i u' i' hk

/-! ### Journal, errors, commands -/

@[simp] theorem Dev.touch_regs (d : Dev) (p : Path) : (d.touch p).regs = d.regs := rfl

/-- The places a journal record writes to. -/
theorem Dev.word_journalAs (d : Dev) (role session : Nat) (p : Path) (kind page off : Nat) (old new : Word) (object : Nat)
    {k : Key} (h1 : k ≠ fldKey R.ROLE_JOURNAL_SEQ 0 0) (h2 : k ≠ fldKey R.ROLE_EVENTS 0 0) :
    (d.journalAs role session p kind page off old new object).word k = d.word k := by
  unfold Dev.journalAs Dev.record
  simp only
  split
  · rw [Dev.word_raiseBit_other _ _ _ _ _ h2, Dev.word_put_other _ _ _ _ _ h1]; rfl
  · rw [Dev.word_put_other _ _ _ _ _ h1]; rfl

/-- What a journal record leaves as it was: all but registers, roles and the notes of accesses. -/
theorem Dev.journalAs_eq (d : Dev) (role session : Nat) (p : Path) (kind page off : Nat) (old new : Word) (object : Nat) :
    d.journalAs role session p kind page off old new object = { d with
      regs := (d.journalAs role session p kind page off old new object).regs
      roles := (d.journalAs role session p kind page off old new object).roles
      acc := (d.journalAs role session p kind page off old new object).acc } := by
  unfold Dev.journalAs Dev.record
  simp only
  split <;> rfl

/-- A journal record makes the buffer one longer. -/
theorem Dev.journalAs_length (d : Dev) (role session : Nat) (p : Path) (kind page off : Nat) (old new : Word) (object : Nat) :
    (d.journalAs role session p kind page off old new object).roles.buffer.length = d.roles.buffer.length + 1 := by
  unfold Dev.journalAs Dev.record
  simp only
  split <;> simp

/-- The note of an accepted command changes nothing else. -/
theorem Dev.ranNow_eq (d : Dev) (k : Key) : d.ranNow k = { d with acc := (d.ranNow k).acc } := by
  unfold Dev.ranNow
  split <;> try rfl
  split <;> rfl

/-- Where no command of a page's registers has been accepted in the Notch, none has at a place of them. -/
theorem assoc_none_of_all {α β : Type} [DecidableEq α] {l : List (α × β)} {k : α} (h : ∀ x ∈ l, x.1 ≠ k) : assoc l k = none := by
  induction l with
  | nil => rfl
  | cons a t ih =>
    have h1 : a.1 ≠ k := h a List.mem_cons_self
    have h2 := ih (fun x hx => h x (List.mem_cons_of_mem a hx))
    unfold assoc at *
    rw [List.find?_cons_of_neg (by simpa using h1)]
    exact h2

theorem Dev.get_of_word {d e : Dev} {f : Fld} {u i : Nat} (h : e.word (fldKey f u i) = d.word (fldKey f u i)) :
    e.get f u i = d.get f u i := by
  unfold Dev.get
  exact congrArg (fun x : Word => x.field f.lo f.w) h

/-- A command performed on an accepting page, of a register of that page and with room for its records, is its effect; the
journal adds a record, its sequence number and its event. -/
theorem Dev.command_accepts {d : Dev} {p : Path} {page off : Nat} {k : Key} {busy f : Dev → Dev}
    (h : d.accepts p page = true)
    (hk : (pageInfo d.variant page).any (fun i => some k.sp == i.space && k.idx == i.unit) = true)
    (hr : (f (d.touch p)).roles.buffer.length < 1024) :
    (∀ j, j ≠ fldKey R.ROLE_JOURNAL_SEQ 0 0 → j ≠ fldKey R.ROLE_EVENTS 0 0 →
      (d.command p page off k busy f).word j = (f (d.touch p)).word j) ∧
    d.command p page off k busy f = { f (d.touch p) with
      regs := (d.command p page off k busy f).regs, roles := (d.command p page off k busy f).roles,
      acc := (d.command p page off k busy f).acc } := by
  have hc : d.command p page off k busy f = (f (d.touch p)).ranNow k ∨
      ∃ n w, d.command p page off k busy f =
        ((f (d.touch p)).ranNow k).journalAs (d.role p) (d.sessionNo p) p 1 page off n w := by
    unfold Dev.accepts at h
    unfold Dev.command
    cases hp : pageInfo d.variant page with
    | none => simp [hp] at h
    | some i =>
      simp only [hp, Bool.and_eq_true, Bool.not_eq_true'] at h
      obtain ⟨⟨⟨⟨⟨⟨⟨h1, h2⟩, h3⟩, h4⟩, h5⟩, h6⟩, h7⟩, h8⟩ := h
      have hran : assoc d.acc.ran k = none := by
        apply assoc_none_of_all
        intro x hx he
        have := List.all_eq_true.mp h7 x hx
        simp only [hp, Option.any_some] at hk
        rw [he, hk] at this
        simp at this
      have hargs : ∀ e, d.argsWritten e k = e := by
        intro e
        unfold Dev.argsWritten
        rw [Option.isNone_iff_eq_none.mp h8]
      have hlen : ((f (d.touch p)).ranNow k).roles.buffer.length < 1024 := by rw [Dev.ranNow_eq]; exact hr
      simp only [h1, h2, h3, h4, h5, h6, hran, hargs, Bool.not_true, Bool.or_false, Option.isSome_none]
      by_cases hj : d.journals p i.audit
      · refine Or.inr ⟨d.regs.word k, ((f (d.touch p)).ranNow k).regs.word k, ?_⟩
        have hl : d.overfilled (((f (d.touch p)).ranNow k).journalAs (d.role p) (d.sessionNo p) p 1 page off (d.regs.word k)
            (((f (d.touch p)).ranNow k).regs.word k)) = false := by
          unfold Dev.overfilled; rw [Dev.journalAs_length]; simp only [decide_eq_false_iff_not]; omega
        simp only [hj, hl, Bool.false_eq_true, ↓reduceIte]
      · refine Or.inl ?_
        have hl : d.overfilled ((f (d.touch p)).ranNow k) = false := by
          unfold Dev.overfilled; simp only [decide_eq_false_iff_not]; omega
        simp only [hj, hl, Bool.false_eq_true, ↓reduceIte]
  have hw : ∀ j, ((f (d.touch p)).ranNow k).word j = (f (d.touch p)).word j := by
    intro j; rw [Dev.ranNow_eq]; rfl
  rcases hc with hc | ⟨n, w, hc⟩
  · rw [hc]
    refine ⟨fun j _ _ => hw j, ?_⟩
    rw [Dev.ranNow_eq]
  · rw [hc]
    refine ⟨fun j a b => (Dev.word_journalAs _ _ _ _ _ _ _ _ _ _ a b).trans (hw j), ?_⟩
    rw [Dev.journalAs_eq, Dev.ranNow_eq]

/-- A write of a register with a row of its own, where it is performed, is its effect; the journal adds a record, its sequence number and its event. -/
theorem Dev.guarded_admits {d : Dev} {p : Path} {page off : Nat} {k : Key} {f : Dev → Dev × Bool}
    (h : d.admits p page = true) :
    (∀ j, j ≠ fldKey R.ROLE_JOURNAL_SEQ 0 0 → j ≠ fldKey R.ROLE_EVENTS 0 0 →
      (d.guarded p page off k f).word j = (f d).1.word j) ∧
    d.guarded p page off k f = { (f d).1 with
      regs := (d.guarded p page off k f).regs, roles := (d.guarded p page off k f).roles,
      acc := (d.guarded p page off k f).acc } := by
  have hc : d.guarded p page off k f = (f d).1 ∨
      ∃ n w, d.guarded p page off k f =
        (f d).1.journalAs ((f d).1.role p) ((f d).1.sessionNo p) p 1 page off n w := by
    unfold Dev.admits at h
    unfold Dev.guarded
    cases hp : pageInfo d.variant page with
    | none => simp [hp] at h
    | some i =>
      simp only [hp, Bool.and_eq_true, Bool.not_eq_true'] at h
      obtain ⟨⟨⟨⟨⟨h1, h2⟩, h3⟩, h4⟩, h5⟩, _⟩ := h
      simp only [h1, h2, h3, h4, h5, Bool.not_true, Bool.or_false]
      by_cases hj : ((f d).2 && d.journals p i.audit) = true
      · exact Or.inr ⟨_, _, by simp only [hj, if_true]; rfl⟩
      · exact Or.inl (by simp [hj])
  rcases hc with hc | ⟨n, w, hc⟩
  · rw [hc]; exact ⟨fun _ _ _ => rfl, rfl⟩
  · rw [hc]
    exact ⟨fun j a b => Dev.word_journalAs _ _ _ _ _ _ _ _ _ _ a b, Dev.journalAs_eq _ _ _ _ _ _ _ _ _ _⟩

/-! ### Errors -/

theorem mem_errInsert {e x : ErrRec} {l : List ErrRec} : x ∈ errInsert e l ↔ x = e ∨ x ∈ l := by
  induction l with
  | nil => simp [errInsert]
  | cons y t ih =>
    rw [errInsert]
    split
    · simp
    · simp [ih, or_left_comm]

/-- Putting an error among a page's errors writes that page's three error words only. -/
theorem Dev.word_noteErr (d : Dev) (x : ErrRec) {k : Key} (h : k.sp ≠ .HDR) : (d.noteErr x).word k = d.word k := by
  have ne : ∀ f : Fld, f.sp = .HDR → ∀ u i, k ≠ fldKey f u i := fun f hf u i he => h (by rw [he]; exact hf)
  unfold Dev.noteErr
  simp only
  split <;>
    simp [Dev.word_put_other, Dev.word_count_other, ne, R.HDR_ERR_FIRST_VALID, R.HDR_ERR_FIRST_SEV, R.HDR_ERR_FIRST_CLASS,
      R.HDR_ERR_FIRST_CODE, R.HDR_ERR_FIRST_INSTANCE, R.HDR_ERR_FIRST_INST_VALID, R.HDR_ERR_FIRST_NOTCH,
      R.HDR_ERR_FIRST_DETAIL, R.HDR_ERR_CLASSES_CLASSES, R.HDR_ERR_MORE_MAX_SEV, R.HDR_ERR_MORE_COUNT,
      R.HDR_ERR_LAST_VALID, R.HDR_ERR_LAST_SEV, R.HDR_ERR_LAST_CLASS, R.HDR_ERR_LAST_NOTCH]

/-- `e` is `d` but for the registers. -/
def Dev.onlyRegs (d e : Dev) : Prop := e = { d with regs := e.regs }

theorem Dev.onlyRegs.refl (d : Dev) : d.onlyRegs d := rfl

theorem Dev.onlyRegs.trans {d e g : Dev} (h : d.onlyRegs e) (h' : e.onlyRegs g) : d.onlyRegs g := by
  unfold Dev.onlyRegs at *
  generalize g.regs = r at h'
  generalize e.regs = r' at h
  subst h'
  subst h
  rfl

theorem Dev.onlyRegs.set {d e : Dev} (h : d.onlyRegs e) (r : Store) : d.onlyRegs { e with regs := r } :=
  h.trans rfl

theorem Dev.onlyRegs.put {d e : Dev} (h : d.onlyRegs e) (f : Fld) (v u i : Nat) : d.onlyRegs (e.put f v u i) := h.set _

theorem Dev.onlyRegs.count {d e : Dev} (h : d.onlyRegs e) (f : Fld) (v u i : Nat) : d.onlyRegs (e.count f v u i) := h.set _

theorem Dev.onlyRegs.putWord {d e : Dev} (h : d.onlyRegs e) (k : Key) (v : Word) : d.onlyRegs (e.putWord k v) := h.set _

theorem Dev.onlyRegs_noteErr (d : Dev) (x : ErrRec) : d.onlyRegs (d.noteErr x) := by
  unfold Dev.noteErr
  simp only
  repeat' first
    | with_reducible exact Dev.onlyRegs.refl _
    | with_reducible apply Dev.onlyRegs.put
    | with_reducible apply Dev.onlyRegs.count
    | split

theorem Dev.remakeErr_spec (d : Dev) (p : Nat) :
    d.onlyRegs (d.remakeErr p) ∧
    ∀ k : Key, k.sp ≠ .HDR → (d.remakeErr p).word k = d.word k := by
  have start : ∀ b : Dev, (d.onlyRegs b ∧ ∀ k : Key, k.sp ≠ .HDR → b.word k = d.word k) →
      ∀ l : List ErrRec, d.onlyRegs (l.foldl Dev.noteErr b) ∧
        ∀ k : Key, k.sp ≠ .HDR → (l.foldl Dev.noteErr b).word k = d.word k := by
    intro b hb l
    induction l generalizing b with
    | nil => exact hb
    | cons x t ih =>
      exact ih (b.noteErr x) ⟨hb.1.trans (Dev.onlyRegs_noteErr b x), fun k hk => by rw [Dev.word_noteErr _ _ hk, hb.2 k hk]⟩
  have other : ∀ (b : Dev) (w : Nat) (v : Word) (k : Key), k.sp ≠ .HDR → (b.putWord ⟨.HDR, p, w⟩ v).word k = b.word k := by
    intro b w v k hk
    rw [Dev.word_putWord, if_neg (fun he => hk (by rw [he]))]
  unfold Dev.remakeErr
  refine start _ ?_ _
  split
  · exact ⟨rfl, fun k hk => by simp [Dev.clearErr, other _ _ _ k hk]⟩
  · exact ⟨rfl, fun k hk => by simp [other _ _ _ k hk]⟩

/-- An error changes the recorder, its page's error words and two words of HEALTH, and stands among the errors of the
Notch. -/
theorem Dev.error_spec (d : Dev) (page cls code detail : Nat) (inst : Option Nat) :
    d.error page cls code detail inst =
      { d with regs := (d.error page cls code detail inst).regs, errs := (d.error page cls code detail inst).errs } ∧
    (∀ k : Key, k.sp ≠ .HDR → k.sp ≠ .HEALTH → (d.error page cls code detail inst).word k = d.word k) ∧
    ⟨page, cls, code, if 4096 ≤ page then some (page - 4096) else inst, detail⟩ ∈ (d.error page cls code detail inst).errs.now := by
  have ne : ∀ (k : Key), k.sp ≠ .HEALTH → ∀ f : Fld, f.sp = .HEALTH → ∀ u i, k ≠ fldKey f u i :=
    fun k h f hf u i he => h (by rw [he]; exact hf)
  unfold Dev.error
  simp only
  generalize hd : ({ d with errs := _ } : Dev) = d1
  have h1 := Dev.remakeErr_spec d1 page
  refine ⟨?_, fun k hk hk' => ?_, ?_⟩
  · unfold Dev.countFatal
    have h2 := (h1.1.count R.HEALTH_ERRS 1 0 (classSev cls)).put R.HEALTH_STATUS_FATAL_OPEN
      (saturate 8 (fatalPages ((d1.remakeErr page).count R.HEALTH_ERRS 1 0 (classSev cls)).regs)) 0 0
    unfold Dev.onlyRegs at h2
    rw [h2, ← hd]
  · unfold Dev.countFatal
    rw [Dev.word_put_other _ _ _ _ _ (ne k hk' _ rfl _ _), Dev.word_count_other _ _ _ _ _ (ne k hk' _ rfl _ _), h1.2 k hk,
      ← hd]
    rfl
  · have : (((d1.remakeErr page).count R.HEALTH_ERRS 1 0 (classSev cls)).countFatal).errs = d1.errs := by
      unfold Dev.countFatal
      rw [Dev.put_errs, Dev.count_errs, h1.1]
    rw [this, ← hd]
    exact mem_errInsert.2 (Or.inl rfl)

end Machine
end Sys2Proof
end

