-- ==== Sys2Proof/Laws/PerInstr.lean ====
section
/-! SUPPORT. Facts about each command as syntax: which commands come over a path, that they and the writes of a host's
configuration space act at level 7 of R50, and that a well-formed one names a path that there is. -/

namespace Sys2Proof.Laws.Source

/-- Whether a command is a write of the configuration space or the MSI-X table of a host's function (10 R385). -/
def hostWrites (i : Instr) : Bool :=
  match i with
  | .configRequest _ (.write ..) => true
  | .configRequest _ (.msixControl ..) => true
  | .configRequest _ (.msixEntry ..) => true
  | _ => false

/-- A command comes over a path, or writes a host's configuration space, exactly when it acts at level 7, and the path of a
well-formed command is a path that there is. -/
def Statement (i : Instr) : Prop :=
  ((i.source.isSome || hostWrites i) = true ↔ i.level = 7) ∧ (i.wellFormed = true → ∀ p, i.source = some p → pathOk p = true)

theorem Statement.of_path {i : Instr} {p : Path} (h : i.source = some p) (hl : i.level = 7)
    (hw : i.wellFormed = true → pathOk p = true) : Statement i := by
  refine ⟨⟨fun _ => hl, fun _ => by rw [h]; rfl⟩, fun hi q hq => ?_⟩
  rw [h] at hq
  cases hq
  exact hw hi

theorem Statement.of_event {i : Instr} (h : i.source = none) (hl : i.level ≠ 7) (hh : hostWrites i = false) :
    Statement i := by
  refine ⟨⟨fun hs => ?_, fun hs => absurd hs hl⟩, fun _ q hq => ?_⟩
  · rw [h, hh] at hs; cases hs
  · rw [h] at hq; cases hq

theorem registerWrite (x0 : Path) (x1 : Nat) (x2 : Nat) (x3 : Bool) (x4 : Word) : Statement (.registerWrite x0 x1 x2 x3 x4) :=
  .of_path rfl rfl (fun h => (Bool.and_eq_true_iff.1 (Bool.and_eq_true_iff.1 h).1).1)

theorem rcRead (x0 : Path) (x1 : Nat) (x2 : Nat) (x3 : Bool) : Statement (.rcRead x0 x1 x2 x3) :=
  .of_path rfl rfl (fun h => (Bool.and_eq_true_iff.1 (Bool.and_eq_true_iff.1 h).1).1)

theorem errAck (x0 : Path) (x1 : Nat) : Statement (.errAck x0 x1) :=
  .of_path rfl rfl (fun h => (Bool.and_eq_true_iff.1 h).1)

theorem slewWrite (x0 : Path) (x1 : Word) : Statement (.slewWrite x0 x1) :=
  .of_path rfl rfl (fun h => h)

theorem dialCtrlWrite (x0 : Path) (x1 : Word) : Statement (.dialCtrlWrite x0 x1) :=
  .of_path rfl rfl (fun h => h)

theorem servoSample (x0 : Int) : Statement (.servoSample x0) :=
  .of_event rfl (show (5 : Nat) ≠ 7 by decide) rfl

theorem ppsInEdge (x0 : Nat) : Statement (.ppsInEdge x0) :=
  .of_event rfl (show (5 : Nat) ≠ 7 by decide) rfl

theorem todMessage (x0 : List Byte) : Statement (.todMessage x0) :=
  .of_event rfl (show (5 : Nat) ≠ 7 by decide) rfl

theorem stepRel (x0 : Path) : Statement (.stepRel x0) :=
  .of_path rfl rfl (fun h => h)

theorem setAbs (x0 : Path) : Statement (.setAbs x0) :=
  .of_path rfl rfl (fun h => h)

theorem notchCountRead (x0 : Path) : Statement (.notchCountRead x0) :=
  .of_path rfl rfl (fun h => h)

theorem frameReceive (x0 : Nat) (x1 : Nat) (x2 : List Byte) (x3 : Bool) (x4 : Bool) : Statement (.frameReceive x0 x1 x2 x3 x4) :=
  .of_event rfl (show (5 : Nat) ≠ 7 by decide) rfl

theorem cellGrant (x0 : Nat) (x1 : Nat) : Statement (.cellGrant x0 x1) :=
  .of_event rfl (show (5 : Nat) ≠ 7 by decide) rfl

theorem ticketCreate (x0 : Nat) : Statement (.ticketCreate x0) :=
  .of_event rfl (show (5 : Nat) ≠ 7 by decide) rfl

theorem deal (x0 : Hop) : Statement (.deal x0) :=
  .of_event rfl (show (5 : Nat) ≠ 7 by decide) rfl

theorem dispatch (x0 : Hop) : Statement (.dispatch x0) :=
  .of_event rfl (show (5 : Nat) ≠ 7 by decide) rfl

theorem defileArrival (x0 : Nat) (x1 : Nat) (x2 : Bool) : Statement (.defileArrival x0 x1 x2) :=
  .of_event rfl (show (5 : Nat) ≠ 7 by decide) rfl

theorem holeSkip (x0 : Nat) : Statement (.holeSkip x0) :=
  .of_event rfl (show (6 : Nat) ≠ 7 by decide) rfl

theorem admission (x0 : Hop) : Statement (.admission x0) :=
  .of_event rfl (show (5 : Nat) ≠ 7 by decide) rfl

theorem egressRequest (x0 : Nat) : Statement (.egressRequest x0) :=
  .of_event rfl (show (5 : Nat) ≠ 7 by decide) rfl

theorem frameStart (x0 : Nat) (x1 : Nat) (x2 : Bool) (x3 : CellFault) : Statement (.frameStart x0 x1 x2 x3) :=
  .of_event rfl (show (5 : Nat) ≠ 7 by decide) rfl

theorem frameComplete (x0 : Nat) (x1 : Nat) (x2 : CellFault) : Statement (.frameComplete x0 x1 x2) :=
  .of_event rfl (show (5 : Nat) ≠ 7 by decide) rfl

theorem ageDrop (x0 : Nat) : Statement (.ageDrop x0) :=
  .of_event rfl (show (6 : Nat) ≠ 7 by decide) rfl

theorem bankRetired (x0 : Nat) : Statement (.bankRetired x0) :=
  .of_event rfl (show (3 : Nat) ≠ 7 by decide) rfl

theorem applyMode (x0 : Path) (x1 : Nat) : Statement (.applyMode x0 x1) :=
  .of_path rfl rfl (fun h => (Bool.and_eq_true_iff.1 h).1)

theorem recal (x0 : Path) (x1 : Nat) (x2 : Nat) : Statement (.recal x0 x1 x2) :=
  .of_path rfl rfl (fun h => (Bool.and_eq_true_iff.1 (Bool.and_eq_true_iff.1 h).1).1)

theorem linkTrainingStart (x0 : Nat) : Statement (.linkTrainingStart x0) :=
  .of_event rfl (show (5 : Nat) ≠ 7 by decide) rfl

theorem linkUp (x0 : Nat) : Statement (.linkUp x0) :=
  .of_event rfl (show (5 : Nat) ≠ 7 by decide) rfl

theorem linkDown (x0 : Nat) : Statement (.linkDown x0) :=
  .of_event rfl (show (3 : Nat) ≠ 7 by decide) rfl

theorem adminDown (x0 : Path) (x1 : Nat) : Statement (.adminDown x0 x1) :=
  .of_path rfl rfl (fun h => (Bool.and_eq_true_iff.1 h).1)

theorem fecWindow (x0 : Nat) (x1 : Nat) (x2 : Nat) (x3 : Nat) : Statement (.fecWindow x0 x1 x2 x3) :=
  .of_event rfl (show (3 : Nat) ≠ 7 by decide) rfl

theorem calDrift (x0 : Nat) (x1 : Nat) (x2 : Bool) : Statement (.calDrift x0 x1 x2) :=
  .of_event rfl (show (3 : Nat) ≠ 7 by decide) rfl

theorem pauseReceived (x0 : Nat) : Statement (.pauseReceived x0) :=
  .of_event rfl (show (5 : Nat) ≠ 7 by decide) rfl

theorem pfcReceived (x0 : Nat) : Statement (.pfcReceived x0) :=
  .of_event rfl (show (5 : Nat) ≠ 7 by decide) rfl

theorem pauseTimerExpiry (x0 : Nat) (x1 : Nat) : Statement (.pauseTimerExpiry x0 x1) :=
  .of_event rfl (show (6 : Nat) ≠ 7 by decide) rfl

theorem flowControlSend (x0 : Nat) : Statement (.flowControlSend x0) :=
  .of_event rfl (show (5 : Nat) ≠ 7 by decide) rfl

theorem pfcRefresh (x0 : Nat) (x1 : Nat) : Statement (.pfcRefresh x0 x1) :=
  .of_event rfl (show (6 : Nat) ≠ 7 by decide) rfl

theorem enterStandby (x0 : Path) (x1 : StoreWrite) : Statement (.enterStandby x0 x1) :=
  .of_path rfl rfl (fun h => h)

theorem wakeMatch (x0 : List Byte) (x1 : Bool) : Statement (.wakeMatch x0 x1) :=
  .of_event rfl (show (2 : Nat) ≠ 7 by decide) rfl

theorem coreStop (x0 : Nat) (x1 : Nat) : Statement (.coreStop x0 x1) :=
  .of_event rfl (show (3 : Nat) ≠ 7 by decide) rfl

theorem coreRestartAuto (x0 : Nat) (x1 : Nat) : Statement (.coreRestartAuto x0 x1) :=
  .of_event rfl (show (4 : Nat) ≠ 7 by decide) rfl

theorem restartCore (x0 : Path) (x1 : Nat) (x2 : Nat) : Statement (.restartCore x0 x1 x2) :=
  .of_path rfl rfl (fun h => (Bool.and_eq_true_iff.1 (Bool.and_eq_true_iff.1 h).1).1)

theorem stallAll (x0 : Nat) (x1 : Nat) : Statement (.stallAll x0 x1) :=
  .of_event rfl (show (3 : Nat) ≠ 7 by decide) rfl

theorem stallGlen (x0 : Nat) : Statement (.stallGlen x0) :=
  .of_event rfl (show (3 : Nat) ≠ 7 by decide) rfl

theorem halt (x0 : Path) (x1 : Nat) : Statement (.halt x0 x1) :=
  .of_path rfl rfl (fun h => (Bool.and_eq_true_iff.1 h).1)

theorem gphysResume (x0 : Path) (x1 : Nat) : Statement (.gphysResume x0 x1) :=
  .of_path rfl rfl (fun h => (Bool.and_eq_true_iff.1 h).1)

theorem step (x0 : Path) (x1 : Nat) : Statement (.step x0 x1) :=
  .of_path rfl rfl (fun h => (Bool.and_eq_true_iff.1 h).1)

theorem abortStage (x0 : Path) (x1 : Nat) : Statement (.abortStage x0 x1) :=
  .of_path rfl rfl (fun h => (Bool.and_eq_true_iff.1 h).1)

theorem dropTicket (x0 : Path) (x1 : Nat) : Statement (.dropTicket x0 x1) :=
  .of_path rfl rfl (fun h => (Bool.and_eq_true_iff.1 h).1)

theorem break_ (x0 : Nat) (x1 : Nat) (x2 : Nat) : Statement (.break_ x0 x1 x2) :=
  .of_event rfl (show (5 : Nat) ≠ 7 by decide) rfl

theorem heartbeatSend (x0 : Nat) : Statement (.heartbeatSend x0) :=
  .of_event rfl (show (6 : Nat) ≠ 7 by decide) rfl

theorem fillStart (x0 : Nat) : Statement (.fillStart x0) :=
  .of_event rfl (show (4 : Nat) ≠ 7 by decide) rfl

theorem fillComplete (x0 : Nat) : Statement (.fillComplete x0) :=
  .of_event rfl (show (3 : Nat) ≠ 7 by decide) rfl

theorem fillFail (x0 : Nat) : Statement (.fillFail x0) :=
  .of_event rfl (show (3 : Nat) ≠ 7 by decide) rfl

theorem stageProg (x0 : Path) (x1 : Nat) (x2 : Option (List Byte)) : Statement (.stageProg x0 x1 x2) :=
  .of_path rfl rfl (fun h => (Bool.and_eq_true_iff.1 h).1)

theorem handover (x0 : Path) (x1 : Nat) (x2 : Nat) : Statement (.handover x0 x1 x2) :=
  .of_path rfl rfl (fun h => (Bool.and_eq_true_iff.1 (Bool.and_eq_true_iff.1 h).1).1)

theorem handoverDrainEnd (x0 : Nat) : Statement (.handoverDrainEnd x0) :=
  .of_event rfl (show (4 : Nat) ≠ 7 by decide) rfl

theorem admitGlen (x0 : Path) (x1 : Nat) (x2 : Nat) : Statement (.admitGlen x0 x1 x2) :=
  .of_path rfl rfl (fun h => (Bool.and_eq_true_iff.1 (Bool.and_eq_true_iff.1 h).1).1)

theorem selftest (x0 : Path) (x1 : Nat) : Statement (.selftest x0 x1) :=
  .of_path rfl rfl (fun h => (Bool.and_eq_true_iff.1 h).1)

theorem selftestDone (x0 : Nat) (x1 : Bool) : Statement (.selftestDone x0 x1) :=
  .of_event rfl (show (4 : Nat) ≠ 7 by decide) rfl

theorem nop (x0 : Issue) : Statement (.nop x0) :=
  .of_event rfl (show (5 : Nat) ≠ 7 by decide) rfl

theorem add (x0 : Issue) (x1 : Nat) (x2 : Nat) (x3 : Nat) : Statement (.add x0 x1 x2 x3) :=
  .of_event rfl (show (5 : Nat) ≠ 7 by decide) rfl

theorem sub (x0 : Issue) (x1 : Nat) (x2 : Nat) (x3 : Nat) : Statement (.sub x0 x1 x2 x3) :=
  .of_event rfl (show (5 : Nat) ≠ 7 by decide) rfl

theorem and_ (x0 : Issue) (x1 : Nat) (x2 : Nat) (x3 : Nat) : Statement (.and_ x0 x1 x2 x3) :=
  .of_event rfl (show (5 : Nat) ≠ 7 by decide) rfl

theorem or_ (x0 : Issue) (x1 : Nat) (x2 : Nat) (x3 : Nat) : Statement (.or_ x0 x1 x2 x3) :=
  .of_event rfl (show (5 : Nat) ≠ 7 by decide) rfl

theorem xor (x0 : Issue) (x1 : Nat) (x2 : Nat) (x3 : Nat) : Statement (.xor x0 x1 x2 x3) :=
  .of_event rfl (show (5 : Nat) ≠ 7 by decide) rfl

theorem shl (x0 : Issue) (x1 : Nat) (x2 : Nat) (x3 : Nat) : Statement (.shl x0 x1 x2 x3) :=
  .of_event rfl (show (5 : Nat) ≠ 7 by decide) rfl

theorem shr (x0 : Issue) (x1 : Nat) (x2 : Nat) (x3 : Nat) : Statement (.shr x0 x1 x2 x3) :=
  .of_event rfl (show (5 : Nat) ≠ 7 by decide) rfl

theorem sar (x0 : Issue) (x1 : Nat) (x2 : Nat) (x3 : Nat) : Statement (.sar x0 x1 x2 x3) :=
  .of_event rfl (show (5 : Nat) ≠ 7 by decide) rfl

theorem mul (x0 : Issue) (x1 : Nat) (x2 : Nat) (x3 : Nat) : Statement (.mul x0 x1 x2 x3) :=
  .of_event rfl (show (5 : Nat) ≠ 7 by decide) rfl

theorem sltu (x0 : Issue) (x1 : Nat) (x2 : Nat) (x3 : Nat) : Statement (.sltu x0 x1 x2 x3) :=
  .of_event rfl (show (5 : Nat) ≠ 7 by decide) rfl

theorem slt (x0 : Issue) (x1 : Nat) (x2 : Nat) (x3 : Nat) : Statement (.slt x0 x1 x2 x3) :=
  .of_event rfl (show (5 : Nat) ≠ 7 by decide) rfl

theorem crc32c (x0 : Issue) (x1 : Nat) (x2 : Nat) (x3 : Nat) : Statement (.crc32c x0 x1 x2 x3) :=
  .of_event rfl (show (5 : Nat) ≠ 7 by decide) rfl

theorem minu (x0 : Issue) (x1 : Nat) (x2 : Nat) (x3 : Nat) : Statement (.minu x0 x1 x2 x3) :=
  .of_event rfl (show (5 : Nat) ≠ 7 by decide) rfl

theorem maxu (x0 : Issue) (x1 : Nat) (x2 : Nat) (x3 : Nat) : Statement (.maxu x0 x1 x2 x3) :=
  .of_event rfl (show (5 : Nat) ≠ 7 by decide) rfl

theorem addi (x0 : Issue) (x1 : Nat) (x2 : Nat) (x3 : Nat) : Statement (.addi x0 x1 x2 x3) :=
  .of_event rfl (show (5 : Nat) ≠ 7 by decide) rfl

theorem andi (x0 : Issue) (x1 : Nat) (x2 : Nat) (x3 : Nat) : Statement (.andi x0 x1 x2 x3) :=
  .of_event rfl (show (5 : Nat) ≠ 7 by decide) rfl

theorem ori (x0 : Issue) (x1 : Nat) (x2 : Nat) (x3 : Nat) : Statement (.ori x0 x1 x2 x3) :=
  .of_event rfl (show (5 : Nat) ≠ 7 by decide) rfl

theorem xori (x0 : Issue) (x1 : Nat) (x2 : Nat) (x3 : Nat) : Statement (.xori x0 x1 x2 x3) :=
  .of_event rfl (show (5 : Nat) ≠ 7 by decide) rfl

theorem shli (x0 : Issue) (x1 : Nat) (x2 : Nat) (x3 : Nat) : Statement (.shli x0 x1 x2 x3) :=
  .of_event rfl (show (5 : Nat) ≠ 7 by decide) rfl

theorem shri (x0 : Issue) (x1 : Nat) (x2 : Nat) (x3 : Nat) : Statement (.shri x0 x1 x2 x3) :=
  .of_event rfl (show (5 : Nat) ≠ 7 by decide) rfl

theorem sari (x0 : Issue) (x1 : Nat) (x2 : Nat) (x3 : Nat) : Statement (.sari x0 x1 x2 x3) :=
  .of_event rfl (show (5 : Nat) ≠ 7 by decide) rfl

theorem movi (x0 : Issue) (x1 : Nat) (x2 : Nat) : Statement (.movi x0 x1 x2) :=
  .of_event rfl (show (5 : Nat) ≠ 7 by decide) rfl

theorem movhi (x0 : Issue) (x1 : Nat) (x2 : Nat) : Statement (.movhi x0 x1 x2) :=
  .of_event rfl (show (5 : Nat) ≠ 7 by decide) rfl

theorem ext (x0 : Issue) (x1 : Nat) (x2 : Nat) (x3 : Nat) : Statement (.ext x0 x1 x2 x3) :=
  .of_event rfl (show (5 : Nat) ≠ 7 by decide) rfl

theorem ins (x0 : Issue) (x1 : Nat) (x2 : Nat) (x3 : Nat) : Statement (.ins x0 x1 x2 x3) :=
  .of_event rfl (show (5 : Nat) ≠ 7 by decide) rfl

theorem bcc (x0 : Issue) (x1 : Nat) (x2 : Nat) (x3 : Nat) (x4 : Nat) : Statement (.bcc x0 x1 x2 x3 x4) :=
  .of_event rfl (show (5 : Nat) ≠ 7 by decide) rfl

theorem jmp (x0 : Issue) (x1 : Nat) : Statement (.jmp x0 x1) :=
  .of_event rfl (show (5 : Nat) ≠ 7 by decide) rfl

theorem call (x0 : Issue) (x1 : Nat) (x2 : Nat) : Statement (.call x0 x1 x2) :=
  .of_event rfl (show (5 : Nat) ≠ 7 by decide) rfl

theorem jr (x0 : Issue) (x1 : Nat) : Statement (.jr x0 x1) :=
  .of_event rfl (show (5 : Nat) ≠ 7 by decide) rfl

theorem ld (x0 : Issue) (x1 : Nat) (x2 : Nat) (x3 : Nat) (x4 : Nat) : Statement (.ld x0 x1 x2 x3 x4) :=
  .of_event rfl (show (5 : Nat) ≠ 7 by decide) rfl

theorem st (x0 : Issue) (x1 : Nat) (x2 : Nat) (x3 : Nat) (x4 : Nat) : Statement (.st x0 x1 x2 x3 x4) :=
  .of_event rfl (show (5 : Nat) ≠ 7 by decide) rfl

theorem amoadd (x0 : Issue) (x1 : Nat) (x2 : Nat) (x3 : Nat) (x4 : Nat) : Statement (.amoadd x0 x1 x2 x3 x4) :=
  .of_event rfl (show (5 : Nat) ≠ 7 by decide) rfl

theorem scratchReply (x0 : ThreadId) : Statement (.scratchReply x0) :=
  .of_event rfl (show (5 : Nat) ≠ 7 by decide) rfl

theorem wld (x0 : Issue) (x1 : Nat) (x2 : Nat) (x3 : Nat) (x4 : Nat) : Statement (.wld x0 x1 x2 x3 x4) :=
  .of_event rfl (show (5 : Nat) ≠ 7 by decide) rfl

theorem wst (x0 : Issue) (x1 : Nat) (x2 : Nat) (x3 : Nat) (x4 : Nat) (x5 : Nat) : Statement (.wst x0 x1 x2 x3 x4 x5) :=
  .of_event rfl (show (5 : Nat) ≠ 7 by decide) rfl

theorem wpush (x0 : Issue) (x1 : Nat) (x2 : Nat) (x3 : Nat) : Statement (.wpush x0 x1 x2 x3) :=
  .of_event rfl (show (5 : Nat) ≠ 7 by decide) rfl

theorem wpushs (x0 : Issue) (x1 : Nat) (x2 : Nat) (x3 : Nat) (x4 : Nat) : Statement (.wpushs x0 x1 x2 x3 x4) :=
  .of_event rfl (show (5 : Nat) ≠ 7 by decide) rfl

theorem wpop (x0 : Issue) (x1 : Nat) (x2 : Nat) (x3 : Nat) : Statement (.wpop x0 x1 x2 x3) :=
  .of_event rfl (show (5 : Nat) ≠ 7 by decide) rfl

theorem wcpy (x0 : Issue) (x1 : Nat) (x2 : Nat) (x3 : Nat) (x4 : Nat) : Statement (.wcpy x0 x1 x2 x3 x4) :=
  .of_event rfl (show (5 : Nat) ≠ 7 by decide) rfl

theorem tld (x0 : Issue) (x1 : Nat) (x2 : Nat) : Statement (.tld x0 x1 x2) :=
  .of_event rfl (show (5 : Nat) ≠ 7 by decide) rfl

theorem tst (x0 : Issue) (x1 : Nat) (x2 : Nat) : Statement (.tst x0 x1 x2) :=
  .of_event rfl (show (5 : Nat) ≠ 7 by decide) rfl

theorem tldq (x0 : Issue) (x1 : Nat) (x2 : Nat) : Statement (.tldq x0 x1 x2) :=
  .of_event rfl (show (5 : Nat) ≠ 7 by decide) rfl

theorem stat (x0 : Issue) (x1 : Nat) : Statement (.stat x0 x1) :=
  .of_event rfl (show (5 : Nat) ≠ 7 by decide) rfl

theorem chwr (x0 : Issue) (x1 : Nat) (x2 : Nat) : Statement (.chwr x0 x1 x2) :=
  .of_event rfl (show (5 : Nat) ≠ 7 by decide) rfl

theorem chcommit (x0 : Issue) : Statement (.chcommit x0) :=
  .of_event rfl (show (5 : Nat) ≠ 7 by decide) rfl

theorem chrd (x0 : Issue) (x1 : Nat) (x2 : Nat) (x3 : Nat) : Statement (.chrd x0 x1 x2 x3) :=
  .of_event rfl (show (5 : Nat) ≠ 7 by decide) rfl

theorem chtry (x0 : Issue) (x1 : Nat) (x2 : Nat) (x3 : Nat) : Statement (.chtry x0 x1 x2 x3) :=
  .of_event rfl (show (5 : Nat) ≠ 7 by decide) rfl

theorem lkacq (x0 : Issue) (x1 : Nat) (x2 : Nat) : Statement (.lkacq x0 x1 x2) :=
  .of_event rfl (show (5 : Nat) ≠ 7 by decide) rfl

theorem lkrel (x0 : Issue) (x1 : Nat) (x2 : Nat) : Statement (.lkrel x0 x1 x2) :=
  .of_event rfl (show (5 : Nat) ≠ 7 by decide) rfl

theorem lktry (x0 : Issue) (x1 : Nat) (x2 : Nat) (x3 : Nat) : Statement (.lktry x0 x1 x2 x3) :=
  .of_event rfl (show (5 : Nat) ≠ 7 by decide) rfl

theorem evpost (x0 : Issue) (x1 : Nat) : Statement (.evpost x0 x1) :=
  .of_event rfl (show (5 : Nat) ≠ 7 by decide) rfl

theorem evwait (x0 : Issue) : Statement (.evwait x0) :=
  .of_event rfl (show (5 : Nat) ≠ 7 by decide) rfl

theorem flook (x0 : Issue) (x1 : Nat) (x2 : Nat) (x3 : Nat) (x4 : Nat) (x5 : TableMem) : Statement (.flook x0 x1 x2 x3 x4 x5) :=
  .of_event rfl (show (5 : Nat) ≠ 7 by decide) rfl

theorem rlook (x0 : Issue) (x1 : Nat) (x2 : Nat) (x3 : Nat) (x4 : TableMem) : Statement (.rlook x0 x1 x2 x3 x4) :=
  .of_event rfl (show (5 : Nat) ≠ 7 by decide) rfl

theorem mlook (x0 : Issue) (x1 : Nat) (x2 : Nat) (x3 : TableMem) : Statement (.mlook x0 x1 x2 x3) :=
  .of_event rfl (show (5 : Nat) ≠ 7 by decide) rfl

theorem mlearn (x0 : Issue) (x1 : Nat) (x2 : Nat) (x3 : Nat) (x4 : TableMem) : Statement (.mlearn x0 x1 x2 x3 x4) :=
  .of_event rfl (show (5 : Nat) ≠ 7 by decide) rfl

theorem rule (x0 : Issue) (x1 : Nat) (x2 : Nat) (x3 : Nat) (x4 : Nat) (x5 : TableMem) : Statement (.rule x0 x1 x2 x3 x4 x5) :=
  .of_event rfl (show (5 : Nat) ≠ 7 by decide) rfl

theorem tableReply (x0 : ThreadId) : Statement (.tableReply x0) :=
  .of_event rfl (show (5 : Nat) ≠ 7 by decide) rfl

theorem emit (x0 : Issue) : Statement (.emit x0) :=
  .of_event rfl (show (5 : Nat) ≠ 7 by decide) rfl

theorem trap (x0 : Issue) (x1 : Nat) : Statement (.trap x0 x1) :=
  .of_event rfl (show (5 : Nat) ≠ 7 by decide) rfl

theorem csrr (x0 : Issue) (x1 : Nat) (x2 : Nat) : Statement (.csrr x0 x1 x2) :=
  .of_event rfl (show (5 : Nat) ≠ 7 by decide) rfl

theorem csrw (x0 : Issue) (x1 : Nat) (x2 : Nat) : Statement (.csrw x0 x1 x2) :=
  .of_event rfl (show (5 : Nat) ≠ 7 by decide) rfl

theorem swint (x0 : Issue) (x1 : Nat) : Statement (.swint x0 x1) :=
  .of_event rfl (show (5 : Nat) ≠ 7 by decide) rfl

theorem mreq (x0 : Issue) (x1 : Nat) : Statement (.mreq x0 x1) :=
  .of_event rfl (show (5 : Nat) ≠ 7 by decide) rfl

theorem eret (x0 : Issue) : Statement (.eret x0) :=
  .of_event rfl (show (5 : Nat) ≠ 7 by decide) rfl

theorem wfi (x0 : Issue) : Statement (.wfi x0) :=
  .of_event rfl (show (5 : Nat) ≠ 7 by decide) rfl

theorem mld (x0 : Issue) (x1 : Nat) (x2 : Nat) (x3 : Nat) (x4 : Nat) : Statement (.mld x0 x1 x2 x3 x4) :=
  .of_event rfl (show (5 : Nat) ≠ 7 by decide) rfl

theorem mst (x0 : Issue) (x1 : Nat) (x2 : Nat) (x3 : Nat) (x4 : Nat) : Statement (.mst x0 x1 x2 x3 x4) :=
  .of_event rfl (show (5 : Nat) ≠ 7 by decide) rfl

theorem fence (x0 : Issue) : Statement (.fence x0) :=
  .of_event rfl (show (5 : Nat) ≠ 7 by decide) rfl

theorem coreTimer (x0 : Nat) : Statement (.coreTimer x0) :=
  .of_event rfl (show (5 : Nat) ≠ 7 by decide) rfl

theorem insert (x0 : Path) (x1 : Nat) : Statement (.insert x0 x1) :=
  .of_path rfl rfl (fun h => (Bool.and_eq_true_iff.1 h).1)

theorem replace (x0 : Path) (x1 : Nat) : Statement (.replace x0 x1) :=
  .of_path rfl rfl (fun h => (Bool.and_eq_true_iff.1 h).1)

theorem delete (x0 : Path) (x1 : Nat) : Statement (.delete x0 x1) :=
  .of_path rfl rfl (fun h => (Bool.and_eq_true_iff.1 h).1)

theorem find (x0 : Path) (x1 : Nat) : Statement (.find x0 x1) :=
  .of_path rfl rfl (fun h => (Bool.and_eq_true_iff.1 h).1)

theorem deleteIndex (x0 : Path) (x1 : Nat) : Statement (.deleteIndex x0 x1) :=
  .of_path rfl rfl (fun h => (Bool.and_eq_true_iff.1 h).1)

theorem rebuildBegin (x0 : Path) (x1 : Nat) : Statement (.rebuildBegin x0 x1) :=
  .of_path rfl rfl (fun h => (Bool.and_eq_true_iff.1 h).1)

theorem migrate (x0 : Path) (x1 : Nat) : Statement (.migrate x0 x1) :=
  .of_path rfl rfl (fun h => (Bool.and_eq_true_iff.1 h).1)

theorem switch (x0 : Path) (x1 : Nat) : Statement (.switch x0 x1) :=
  .of_path rfl rfl (fun h => (Bool.and_eq_true_iff.1 h).1)

theorem flush (x0 : Path) (x1 : Nat) : Statement (.flush x0 x1) :=
  .of_path rfl rfl (fun h => (Bool.and_eq_true_iff.1 h).1)

theorem attachLeaf (x0 : Path) (x1 : Nat) (x2 : Nat) : Statement (.attachLeaf x0 x1 x2) :=
  .of_path rfl rfl (fun h => (Bool.and_eq_true_iff.1 (Bool.and_eq_true_iff.1 h).1).1)

theorem attachNode (x0 : Path) (x1 : Nat) (x2 : Nat) (x3 : Nat) : Statement (.attachNode x0 x1 x2 x3) :=
  .of_path rfl rfl (fun h => (Bool.and_eq_true_iff.1 (Bool.and_eq_true_iff.1 (Bool.and_eq_true_iff.1 h).1).1).1)

theorem detachLeaf (x0 : Path) (x1 : Nat) : Statement (.detachLeaf x0 x1) :=
  .of_path rfl rfl (fun h => (Bool.and_eq_true_iff.1 h).1)

theorem detachNode (x0 : Path) (x1 : Nat) : Statement (.detachNode x0 x1) :=
  .of_path rfl rfl (fun h => (Bool.and_eq_true_iff.1 h).1)

theorem gateSwitch (x0 : Path) (x1 : Nat) (x2 : Nat) : Statement (.gateSwitch x0 x1 x2) :=
  .of_path rfl rfl (fun h => (Bool.and_eq_true_iff.1 (Bool.and_eq_true_iff.1 h).1).1)

theorem gateSwitched (x0 : Nat) (x1 : Nat) : Statement (.gateSwitched x0 x1) :=
  .of_event rfl (show (6 : Nat) ≠ 7 by decide) rfl

theorem doorbell (x0 : Nat) (x1 : Nat) (x2 : Nat) (x3 : Nat) (x4 : List (Option (List Byte))) (x5 : Bool) : Statement (.doorbell x0 x1 x2 x3 x4 x5) :=
  .of_event rfl (show (5 : Nat) ≠ 7 by decide) rfl

theorem txChainServe (x0 : HostPort) (x1 : List (Option (List Byte))) : Statement (.txChainServe x0 x1) :=
  .of_event rfl (show (5 : Nat) ≠ 7 by decide) rfl

theorem txCompletion (x0 : Nat) : Statement (.txCompletion x0) :=
  .of_event rfl (show (5 : Nat) ≠ 7 by decide) rfl

theorem rxHoldStart (x0 : Nat) : Statement (.rxHoldStart x0) :=
  .of_event rfl (show (5 : Nat) ≠ 7 by decide) rfl

theorem rxNobuf (x0 : Nat) : Statement (.rxNobuf x0) :=
  .of_event rfl (show (6 : Nat) ≠ 7 by decide) rfl

theorem interruptRaise (x0 : Nat) : Statement (.interruptRaise x0) :=
  .of_event rfl (show (5 : Nat) ≠ 7 by decide) rfl

theorem retrain (x0 : Path) (x1 : HostPort) : Statement (.retrain x0 x1) :=
  .of_path rfl rfl (fun h => h)

theorem hostLinkUp (x0 : HostPort) (x1 : Nat) (x2 : Nat) (x3 : Bool) : Statement (.hostLinkUp x0 x1 x2 x3) :=
  .of_event rfl (show (5 : Nat) ≠ 7 by decide) rfl

theorem hostLinkDown (x0 : HostPort) : Statement (.hostLinkDown x0) :=
  .of_event rfl (show (3 : Nat) ≠ 7 by decide) rfl

theorem perstAssert (x0 : HostPort) : Statement (.perstAssert x0) :=
  .of_event rfl (show (2 : Nat) ≠ 7 by decide) rfl

theorem perstRelease (x0 : HostPort) : Statement (.perstRelease x0) :=
  .of_event rfl (show (2 : Nat) ≠ 7 by decide) rfl

theorem configRequest (x0 : Nat) (x1 : ConfigOp) : Statement (.configRequest x0 x1) := by
  refine ⟨?_, fun _ q hq => nomatch hq⟩
  cases x1 <;> simp [Instr.source, hostWrites, Instr.level, ConfigOp.level]

theorem pfFlr (x0 : Nat) : Statement (.pfFlr x0) :=
  .of_event rfl (show (2 : Nat) ≠ 7 by decide) rfl

theorem vfFlr (x0 : Nat) : Statement (.vfFlr x0) :=
  .of_event rfl (show (2 : Nat) ≠ 7 by decide) rfl

theorem activate (x0 : Path) (x1 : Nat) : Statement (.activate x0 x1) :=
  .of_path rfl rfl (fun h => (Bool.and_eq_true_iff.1 h).1)

theorem quiesce (x0 : Path) (x1 : Nat) : Statement (.quiesce x0 x1) :=
  .of_path rfl rfl (fun h => (Bool.and_eq_true_iff.1 h).1)

theorem quiesceDrainDone (x0 : Nat) : Statement (.quiesceDrainDone x0) :=
  .of_event rfl (show (4 : Nat) ≠ 7 by decide) rfl

theorem quiesceForced (x0 : Nat) : Statement (.quiesceForced x0) :=
  .of_event rfl (show (4 : Nat) ≠ 7 by decide) rfl

theorem resume (x0 : Path) (x1 : Nat) : Statement (.resume x0 x1) :=
  .of_path rfl rfl (fun h => (Bool.and_eq_true_iff.1 h).1)

theorem freeze (x0 : Path) (x1 : Nat) : Statement (.freeze x0 x1) :=
  .of_path rfl rfl (fun h => (Bool.and_eq_true_iff.1 h).1)

theorem thaw (x0 : Path) (x1 : Nat) : Statement (.thaw x0 x1) :=
  .of_path rfl rfl (fun h => (Bool.and_eq_true_iff.1 h).1)

theorem save (x0 : Path) (x1 : Nat) : Statement (.save x0 x1) :=
  .of_path rfl rfl (fun h => (Bool.and_eq_true_iff.1 h).1)

theorem saveComplete (x0 : Nat) (x1 : Bool) : Statement (.saveComplete x0 x1) :=
  .of_event rfl (show (4 : Nat) ≠ 7 by decide) rfl

theorem restore (x0 : Path) (x1 : Nat) : Statement (.restore x0 x1) :=
  .of_path rfl rfl (fun h => (Bool.and_eq_true_iff.1 h).1)

theorem restoreComplete (x0 : Nat) (x1 : Option (List Byte)) (x2 : List (List (Option (List Byte)))) : Statement (.restoreComplete x0 x1 x2) :=
  .of_event rfl (show (4 : Nat) ≠ 7 by decide) rfl

theorem reset (x0 : Path) (x1 : Nat) : Statement (.reset x0 x1) :=
  .of_path rfl rfl (fun h => (Bool.and_eq_true_iff.1 h).1)

theorem remove (x0 : Path) (x1 : Nat) : Statement (.remove x0 x1) :=
  .of_path rfl rfl (fun h => (Bool.and_eq_true_iff.1 h).1)

theorem harvest (x0 : Path) (x1 : Nat) : Statement (.harvest x0 x1) :=
  .of_path rfl rfl (fun h => (Bool.and_eq_true_iff.1 h).1)

theorem harvestComplete (x0 : Nat) (x1 : Bool) : Statement (.harvestComplete x0 x1) :=
  .of_event rfl (show (4 : Nat) ≠ 7 by decide) rfl

theorem loadKey (x0 : Path) (x1 : Nat) : Statement (.loadKey x0 x1) :=
  .of_path rfl rfl (fun h => (Bool.and_eq_true_iff.1 h).1)

theorem clearKey (x0 : Path) (x1 : Nat) : Statement (.clearKey x0 x1) :=
  .of_path rfl rfl (fun h => (Bool.and_eq_true_iff.1 h).1)

theorem popEvt (x0 : Path) : Statement (.popEvt x0) :=
  .of_path rfl rfl (fun h => h)

theorem cryptoProcess (x0 : Bool) (x1 : Bool) : Statement (.cryptoProcess x0 x1) :=
  .of_event rfl (show (5 : Nat) ≠ 7 by decide) rfl

theorem start (x0 : Path) (x1 : Nat) (x2 : Option (List Byte)) : Statement (.start x0 x1 x2) :=
  .of_path rfl rfl (fun h => (Bool.and_eq_true_iff.1 h).1)

theorem clear (x0 : Path) (x1 : Nat) : Statement (.clear x0 x1) :=
  .of_path rfl rfl (fun h => (Bool.and_eq_true_iff.1 h).1)

theorem swreq (x0 : Path) (x1 : Word) : Statement (.swreq x0 x1) :=
  .of_path rfl rfl (fun h => h)

theorem moverRequest (x0 : Nat) : Statement (.moverRequest x0) :=
  .of_event rfl (show (5 : Nat) ≠ 7 by decide) rfl

theorem notchTimer (x0 : Nat) : Statement (.notchTimer x0) :=
  .of_event rfl (show (6 : Nat) ≠ 7 by decide) rfl

theorem dialTime (x0 : Nat) : Statement (.dialTime x0) :=
  .of_event rfl (show (6 : Nat) ≠ 7 by decide) rfl

theorem chain (x0 : Nat) : Statement (.chain x0) :=
  .of_event rfl (show (5 : Nat) ≠ 7 by decide) rfl

theorem moverBeats (x0 : List MoverRead) : Statement (.moverBeats x0) :=
  .of_event rfl (show (5 : Nat) ≠ 7 by decide) rfl

theorem descriptorComplete (x0 : Nat) (x1 : Option (List Byte)) : Statement (.descriptorComplete x0 x1) :=
  .of_event rfl (show (5 : Nat) ≠ 7 by decide) rfl

theorem disable (x0 : Path) (x1 : Nat) : Statement (.disable x0 x1) :=
  .of_path rfl rfl (fun h => (Bool.and_eq_true_iff.1 h).1)

theorem storeProcess (x0 : List (Option (List Byte))) (x1 : Bool) : Statement (.storeProcess x0 x1) :=
  .of_event rfl (show (5 : Nat) ≠ 7 by decide) rfl

theorem acknowledge (x0 : Nat) : Statement (.acknowledge x0) :=
  .of_event rfl (show (5 : Nat) ≠ 7 by decide) rfl

theorem sourceComplete (x0 : Nat) : Statement (.sourceComplete x0) :=
  .of_event rfl (show (5 : Nat) ≠ 7 by decide) rfl

theorem hostDelivery (x0 : Nat) : Statement (.hostDelivery x0) :=
  .of_event rfl (show (5 : Nat) ≠ 7 by decide) rfl

theorem hostEoi (x0 : Path) (x1 : Nat) : Statement (.hostEoi x0 x1) :=
  .of_path rfl rfl (fun h => (Bool.and_eq_true_iff.1 h).1)

theorem swset (x0 : Path) (x1 : Word) : Statement (.swset x0 x1) :=
  .of_path rfl rfl (fun h => h)

theorem clearReasons (x0 : Path) (x1 : Nat) : Statement (.clearReasons x0 x1) :=
  .of_path rfl rfl (fun h => (Bool.and_eq_true_iff.1 h).1)

theorem enterSafeHold (x0 : Path) : Statement (.enterSafeHold x0) :=
  .of_path rfl rfl (fun h => h)

theorem resetDevice (x0 : Path) : Statement (.resetDevice x0) :=
  .of_path rfl rfl (fun h => h)

theorem remapRegion (x0 : Path) (x1 : Nat) (x2 : Nat) : Statement (.remapRegion x0 x1 x2) :=
  .of_path rfl rfl (fun h => (Bool.and_eq_true_iff.1 (Bool.and_eq_true_iff.1 h).1).1)

theorem hbmRemapDone (x0 : Nat) (x1 : Nat) : Statement (.hbmRemapDone x0 x1) :=
  .of_event rfl (show (3 : Nat) ≠ 7 by decide) rfl

theorem retireBank (x0 : Path) (x1 : Nat) : Statement (.retireBank x0 x1) :=
  .of_path rfl rfl (fun h => (Bool.and_eq_true_iff.1 h).1)

theorem phaseFail (x0 : Nat) (x1 : Nat) : Statement (.phaseFail x0 x1) :=
  .of_event rfl (show (1 : Nat) ≠ 7 by decide) rfl

theorem getChallenge (x0 : Path) (x1 : Nat) (x2 : Nat) (x3 : Nat) : Statement (.getChallenge x0 x1 x2 x3) :=
  .of_path rfl rfl (fun h => (Bool.and_eq_true_iff.1 (Bool.and_eq_true_iff.1 (Bool.and_eq_true_iff.1 h).1).1).1)

theorem open_ (x0 : Path) (x1 : Nat) (x2 : Option (List Byte)) : Statement (.open_ x0 x1 x2) :=
  .of_path rfl rfl (fun h => (Bool.and_eq_true_iff.1 h).1)

theorem close (x0 : Path) (x1 : Nat) : Statement (.close x0 x1) :=
  .of_path rfl rfl (fun h => (Bool.and_eq_true_iff.1 h).1)

theorem sessionIdleEnd (x0 : Path) : Statement (.sessionIdleEnd x0) :=
  .of_event rfl (show (8 : Nat) ≠ 7 by decide) rfl

theorem lockoutEnd (x0 : Path) : Statement (.lockoutEnd x0) :=
  .of_event rfl (show (6 : Nat) ≠ 7 by decide) rfl

theorem enrol (x0 : Path) (x1 : Nat) (x2 : Nat) (x3 : Option (List Byte)) (x4 : StoreWrite) : Statement (.enrol x0 x1 x2 x3 x4) :=
  .of_path rfl rfl (fun h => (Bool.and_eq_true_iff.1 (Bool.and_eq_true_iff.1 h).1).1)

theorem revoke (x0 : Path) (x1 : Nat) (x2 : Nat) (x3 : StoreWrite) : Statement (.revoke x0 x1 x2 x3) :=
  .of_path rfl rfl (fun h => (Bool.and_eq_true_iff.1 (Bool.and_eq_true_iff.1 h).1).1)

theorem journalFlush (x0 : Nat) (x1 : StoreWrite) : Statement (.journalFlush x0 x1) :=
  .of_event rfl (show (6 : Nat) ≠ 7 by decide) rfl

theorem installFw (x0 : Path) (x1 : Nat) (x2 : Option (List Byte)) (x3 : DeviceWrite) (x4 : DeviceWrite) : Statement (.installFw x0 x1 x2 x3 x4) :=
  .of_path rfl rfl (fun h => (Bool.and_eq_true_iff.1 h).1)

theorem installSet (x0 : Path) (x1 : Nat) (x2 : Option (List Byte)) (x3 : DeviceWrite) (x4 : DeviceWrite) : Statement (.installSet x0 x1 x2 x3 x4) :=
  .of_path rfl rfl (fun h => (Bool.and_eq_true_iff.1 h).1)

theorem installIdentity (x0 : Path) (x1 : Nat) (x2 : Option (List Byte)) (x3 : DeviceWrite) (x4 : DeviceWrite) : Statement (.installIdentity x0 x1 x2 x3 x4) :=
  .of_path rfl rfl (fun h => (Bool.and_eq_true_iff.1 h).1)

theorem getIdentity (x0 : MctpBus) (x1 : Nat) : Statement (.getIdentity x0 x1) :=
  .of_path rfl rfl (fun _ => rfl)

theorem getReport (x0 : MctpBus) (x1 : Nat) (x2 : List Byte) (x3 : StoreWrite) : Statement (.getReport x0 x1 x2 x3) :=
  .of_path rfl rfl (fun _ => rfl)

theorem regRead (x0 : MctpBus) (x1 : Nat) (x2 : Nat) (x3 : Nat) : Statement (.regRead x0 x1 x2 x3) :=
  .of_path rfl rfl (fun _ => rfl)

theorem regWrite (x0 : MctpBus) (x1 : Nat) (x2 : Nat) (x3 : Nat) (x4 : Word) : Statement (.regWrite x0 x1 x2 x3 x4) :=
  .of_path rfl rfl (fun _ => rfl)

theorem stageChunk (x0 : MctpBus) (x1 : Nat) (x2 : Nat) (x3 : List Byte) : Statement (.stageChunk x0 x1 x2 x3) :=
  .of_path rfl rfl (fun _ => rfl)

theorem pldmFirmwareUpdate (x0 : MctpBus) (x1 : List Byte) (x2 : DeviceWrite) (x3 : DeviceWrite) : Statement (.pldmFirmwareUpdate x0 x1 x2 x3) :=
  .of_path rfl rfl (fun _ => rfl)

theorem getSensorReading (x0 : MctpBus) (x1 : Nat) (x2 : Int) : Statement (.getSensorReading x0 x1 x2) :=
  .of_path rfl rfl (fun _ => rfl)

theorem setEventReceiver (x0 : MctpBus) (x1 : Nat) : Statement (.setEventReceiver x0 x1) :=
  .of_path rfl rfl (fun _ => rfl)

theorem pollForPlatformEvent (x0 : MctpBus) : Statement (.pollForPlatformEvent x0) :=
  .of_path rfl rfl (fun _ => rfl)

theorem powerOn (x0 : Nat) : Statement (.powerOn x0) :=
  .of_event rfl (show (1 : Nat) ≠ 7 by decide) rfl

theorem rom (x0 : RomReads) : Statement (.rom x0) :=
  .of_event rfl (show (2 : Nat) ≠ 7 by decide) rfl

theorem firmware (x0 : RegionCopy) (x1 : RegionCopy) : Statement (.firmware x0 x1) :=
  .of_event rfl (show (2 : Nat) ≠ 7 by decide) rfl

theorem glens (x0 : List Nat) : Statement (.glens x0) :=
  .of_event rfl (show (2 : Nat) ≠ 7 by decide) rfl

theorem swapFw (x0 : Path) (x1 : Nat) (x2 : RegionCopy) : Statement (.swapFw x0 x1 x2) :=
  .of_path rfl rfl (fun h => (Bool.and_eq_true_iff.1 h).1)

theorem fwRunning (x0 : Bool) : Statement (.fwRunning x0) :=
  .of_event rfl (show (2 : Nat) ≠ 7 by decide) rfl

theorem swapTimeout (x0 : Nat) : Statement (.swapTimeout x0) :=
  .of_event rfl (show (6 : Nat) ≠ 7 by decide) rfl

theorem commitFw (x0 : Path) : Statement (.commitFw x0) :=
  .of_path rfl rfl (fun h => h)

theorem revertFw (x0 : Path) : Statement (.revertFw x0) :=
  .of_path rfl rfl (fun h => h)

theorem wdogKick (x0 : Path) : Statement (.wdogKick x0) :=
  .of_path rfl rfl (fun h => h)

theorem updHold (x0 : Path) (x1 : Nat) (x2 : Bool) : Statement (.updHold x0 x1 x2) :=
  .of_path rfl rfl (fun h => (Bool.and_eq_true_iff.1 h).1)

theorem updRelease (x0 : Path) (x1 : Nat) (x2 : Bool) : Statement (.updRelease x0 x1 x2) :=
  .of_path rfl rfl (fun h => (Bool.and_eq_true_iff.1 h).1)

theorem read (x0 : Path) (x1 : Nat) (x2 : ReadMem) : Statement (.read x0 x1 x2) :=
  .of_path rfl rfl (fun h => (Bool.and_eq_true_iff.1 h).1)

theorem write (x0 : Path) (x1 : Nat) : Statement (.write x0 x1) :=
  .of_path rfl rfl (fun h => (Bool.and_eq_true_iff.1 h).1)

theorem thermalSample (x0 : Int) : Statement (.thermalSample x0) :=
  .of_event rfl (show (1 : Nat) ≠ 7 by decide) rfl

theorem heartbeatArrival (x0 : Nat) : Statement (.heartbeatArrival x0) :=
  .of_event rfl (show (5 : Nat) ≠ 7 by decide) rfl

theorem linkTrainingFail (x0 : Nat) : Statement (.linkTrainingFail x0) :=
  .of_event rfl (show (3 : Nat) ≠ 7 by decide) rfl

theorem functionWideResetComplete (x0 : Nat) : Statement (.functionWideResetComplete x0) :=
  .of_event rfl (show (2 : Nat) ≠ 7 by decide) rfl

theorem ncSiReceive (x0 : Bool) : Statement (.ncSiReceive x0) :=
  .of_event rfl (show (5 : Nat) ≠ 7 by decide) rfl

theorem controlCoreDebugHalt (x0 : Nat) (x1 : Bool) : Statement (.controlCoreDebugHalt x0 x1) :=
  .of_event rfl (show (5 : Nat) ≠ 7 by decide) rfl

theorem notchTick : Statement (.notchTick) :=
  .of_event rfl (show (9 : Nat) ≠ 7 by decide) rfl

theorem srcTimeout : Statement (.srcTimeout) :=
  .of_event rfl (show (6 : Nat) ≠ 7 by decide) rfl

theorem holdoverEnd : Statement (.holdoverEnd) :=
  .of_event rfl (show (6 : Nat) ≠ 7 by decide) rfl

theorem ppsMissed : Statement (.ppsMissed) :=
  .of_event rfl (show (6 : Nat) ≠ 7 by decide) rfl

theorem ppsOutRise : Statement (.ppsOutRise) :=
  .of_event rfl (show (6 : Nat) ≠ 7 by decide) rfl

theorem ppsOutFall : Statement (.ppsOutFall) :=
  .of_event rfl (show (6 : Nat) ≠ 7 by decide) rfl

theorem defileSkipLost : Statement (.defileSkipLost) :=
  .of_event rfl (show (6 : Nat) ≠ 7 by decide) rfl

theorem basinAgeSweep : Statement (.basinAgeSweep) :=
  .of_event rfl (show (6 : Nat) ≠ 7 by decide) rfl

theorem wakeReleaseTimeout : Statement (.wakeReleaseTimeout) :=
  .of_event rfl (show (2 : Nat) ≠ 7 by decide) rfl

theorem heartbeatCheck : Statement (.heartbeatCheck) :=
  .of_event rfl (show (6 : Nat) ≠ 7 by decide) rfl

theorem tableCmdComplete : Statement (.tableCmdComplete) :=
  .of_event rfl (show (6 : Nat) ≠ 7 by decide) rfl

theorem tableAgeSweep : Statement (.tableAgeSweep) :=
  .of_event rfl (show (6 : Nat) ≠ 7 by decide) rfl

theorem gateEval : Statement (.gateEval) :=
  .of_event rfl (show (6 : Nat) ≠ 7 by decide) rfl

theorem refill : Statement (.refill) :=
  .of_event rfl (show (6 : Nat) ≠ 7 by decide) rfl

theorem ledgerSnapshot : Statement (.ledgerSnapshot) :=
  .of_event rfl (show (6 : Nat) ≠ 7 by decide) rfl

theorem ledgerRecordWrite : Statement (.ledgerRecordWrite) :=
  .of_event rfl (show (6 : Nat) ≠ 7 by decide) rfl

theorem ledgerLate : Statement (.ledgerLate) :=
  .of_event rfl (show (6 : Nat) ≠ 7 by decide) rfl

theorem cryptoReturn : Statement (.cryptoReturn) :=
  .of_event rfl (show (5 : Nat) ≠ 7 by decide) rfl

theorem storeReturn : Statement (.storeReturn) :=
  .of_event rfl (show (5 : Nat) ≠ 7 by decide) rfl

theorem presentation : Statement (.presentation) :=
  .of_event rfl (show (5 : Nat) ≠ 7 by decide) rfl

theorem safeHoldEntry : Statement (.safeHoldEntry) :=
  .of_event rfl (show (1 : Nat) ≠ 7 by decide) rfl

theorem endpointIdAssigned : Statement (.endpointIdAssigned) :=
  .of_event rfl (show (5 : Nat) ≠ 7 by decide) rfl

theorem undervoltage : Statement (.undervoltage) :=
  .of_event rfl (show (1 : Nat) ≠ 7 by decide) rfl

theorem settings : Statement (.settings) :=
  .of_event rfl (show (2 : Nat) ≠ 7 by decide) rfl

theorem service : Statement (.service) :=
  .of_event rfl (show (2 : Nat) ≠ 7 by decide) rfl

theorem trialExpiry : Statement (.trialExpiry) :=
  .of_event rfl (show (6 : Nat) ≠ 7 by decide) rfl

theorem watchdogExpiry : Statement (.watchdogExpiry) :=
  .of_event rfl (show (6 : Nat) ≠ 7 by decide) rfl

theorem fwHandoverTimeout : Statement (.fwHandoverTimeout) :=
  .of_event rfl (show (6 : Nat) ≠ 7 by decide) rfl

end Sys2Proof.Laws.Source
end

