-- ==== Sys2Proof/Laws/Stores.lean ====
section
/-! SUPPORT. The journal buffer keeps its limit, and a reservation record reads back. -/

namespace Sys2Proof.Machine

/-- A record makes the buffer one longer. -/
theorem Dev.record_length (d : Dev) (x : JRec) : (d.record x).roles.buffer.length = d.roles.buffer.length + 1 := by
  unfold Dev.record
  simp only
  split <;> simp

/-- A record of the device's own account keeps the buffer within its 1,024 records. -/
theorem Dev.journalOwn_bounded (d : Dev) (r : JRec) (h : d.roles.buffer.length ≤ 1024) :
    (d.journalOwn r).roles.buffer.length ≤ 1024 := by
  unfold Dev.journalOwn Dev.journalFull
  split
  · exact h
  · rename_i hf
    rw [Dev.record_length]
    simp only [decide_eq_true_eq] at hf
    omega

/-- Records placed one after the other make the buffer as much longer. -/
theorem Dev.each_record_length (d : Dev) (l : List JRec) :
    (d.each l Dev.record).roles.buffer.length = d.roles.buffer.length + l.length := by
  induction l generalizing d with
  | nil => rfl
  | cons x l ih =>
    have := ih (d.record x)
    rw [Dev.record_length] at this
    simp only [Dev.each, List.foldl_cons, List.length_cons] at this ⊢
    omega

/-- Records that waited keep the buffer within its limit too. -/
theorem Dev.settleOwed_bounded (d : Dev) (h : d.roles.buffer.length ≤ 1024) : d.settleOwed.roles.buffer.length ≤ 1024 := by
  unfold Dev.settleOwed
  simp only [Dev.each_record_length, List.length_take]
  omega

/-- A CRC-32C has 32 bits. -/
theorem crc32c_lt (bs : List Byte) : crc32c bs < 256 ^ 4 := by
  have hb : ∀ n r, r < 2 ^ 32 → crcBits poly32C n r < 2 ^ 32 := by
    intro n
    induction n with
    | zero => intro r h; exact h
    | succ n ih =>
      intro r h
      unfold crcBits
      apply ih
      split
      · exact Nat.xor_lt_two_pow (by omega) (by decide)
      · omega
  have h : ∀ (l : List Byte) (r : Nat), r < 2 ^ 32 → l.foldl (crcByte poly32C) r < 2 ^ 32 := by
    intro l
    induction l with
    | nil => intro r hr; exact hr
    | cons b l ih => intro r hr; exact ih _ (hb 8 _ (Nat.xor_lt_two_pow hr (by have := b.isLt; omega)))
  exact Nat.xor_lt_two_pow (n := 32) (h bs _ (by decide)) (by decide)

/-- A reservation record has 64 bytes (16 R547). -/
theorem reservation_length (e : Nat) : (reservation e).length = 64 := by
  simp [reservation, leBytes_length]

/-- A reservation record checks, and gives the END it was made with (16 R547, R548). -/
theorem reservedEnd_reservation (e : Nat) (h : e < 256 ^ 8) : reservedEnd (reservation e) = some e := by
  have hb : (leBytes 8 0x5352584B ++ leBytes 8 e ++ List.replicate 40 (0 : Byte)).length = 56 := by simp [leBytes_length]
  have h1 : leNat (((leBytes 8 0x5352584B ++ leBytes 8 e ++ List.replicate 40 (0 : Byte))).take 4) = 0x5352584B := by
    rw [List.append_assoc, List.take_append_of_le_length (by simp [leBytes_length])]
    decide
  unfold reservedEnd reservation
  simp only
  generalize hc : crc32c (leBytes 8 0x5352584B ++ leBytes 8 e ++ List.replicate 40 0) = c
  have hlt : c < 256 ^ 4 := by rw [← hc]; exact crc32c_lt _
  generalize hbb : leBytes 8 0x5352584B ++ leBytes 8 e ++ List.replicate 40 (0 : Byte) = b at *
  have t56 : (b ++ leBytes 4 c ++ List.replicate 4 0).take 56 = b := by
    rw [List.append_assoc, List.take_append_of_le_length (by omega), ← hb, List.take_length]
  have d56 : ((b ++ leBytes 4 c ++ List.replicate 4 0).drop 56).take 4 = leBytes 4 c := by
    rw [List.append_assoc, ← hb, List.drop_left, List.take_append_of_le_length (by simp [leBytes_length])]
    rw [List.take_of_length_le (by simp [leBytes_length])]
  have t4 : (b ++ leBytes 4 c ++ List.replicate 4 0).take 4 = b.take 4 := by
    rw [List.append_assoc, List.take_append_of_le_length (by omega)]
  have d8 : ((b ++ leBytes 4 c ++ List.replicate 4 0).drop 8).take 8 = leBytes 8 e := by
    rw [← hbb]
    simp only [List.append_assoc]
    rw [List.drop_left' (by simp [leBytes_length]), List.take_left' (by simp [leBytes_length])]
  rw [t56, d56, t4, d8, h1, leNat_leBytes _ _ hlt, hc, leNat_leBytes _ _ h]
  simp

end Sys2Proof.Machine
end

