-- ==== Sys2Proof/Machine/Lands.lean ====
section
/-! DEFINITION. The package and its electrical limits, as the constants of the module (spec/19_electrical.md R606, R607,
R609, R612 to R622, R627, R628). No command reads them: they bind the board, and what the device drives leaves as `Out`. -/

namespace Sys2Proof

/-- The input current at a variant's maximum power, in tenths of an ampere, for a VIN in volts (R609): the power divided by
VIN, with 4 % added, rounded up. -/
def Variant.inputCurrent (v : Variant) (vin : Nat) : Nat := (v.powerMax * 104 + 10 * vin - 1) / (10 * vin)

/-- The current that the soft start stays below, in hundredths of an ampere (R609). -/
def Variant.softStart (v : Variant) (vin : Nat) : Nat := v.inputCurrent vin * 11

end Sys2Proof

namespace Sys2Proof.Machine

/-- A limit of a table: the least and the greatest value, where the table has them. -/
structure Limit where
  least : Option Int := none
  most : Option Int := none
deriving DecidableEq, Repr

/-- A value lies within a limit. -/
def Limit.allows (l : Limit) (x : Int) : Bool := l.least.all (· ≤ x) && l.most.all (x ≤ ·)

/-! ### Ratings (R606, R607) -/

/-- The absolute maximum ratings (R606), in millivolts, tenths of a degree and newtons. -/
structure Ratings where
  vin : Limit := ⟨some (-500), some 65000⟩
  land18 : Limit := ⟨some (-300), some 2200⟩
  land33 : Limit := ⟨some (-300), some 3600⟩
  casePowered : Limit := ⟨none, some 1050⟩
  storage : Limit := ⟨some (-400), some 1250⟩
  esdHuman : Limit := ⟨none, some 1000000⟩
  esdCharged : Limit := ⟨none, some 250000⟩
  lidForce : Limit := ⟨none, some 400⟩
deriving DecidableEq, Repr

/-- The operating conditions (R607): VIN in millivolts, its slew in volts per millisecond, the case in tenths of a degree, and
the reference clocks in hertz. -/
structure Conditions where
  vin : Limit := ⟨some 6000, some 60000⟩
  vinSlew : Limit := ⟨none, some 1000⟩
  caseTemp : Limit := ⟨some 0, some 950⟩
  refClk : Limit := ⟨some 99970000, some 100030000⟩
  rbtClk : Limit := ⟨some 49995000, some 50005000⟩
deriving DecidableEq, Repr

/-- Standby input power in tenths of a watt, and the input capacitance in microfarads (R609). -/
def standbyPower : Nat := 12
def inputCapacitance : Nat := 220

/-! ### Lands (R612 to R614) -/

/-- The low-speed signals of R613, with the number of a DQ line or strap. -/
inductive Pin where
  | ssSclk (dev : Nat) | ssCs (dev : Nat) | ssDqs (dev : Nat) | ssDq (dev n : Nat) | ssReset (dev : Nat)
  | rbtRefClk | rbtTxd0 | rbtTxd1 | rbtTxEn | rbtRxd0 | rbtRxd1 | rbtCrsDv | rbtRxEr | rbtArbIn | rbtArbOut
  | i3cScl | i3cSda | uartRxd | uartTxd | ppsIn | ppsOut | perstA | perstB | wake | replaceReq | thermAlert | pclass (n : Nat)
  | tck | tms | tdi | tdo | trst
deriving DecidableEq, Repr

/-- What a land carries (R612): a lane's receive or transmit pair with its polarity, a reference clock, power, a low-speed
signal, or ground. -/
inductive Land where
  | ethRx (lane : Nat) (pos : Bool) | ethTx (lane : Nat) (pos : Bool)
  | hostRx (port : HostPort) (lane : Nat) (pos : Bool) | hostTx (port : HostPort) (lane : Nat) (pos : Bool)
  | refClk (port : HostPort) (pos : Bool)
  | vin | reserved | pin (p : Pin) | gnd
deriving DecidableEq, Repr

/-- The signals of a serial-store device in column order (R613). -/
def storePins (dev : Nat) : List Pin :=
  [.ssSclk dev, .ssCs dev, .ssDqs dev] ++ (List.range 8).map (.ssDq dev) ++ [.ssReset dev]

/-- The low-speed rows (R613): the row and the signals from column 10 on. -/
def lowSpeed : List (Nat × List Pin) :=
  [(40, storePins 0), (42, storePins 1),
   (44, [.rbtRefClk, .rbtTxd0, .rbtTxd1, .rbtTxEn, .rbtRxd0, .rbtRxd1, .rbtCrsDv, .rbtRxEr, .rbtArbIn, .rbtArbOut]),
   (46, [.i3cScl, .i3cSda, .uartRxd, .uartTxd, .ppsIn, .ppsOut, .perstA, .perstB, .wake, .replaceReq, .thermAlert,
     .pclass 0, .pclass 1]),
   (48, [.tck, .tms, .tdi, .tdo, .trst])]

/-- A place along a pair of lanes: the lane and the polarity, of 16 lanes three places apart from `from_` on. -/
def laneAt (from_ x : Nat) : Option (Nat × Bool) :=
  if from_ ≤ x ∧ (x - from_) / 3 < 16 ∧ (x - from_) % 3 < 2 then some ((x - from_) / 3, (x - from_) % 3 == 0) else none

/-- What the land of a row and a column, each from 1 to 58, carries (R612, R613). -/
def landAt (row col : Nat) : Land :=
  match lowSpeed.find? (·.1 == row) with
  | some (_, pins) => if 10 ≤ col then (pins[col - 10]?).elim .gnd .pin else .gnd
  | none =>
    if row = 2 then (laneAt 4 col).elim .gnd (fun x => .ethRx x.1 x.2)
    else if row = 5 then (laneAt 4 col).elim .gnd (fun x => .ethTx x.1 x.2)
    else if row = 8 ∧ (col = 2 ∨ col = 3) then .refClk .a (col == 2)
    else if row = 8 ∧ (col = 56 ∨ col = 57) then .refClk .b (col == 56)
    else if 50 ≤ row ∧ row ≤ 57 ∧ 22 ≤ col ∧ col ≤ 37 then .vin
    else if ((row = 38 ∨ row = 39) ∧ 8 ≤ col ∧ col ≤ 51) ∨ (row = 49 ∧ 8 ≤ col ∧ col ≤ 47) then .reserved
    else .gnd

/-- The lands of the host columns lie in every row of their lanes, the low-speed rows too. -/
def hostLand (row col : Nat) : Option Land :=
  (laneAt 10 row).bind (fun x =>
    if col = 2 then some (.hostRx .a x.1 x.2) else if col = 5 then some (.hostTx .a x.1 x.2)
    else if col = 57 then some (.hostRx .b x.1 x.2) else if col = 54 then some (.hostTx .b x.1 x.2) else none)

/-- The land map (R612, R613). -/
def land (row col : Nat) : Land := (hostLand row col).getD (landAt row col)

/-- The land is connected inside the module of a variant (R614): lands of absent lanes and of an absent host port B are not. -/
def Land.connected (v : Variant) : Land → Bool
  | .ethRx n _ | .ethTx n _ => decide (n < v.lanes)
  | .hostRx .b _ _ | .hostTx .b _ _ | .refClk .b _ => v.hasHostB
  | .reserved => false
  | _ => true

/-- Which way a low-speed signal goes, seen from the module (R613). -/
inductive Direction where
  | into | out | openDrain | both
deriving DecidableEq, Repr

def Pin.direction : Pin → Direction
  | .ssDqs _ | .ssDq _ _ | .i3cSda => .both
  | .rbtRefClk | .rbtTxd0 | .rbtTxd1 | .rbtTxEn | .rbtArbIn | .i3cScl | .uartRxd | .ppsIn | .perstA | .perstB | .pclass _
  | .tck | .tms | .tdi | .trst => .into
  | .wake | .replaceReq | .thermAlert => .openDrain
  | .ssSclk _ | .ssCs _ | .ssReset _ | .rbtRxd0 | .rbtRxd1 | .rbtCrsDv | .rbtRxEr | .rbtArbOut | .uartTxd | .ppsOut | .tdo => .out

/-- The level of a low-speed land in millivolts (R613). -/
def Pin.level : Pin → Nat
  | .perstA | .perstB | .wake | .replaceReq | .thermAlert => 3300
  | _ => 1800

/-- What holds a land inside the module when the board leaves it open (R614): a resistor in kilohms to ground or to 1.8 V. -/
def Pin.pull : Pin → Option (Bool × Nat)
  | .perstA | .perstB | .trst => some (false, 100)
  | .pclass _ => some (true, 47)
  | _ => none

/-- The JTAG boundary register covers a land: every low-speed one, and no other (R621). -/
def Land.scanned : Land → Bool
  | .pin _ => true
  | _ => false

/-! ### Timing at the lands (R615 to R621), in picoseconds where not said -/

structure PinTiming where
  /-- Shortest low pulse of PERST# that counts, and how long a host holds it low and REFCLK stable, in ns (R615). -/
  perstIgnored : Nat := 1000
  perstLow : Limit := ⟨some 100000, none⟩
  refStable : Limit := ⟨some 100000, none⟩
  /-- Sink current in mA at 0.4 V and leakage in µA of an open-drain pin (R616). -/
  sink : Limit := ⟨some 4, none⟩
  leak : Limit := ⟨none, some 10⟩
  /-- The serial store (R617); its clocks in MHz for 1S-1S-1S, 1S-8D-8D and 8D-8D-8D, and SS_RESET# low in ns. -/
  storeClocks : Nat × Nat × Nat := (50, 133, 200)
  storeReset : Nat := 20000
  sclkPeriod : Limit := ⟨some 5000, none⟩
  sclkDuty : Limit := ⟨some 45, some 55⟩
  csSetup : Limit := ⟨some 3000, none⟩
  csHold : Limit := ⟨some 3000, none⟩
  csHigh : Limit := ⟨some 20000, none⟩
  dqOut : Limit := ⟨some (-600), some 600⟩
  dqWindow : Limit := ⟨some 1200, none⟩
  dqMatchMm : Limit := ⟨none, some 10⟩
  /-- I3C (R618): kHz push-pull and open-drain, then times, and the low level in millivolts at 3 mA. -/
  i3cClock : Limit := ⟨none, some 12500⟩
  i3cOpenDrain : Limit := ⟨none, some 2500⟩
  sdaSetup : Limit := ⟨some 3000, none⟩
  sdaHold : Limit := ⟨some 500, some 12000⟩
  sdaLow : Limit := ⟨none, some 270⟩
  /-- RBT (R619). -/
  rbtSetup : Limit := ⟨some 4000, none⟩
  rbtHold : Limit := ⟨some 2000, none⟩
  rbtOut : Limit := ⟨some 2500, some 12000⟩
  arbOut : Limit := ⟨some 2500, some 12000⟩
  /-- PPS (R620): the high time of PPS_IN in ns, then times. -/
  ppsHigh : Limit := ⟨some 100, some 999000000⟩
  ppsInRise : Limit := ⟨none, some 10000⟩
  ppsStamp : Limit := ⟨some (-2000), some 2000⟩
  ppsOutEdge : Limit := ⟨some (-4000), some 4000⟩
  ppsOutRise : Limit := ⟨none, some 2000⟩
  /-- The UART's baud rate and its error in percent, and JTAG: TCK in MHz, then times (R621; 01 R39). -/
  baud : Nat := 115200
  baudError : Limit := ⟨some (-2), some 2⟩
  tck : Limit := ⟨none, some 25⟩
  jtagSetup : Limit := ⟨some 5000, none⟩
  jtagHold : Limit := ⟨some 5000, none⟩
  tdoOut : Limit := ⟨none, some 10000⟩
deriving DecidableEq, Repr

/-! ### Clocks (R622) -/

/-- The clock domains, with how many there are of each. -/
inductive Domain where
  | lane | hostPort | hbm | glen | control | fabric | management | dial
deriving DecidableEq, Repr

def Domain.count : Domain → Nat
  | .lane => 32
  | .hostPort => 4
  | .hbm => 2
  | .glen => 18
  | .control | .fabric | .management | .dial => 1

/-- The frequency in hertz where the table states one, at a GLEN_CLK and a slew in parts per billion. -/
def Domain.hertz (glenClk : Nat) (slew : Int) : Domain → Option Int
  | .lane | .hostPort | .hbm => none
  | .glen => some (2000000000 * glenClk / 16)
  | .control | .fabric => some 2000000000
  | .management => some 400000000
  | .dial => some (15625000 + 15625000 * slew / 1000000000)

/-- The system reference: hertz, and its limit in parts per million; and the limit of a link's reference in SRIS mode. -/
def systemReference : Nat × Nat := (156250000, 50)
def srisLimit : Nat := 350

/-! ### Package (R627, R628) -/

/-- A dimension in micrometres with its tolerance. -/
structure Dimension where
  nominal : Nat
  tolerance : Nat
deriving DecidableEq, Repr

structure Outline where
  side : Dimension := ⟨72000, 100⟩
  height : Dimension := ⟨7200, 150⟩
  lidContact : Dimension := ⟨64000, 200⟩
  lidFlatness : Nat := 50
  pitch : Nat := 1200
  landFromEdge : Dimension := ⟨1800, 100⟩
  span : Nat := 68400
  pad : Dimension := ⟨700, 30⟩
  coplanarity : Nat := 150
  /-- Grams. -/
  mass : Dimension := ⟨110, 5⟩
  /-- Board pads for soldering, and the reflow peak in degrees for at most so many seconds, at a moisture level. -/
  boardPad : Nat := 650
  reflow : Nat × Nat := (245, 30)
  msl : Nat := 3
deriving DecidableEq, Repr

end Sys2Proof.Machine
end

