-- ==== Sys2Proof/Tests/Slice0.lean ====
section
/-! SUPPORT. Checks of the model's own: ill-formed commands that the check refuses, one or two single steps of each family
on small devices, and, for every statement with hypotheses, a state and operands that meet them together. -/

namespace Sys2Proof.Tests

open Machine

set_option Elab.async false

/-- A device whose start is over, with an installer's session on host port A. -/
def up : Dev :=
  ({ boot := { serving := true },
     roles := { sessions := [{ bank := 2, path := .installer .a, role := 2, slot := 0, counter := 1, last := 0 }] } } : Dev).put
    R.BOOT_STATUS_STAGE 4

/-- A device at the start of a Notch. -/
def noted (d : Dev) : Dev := { d with start := d.regs }

/-- A state of that device with an empty queue. -/
def on (d : Dev) : State := { pending := [], dev := d }

/-- The device with the word of an instruction of a Glen's thread written to its program store, at the PC of the thread. -/
def placed (c : Instr) (d : Dev) : Dev :=
  match c.coded with
  | some (i, w) =>
    match i.thread with
    | .glen g _ _ =>
      let n := (d.thread i.thread).pc
      if n + 8 ≤ (d.glen g).code.length then
        d.modGlen g (fun x => { x with code := x.code.take n ++ leBytes 8 w.toNat ++ x.code.drop (n + 8) })
      else d
    | .ctrl _ => d
  | none => d

/-- The device after a command meets a check. -/
def after (c : Instr) (d : Dev) (P : Dev → Bool) : Bool :=
  match exec c (on (placed c d)) with
  | .next t => P t.dev
  | _ => false

theorem test_off : ({ up with boot := { up.boot with off := true } }).boot.off = true ∧
    after (.ppsInEdge 5) { up with boot := { up.boot with off := true } } (fun e => decide (e.regs = up.regs)) = true ∧
    after (.perstAssert .a) { up with boot := { up.boot with off := true } } (fun e => (e.link 0).perst) = true ∧
    after (.perstRelease .a) { up with boot := { off := true }, host := { links := [(0, { perst := true })] } } (fun e =>
      !(e.link 0).perst) = true := by decide +kernel

theorem test_asleep : ({ up with wake := { standby := true } }).awake = false ∧
    after (.frameReceive 0 0 [] true true) { up with wake := { standby := true } } (fun e => decide (e.ports = up.ports)) = true ∧
    after (.wakeMatch [1, 2, 3] true) { up with wake := { standby := true, savedCtrl := 0 } } (fun e => e.wake.standby) = true := by decide +kernel

theorem test_vf : (Instr.activate (.vf 3) 3).source = some (.vf 3) ∧
    after (.activate (.vf 3) 3) up (fun e => decide (e.get R.INST_STATE_STATE 3 = 0 ∧ e.get R.HEALTH_ERRS 0 1 = 1)) = true ∧
    after (.activate (.vf 3) 4) up (fun e => decide (e.regs = up.regs)) = true := by decide +kernel

theorem test_tick : (up.awake = true ∧ up.acc.stores = [] ∧ up.heatDue.serveLearns.lateWrites.boot.resetAt = none ∧ up.standbyDue = none ∧
      up.trips = false) ∧
    ({ up with dial := { up.dial with ns := 999999936 } }).tickDial.dial = { notch := 1, sec := 1 } ∧
    ({ up with dial := { up.dial with stepPending := some (.rel 120 (-64)) } }).tickDial.now = (120, 0) ∧
    ({ up with dial := { up.dial with stepPending := some (.abs 1800000000 64) } }).tickDial.now = (1800000000, 64) := by decide +kernel

theorem test_slew : up.admits (.installer .a) pgDIAL = true ∧ up.get R.DIAL_CTRL_SRC = 0 ∧
    after (.slewWrite (.installer .a) 0xFFE17B80#64) up (fun e =>
      decide (e.getInt R.DIAL_SLEW_PPB = -1000000 ∧ e.get R.DIAL_EVENTS_SLEW_CLAMPED = 1)) = true ∧
    after (.slewWrite .firmware 1000000#64) up (fun e =>
      decide (e.getInt R.DIAL_SLEW_PPB = 1000000 ∧ e.get R.DIAL_EVENTS_SLEW_CLAMPED = 0)) = true := by decide +kernel

theorem test_owned : (up.put R.DIAL_CTRL_SRC 2).admits (.installer .a) pgDIAL = true ∧
    (up.put R.DIAL_CTRL_SRC 2).accepts (.installer .a) pgDIAL = true ∧
    after (.slewWrite (.installer .a) 5#64) (up.put R.DIAL_CTRL_SRC 2) (fun e =>
      decide (e.get R.DIAL_SLEW_PPB = 0 ∧ e.get R.HEALTH_ERRS = 1)) = true ∧
    after (.stepRel (.installer .a)) (up.put R.DIAL_CTRL_SRC 2) (fun e =>
      decide (e.get R.DIAL_STEP_CMD_STATUS = 4 ∧ e.dial.stepPending = none)) = true := by decide +kernel

theorem test_dial_ctrl : (up.admits (.installer .a) pgDIAL = true ∧ (up.put R.PORT_STATUS_LINK 0 3).portInService 3 = true) ∧
    after (.dialCtrlWrite (.installer .a) 0x0D#64) (up.put R.PORT_STATUS_LINK 0 3) (fun e =>
      decide (e.get R.DIAL_CTRL_SRC = 1 ∧ e.get R.DIAL_CTRL_PTP_PORT = 3 ∧ e.get R.DIAL_STATUS_STATE = 1)) = true ∧
    up.portInService 3 = false ∧
    after (.dialCtrlWrite (.installer .a) 0x0D#64) up (fun e =>
      decide (e.get R.DIAL_CTRL_SRC = 0 ∧ e.get R.HEALTH_ERRS = 1)) = true := by decide +kernel

/-- A device with PTP selected, whose servo is in a state of R35. -/
def ptp (st : Nat) (dial : Dial) : Dev :=
  { (((up.put R.PORT_STATUS_LINK 0).put R.DIAL_CTRL_SRC 1).put R.DIAL_STATUS_STATE st).put R.DIAL_SERVO_CFG_SRC_TIMEOUT 100 with dial := dial }

theorem test_servo : (ptp 1 { goodRun := 15 }).portInService ((ptp 1 { goodRun := 15 }).get R.DIAL_CTRL_PTP_PORT) = true ∧
    after (.servoSample (-100)) (ptp 1 { goodRun := 15 }) (fun e => decide (e.get R.DIAL_STATUS_STATE = 2)) = true ∧
    after (.servoSample 100) (ptp 1 { goodRun := 14 }) (fun e => decide (e.get R.DIAL_STATUS_STATE = 1)) = true ∧
    after (.servoSample 401) (ptp 2 { badRun := 3 }) (fun e => decide (e.get R.DIAL_STATUS_STATE = 1)) = true ∧
    after (.servoSample 0) (ptp 3 {}) (fun e => decide (e.get R.DIAL_STATUS_STATE = 1)) = true := by decide +kernel

theorem test_servo_timeout : (ptp 2 { notch := 100 }).get R.DIAL_SERVO_CFG_SRC_TIMEOUT ≤ 100 ∧
    after .srcTimeout (ptp 2 { notch := 100 }) (fun e => decide (e.get R.DIAL_STATUS_STATE = 3)) = true ∧
    after .srcTimeout (ptp 2 { notch := 99 }) (fun e => decide (e.get R.DIAL_STATUS_STATE = 2)) = true ∧
    after .srcTimeout (ptp 1 { notch := 100 }) (fun e => decide (e.get R.DIAL_STATUS_STATE = 0)) = true ∧
    after .srcTimeout (({ ptp 2 { notch := 100 } with dial := { notch := 100 } } : Dev).put R.DIAL_SERVO_CFG_HOLDOVER_S 0) (fun e =>
      decide (e.get R.DIAL_STATUS_STATE = 0 ∧ e.get R.DIAL_EVENTS_HOLDOVER_END = 1)) = true ∧
    after (.servoSample 0) ((ptp 2 { edgeSample := some (60, true) }).put R.DIAL_CTRL_SRC 2) (fun e =>
      decide (e.get R.DIAL_STATUS_STATE = 1 ∧ e.getInt R.DIAL_STATUS_OFFSET_NS = 60)) = true ∧
    after (.servoSample 0) ((ptp 2 { }).put R.DIAL_CTRL_SRC 2) (fun e => decide (e.get R.DIAL_STATUS_STATE = 2)) = true ∧
    after .holdoverEnd (ptp 3 { sec := 60 }) (fun e => decide (e.get R.DIAL_STATUS_STATE = 0)) = true := by decide +kernel

/-- A device whose step arguments are set. -/
def stepArgs (sec ns : Nat) : Dev := (up.put R.DIAL_STEP_ARG_SEC_SEC sec).put R.DIAL_STEP_ARG_NS_NS ns

theorem test_step : (stepArgs 120 0).accepts (.installer .a) pgDIAL = true ∧ (stepArgs 120 0).dial.stepPending = none ∧
    after (.stepRel (.installer .a)) (stepArgs 120 0) (fun e =>
      decide (e.get R.DIAL_STEP_CMD_STATUS = 0 ∧ e.dial.stepPending = some (.rel 120 0))) = true ∧
    after (.stepRel .firmware) { stepArgs 120 0 with roles := { buffer := List.replicate 1024 (JRec.mk 0 0 0 0 0 0 0 0 0 0 0 0 0 []) } }
      (fun e => decide (e.get R.DIAL_STEP_CMD_STATUS = 1 ∧ e.dial.stepPending = none)) = true ∧
    after (.stepRel (.installer .a)) (stepArgs 0 32) (fun e => decide (e.get R.DIAL_STEP_CMD_STATUS = 2)) = true ∧
    after (.setAbs (.installer .a)) (stepArgs 5 1000000000) (fun e => decide (e.get R.DIAL_STEP_CMD_STATUS = 3)) = true ∧
    after (.setAbs (.installer .a)) (stepArgs 5 999999936) (fun e =>
      decide (e.get R.DIAL_STEP_CMD_STATUS = 0 ∧ e.dial.stepPending = some (.abs 5 999999936))) = true := by decide +kernel

theorem test_step_back : after (.stepRel (.installer .a)) (stepArgs (2 ^ 64 - 1) 0) (fun e =>
      decide (e.get R.DIAL_STEP_CMD_STATUS = 3)) = true := by decide +kernel

/-- The line of the worked case of R41, with the check digits that R39 gives. -/
def todLine : List Byte :=
  [0x24, 0x4B, 0x58, 0x54, 0x4F, 0x44, 0x2C, 0x31, 0x38, 0x30, 0x30, 0x30, 0x30, 0x30, 0x30, 0x36, 0x30, 0x2C, 0x30, 0x30, 0x2A,
    0x34, 0x33, 0x0D, 0x0A]

theorem test_tod : parseTod todLine = some ⟨1800000060, false⟩ ∧
    after (.todMessage todLine) { up with dial := { lastEdge := some (0, 0), ns := 400000000 } } (fun e =>
      decide (e.dial.tod = some ⟨1800000060, false⟩ ∧ e.get R.DIAL_PPS_CNT_TOD_GOOD = 1)) = true ∧
    after (.todMessage todLine) { up with dial := { lastEdge := some (0, 0), ns := 99999936 } } (fun e =>
      decide (e.dial.tod = none ∧ e.get R.DIAL_PPS_CNT_TOD_BAD = 1 ∧ e.get R.DIAL_EVENTS_TOD_BAD = 1)) = true := by decide +kernel

theorem test_pps : after (.ppsInEdge 60) { up with dial := { sec := 1, ns := 0 } } (fun e =>
      decide (e.get R.DIAL_PPS_IN_SEC_SEC = 0 ∧ e.get R.DIAL_PPS_IN_NS_NS = 999999996 ∧ e.get R.DIAL_PPS_CNT_EDGES = 1 ∧
        e.get R.SRC_W1_PEND 80 = 1)) = true ∧
    after .ppsMissed { up.put R.DIAL_CTRL_SRC 2 with dial := { watch := some (0, 0), sec := 1, ns := 100032 } } (fun e =>
      decide (e.get R.DIAL_PPS_CNT_MISSED = 1 ∧ e.dial.watch = some (1, 0))) = true ∧
    after (.ppsInEdge 60) { up with dial := { sec := 1, ns := 0, watch := some (0, 99999996) } } (fun e =>
      decide (e.dial.watch = some (0, 99999996))) = true ∧
    after (.ppsInEdge 60) { up with dial := { sec := 1, ns := 0, watch := some (0, 99996) } } (fun e =>
      decide (e.dial.watch = some (0, 999999996))) = true ∧
    after .ppsOutRise ((up.put R.DIAL_PPS_OUT_CFG_EN 1).put R.DIAL_PPS_OUT_CFG_IDLE 0) (fun e =>
      decide (e.dial.ppsOut = true ∧ e.dial.ppsEnd = 1562500)) = true ∧
    after .ppsOutFall { up with dial := { ppsOut := true, ppsEnd := 7, notch := 7 } } (fun e =>
      decide (e.dial.ppsOut = false)) = true ∧
    after (.notchCountRead (.operator .a)) { up with dial := { notch := 9, sec := 3, ns := 64 } } (fun e =>
      decide (e.get R.DIAL_LATCH_SEC_SEC = 3 ∧ e.get R.DIAL_LATCH_NS_NS = 64)) = true ∧
    after (.rcRead (.mctp .i3c) pgDIAL 0x60 true) { up with dial := { notch := 9, sec := 3, ns := 64 } } (fun e =>
      decide (e.get R.DIAL_LATCH_SEC_SEC = 3 ∧ e.get R.DIAL_LATCH_NS_NS = 64)) = true ∧
    after (.ppsInEdge 0) { up with dial := { sec := 1, ns := 64, tod := some ⟨5, true⟩, stepped := some (1, 64) } } (fun e =>
      decide (e.dial.edgeSample = some (4000000000, true) ∧ e.dial.watch = some (1, 0))) = true ∧
    after .ppsOutRise { up.put R.DIAL_PPS_OUT_CFG_EN 1 with dial := { ns := 64 } } (fun e => decide (e.dial.ppsOut = false)) = true ∧
    after .ppsOutFall { up with dial := { ppsOut := true, ppsEnd := 8, notch := 7 } } (fun e =>
      decide (e.dial.ppsOut = true)) = true := by decide +kernel

theorem test_register_write : (up.holdBank (.installer .a) pgDIAL).hold = false ∧ up.admits (.installer .a) pgDIAL = true ∧
    after (.registerWrite (.installer .a) pgDIAL 0x98 true 0x3C000F4203E80064#64) up (fun e =>
      e.word ⟨.DIAL, 0, 19⟩ == 0x3C000F4203E80064#64) = true ∧
    after (.registerWrite (.operator .a) pgDIAL 0x98 true 7#64) up (fun e =>
      e.word ⟨.DIAL, 0, 19⟩ == up.word ⟨.DIAL, 0, 19⟩ && decide (e.get R.HEALTH_ERRS 0 1 = 1)) = true ∧
    after (.registerWrite (.installer .a) pgDIAL 0x98 false 0x64#64) up (fun e =>
      e.word ⟨.DIAL, 0, 19⟩ == up.word ⟨.DIAL, 0, 19⟩ && after (.registerWrite (.installer .a) pgDIAL 0x9C false 0x3C000F42#64) e
        (fun g => g.word ⟨.DIAL, 0, 19⟩ == 0x3C000F4200000064#64)) = true := by decide +kernel

theorem test_register_writes :
    [(pgDIAL, (⟨.DIAL, 0, 16⟩ : Key), (0xFFFFFFFFFFFF : Word)), (pgDIAL, ⟨.DIAL, 0, 17⟩, 0xFFFFFFFF),
      (pgTABLE, ⟨.TABLE, 0, 9⟩, 0xFFFFFFFF), (pgTABLE, ⟨.TABLE, 0, 12⟩, BitVec.allOnes 64),
      (pgTABLE, ⟨.TABLE, 0, 23⟩, BitVec.allOnes 64), (pgSSTORE, ⟨.SSTORE, 0, 17⟩, BitVec.allOnes 64),
      (pgSSTORE, ⟨.SSTORE, 0, 18⟩, 0xFFFFFFFF), (pgCLASSIFY, ⟨.CLASSIFY, 0, 17⟩, BitVec.allOnes 64),
      (pgCLASSIFY, ⟨.CLASSIFY, 0, 23⟩, BitVec.allOnes 64)].all (fun x =>
        up.admits (.installer .a) x.1 && !(up.holdBank (.installer .a) x.1).hold &&
          after (.registerWrite (.installer .a) x.1 (8 * x.2.1.word) true 0xF3C5A1E7B2D4968F#64) up (fun e =>
            e.word x.2.1 == (0xF3C5A1E7B2D4968F#64 &&& x.2.2))) = true ∧
    after (.registerWrite (.installer .a) pgDIAL 0x98 true 7#64) (up.put R.BOOT_STATUS_STAGE 0) (fun e =>
      e.word ⟨.DIAL, 0, 19⟩ == up.word ⟨.DIAL, 0, 19⟩) = true := by decide +kernel

theorem test_w1c : after (.registerWrite (.operator .a) pgDIAL 0xC0 true 0xFF#64)
      { (up.putWord ⟨.DIAL, 0, 24⟩ 0x0F#64) with
        start := up.regs.setWord ⟨.DIAL, 0, 24⟩ 0x07#64,
        acc := { setNow := [(⟨.DIAL, 0, 24⟩, 0x01#64)] } } (fun e => e.word ⟨.DIAL, 0, 24⟩ == 0x09#64) = true := by decide +kernel

theorem test_rc_read : up.barOpen (.operator .a) = true ∧
    after (.rcRead (.operator .a) pgDIAL 0xB8 true)
      { (up.putWord ⟨.DIAL, 0, 23⟩ 0x0005#64) with start := up.regs.setWord ⟨.DIAL, 0, 23⟩ 0x0003#64 } (fun e =>
        decide (e.get R.DIAL_PPS_CNT_EDGES = 2 ∧ e.out = [.readData (.operator .a) pgDIAL 0xB8 3#64])) = true ∧
    after (.rcRead (.installer .b) pgDIAL 0xB8 true) (up.putWord ⟨.DIAL, 0, 23⟩ 0x0005#64) (fun e =>
        decide (e.get R.DIAL_PPS_CNT_EDGES = 5)) = true := by decide +kernel

theorem test_err_ack : up.mayAck (.operator .a) pgBASIN = true ∧ up.reaches (.operator .a) pgBASIN = true ∧
    after (.errAck (.operator .a) pgBASIN) { up.error pgBASIN 5 1 7 with errs := {} } (fun e =>
      decide (e.get R.HDR_ERR_FIRST_VALID pgBASIN = 0 ∧ e.get R.HDR_ERR_CLASSES_CLASSES pgBASIN = 0)) = true ∧
    after (.errAck (.operator .a) pgBASIN) (up.error pgBASIN 5 1 7) (fun e =>
      decide (e.get R.HDR_ERR_FIRST_VALID pgBASIN = 1 ∧ e.get R.HDR_ERR_FIRST_CLASS pgBASIN = 5)) = true := by decide +kernel

theorem test_hold : (pageInfo up.variant (pgPORT 0)).map (fun i => holdOk i (.operator .a)) = some true ∧
    (pageInfo up.variant pgDIAL).map (fun i => holdOk i (.operator .a)) = some false ∧
    after (.updHold (.operator .a) (pgPORT 0) false) up (fun e =>
      after (.registerWrite (.operator .a) (pgPORT 0) (8 * R.PORT_PFC_THRESH_XON_CELLS.word) true 0x0000100000002000#64) e
        (fun g => g.word (fldKey R.PORT_PFC_THRESH_XON_CELLS 0 0) == up.word (fldKey R.PORT_PFC_THRESH_XON_CELLS 0 0) &&
          decide ((g.holdBank (.operator .a) (pgPORT 0)).writes.length = 1))) = true ∧
    after (.updHold (.operator .a) pgDIAL false) up (fun e =>
      decide (e.get R.HEALTH_ERRS = 1) && !(e.holdBank (.operator .a) pgDIAL).hold) = true ∧
    after (.updRelease (.operator .a) (pgPORT 0) true) up (fun e => decide (e.regs = up.regs)) = true := by decide +kernel

theorem test_window_read : up.reaches (.operator .a) pgSCHED = true ∧
    after (.read (.operator .a) pgSCHED { })
      { up.setWin (.operator .a) pgSCHED { object := 4, index := 262143 } with
        start := up.regs.setWord ⟨.POLICER, 262143, 8⟩ 0xAB#64 } (fun e =>
        decide ((e.winBank (.operator .a) pgSCHED).status = 0 ∧ (e.winBank (.operator .a) pgSCHED).len = 72 ∧
          nth (e.winBank (.operator .a) pgSCHED).data 8 0 = 0xAB#64)) = true ∧
    after (.read (.operator .a) pgSCHED { }) (up.setWin (.operator .a) pgSCHED { object := 4, index := 262144 }) (fun e =>
        decide ((e.winBank (.operator .a) pgSCHED).status = 5)) = true := by decide +kernel

/-- A window bank that has read source 300 and has its word 0 dirty. -/
def srcBank : WinBank :=
  { object := 1
    index := 300
    read := some (1, 300)
    dirty := 1
    data := up.placeMask .SRC 300 0 :: List.replicate 31 0
    staged := [0, 0] }

/-- A second command of a Notch finds the first in progress. -/
theorem test_busy :
    after (.read (.operator .a) pgSCHED { }) (up.setWin (.operator .a) pgSCHED { ran := some ((1, 0), (4, 5)), status := 0 }) (fun e =>
      decide ((e.winBank (.operator .a) pgSCHED).status = 1)) = true ∧
    after (.attachLeaf (.operator .a) 5 7) { up with acc := { up.acc with ran := [(⟨.SCHED, 0, 8⟩, 0)] } } (fun e =>
      decide (e.get R.SCHED_CMD_STATUS = 1 ∧ e.leafNode 5 = up.leafNode 5)) = true := by decide +kernel

theorem test_window_write :
    after (.write (.installer .a) pgEVT) (up.setWin (.installer .a) pgEVT { object := 1, index := 300 }) (fun e =>
        decide ((e.winBank (.installer .a) pgEVT).status = 6)) = true ∧
    after (.write (.installer .a) pgEVT) (up.setWin (.installer .a) pgEVT srcBank) (fun e =>
        decide ((e.winBank (.installer .a) pgEVT).status = 0 ∧
          e.lateWrites.word ⟨.SRC, 300, 0⟩ = up.placeMask .SRC 300 0)) = true := by decide +kernel

/-- A lane group of one eight-lane port in service: port 0, its link UP. -/
def linked : Dev := ((up.put R.PORT_STATUS_LINK 2).put R.PORT_STATUS_LANES 8).put R.PORT_CTRL_ADMIN 1

theorem test_apply_mode : up.accepts (.installer .a) (pgLANEGRP 0) = true ∧ up.recalBusy 0 = false ∧
    after (.applyMode (.installer .a) 0) (up.put R.LANEGRP_MODE_GMODE 0) (fun e =>
      decide (e.get R.LANEGRP_CMD_STATUS = 0 ∧ e.get R.PORT_STATUS_LINK 0 = 0 ∧ e.get R.PORT_STATUS_LANES 0 = 8 ∧
        e.get R.PORT_STATUS_LINK 7 = 3)) = true ∧
    after (.applyMode (.installer .a) 0) (linked.put R.LANEGRP_MODE_GMODE 0) (fun e =>
      decide (e.get R.LANEGRP_CMD_STATUS = 2 ∧ e.get R.PORT_STATUS_LINK 0 = 2)) = true ∧
    after (.applyMode (.installer .a) 0) ((up.put R.LANEGRP_MODE_GMODE 1).put R.LANEGRP_MODE_QMODE1 6) (fun e =>
      decide (e.get R.LANEGRP_CMD_STATUS = 3)) = true ∧
    after (.recal (.installer .a) 0 0) linked (fun e =>
      decide (e.get R.LANEGRP_CMD_STATUS = 5 ∧ e.get R.PORT_STATUS_LINK 0 = 0 ∧ assoc e.ports.recal 0 = some 781250)) = true ∧
    after (.recal (.installer .a) 0 1) linked (fun e => decide (e.get R.LANEGRP_CMD_STATUS = 4)) = true := by decide +kernel

theorem test_links : (linked.awake = true ∧ linked.flows = true ∧ linked.portInService 0 = true) ∧
    after (.linkTrainingStart 0) { linked.put R.PORT_STATUS_LINK 0 with start := (linked.put R.PORT_STATUS_LINK 0).regs } (fun e => decide (e.get R.PORT_STATUS_LINK = 1)) = true ∧
    after (.linkUp 0) (linked.put R.PORT_STATUS_LINK 1) (fun e =>
      decide (e.get R.PORT_STATUS_LINK = 2 ∧ e.get R.PORT_EVENTS = 1)) = true ∧
    after (.linkTrainingFail 0) (linked.put R.PORT_STATUS_LINK 1) (fun e => decide (e.get R.PORT_EVENTS = 8)) = true ∧
    after (.linkDown 0) (linked.put R.PORT_STATUS_TX_PAUSED 0x81) (fun e =>
      decide (e.get R.PORT_STATUS_LINK = 0 ∧ e.get R.PORT_STATUS_TX_PAUSED = 0 ∧ e.get R.HEALTH_ERRS 0 (classSev 3) = 1)) = true ∧
    linked.admits (.operator .a) (pgPORT 0) = true ∧
    after (.adminDown (.operator .a) 0) linked (fun e =>
      decide (e.get R.PORT_STATUS_LINK = 0 ∧ e.get R.PORT_CTRL_ADMIN = 0)) = true := by decide +kernel

theorem test_fec : (up.portInService 3 = false ∧
      after (.fecWindow 3 5 1 7) { up with dial := { notch := 15625000 } } (fun e =>
        decide (e.get R.PORT_FEC_CORR_CW 3 = 5 ∧ e.get R.PORT_FEC_UNCORR_CW 3 = 1 ∧ e.get R.PORT_EVENTS 3 = 0)) = true) ∧
    after (.fecWindow 0 5 1 999999999) { linked with dial := { notch := 15625000 } } (fun e =>
      decide (e.get R.PORT_STATUS_FEC_DEGRADED = 1 ∧ e.get R.PORT_EVENTS = 4)) = true ∧
    after (.fecWindow 0 5 1 1000000000) { linked.put R.PORT_STATUS_FEC_DEGRADED 1 with dial := { notch := 15625000 } } (fun e =>
      decide (e.get R.PORT_STATUS_FEC_DEGRADED = 0)) = true ∧
    after (.calDrift 0 3 true) linked (fun e =>
      decide (e.get R.PORT_EVENTS = 16 ∧ e.get R.HEALTH_REPLACE_REASONS = 64)) = true := by decide +kernel

/-- A linked port with a flow-control frame received in this Notch. -/
def flowing (pfc : Bool) (q : List (Option Nat)) : Dev :=
  { linked.put R.PORT_FC_CFG_RX_MODE (if pfc then 1 else 0) with
    dial := { notch := 10 }, ports := { control := [⟨0, pfc, q, 10⟩], pauses := [((0, 1), 10)] } }

theorem test_flow : (flowing false []).flows = true ∧
    after (.pauseReceived 0) (flowing false (List.replicate 8 (some 0x100))) (fun e =>
      decide (assoc e.ports.pauses (0, 7) = some (10 + (0x100 * 512 + 16 * 6400 - 1) / (16 * 6400)) ∧
        e.get R.PORT_STATUS_TX_PAUSED = 0xFF ∧ e.ports.control = [])) = true ∧
    after (.pfcReceived 0) ((flowing true [none, some 0]).put R.PORT_FC_CFG_FC_IGNORE 1) (fun e =>
      decide (e.get R.PORT_RX_PFC = 1 ∧ e.get R.PORT_RX_FC_IGNORED = 1 ∧ e.ports.pauses = [((0, 1), 10)])) = true ∧
    after (.pfcReceived 0) (flowing true [none, some 0, some 1]) (fun e =>
      decide (assoc e.ports.pauses (0, 1) = none ∧ assoc e.ports.pauses (0, 2) = some 11 ∧
        e.get R.PORT_STATUS_TX_PAUSED = 4)) = true ∧
    after (.pauseTimerExpiry 0 1) (flowing true []) (fun e => decide (e.ports.pauses = [])) = true ∧
    after (.pauseReceived 1) (flowing true []) (fun e => decide (e = flowing true [])) = true := by decide +kernel

theorem test_flow_send :
    after (.flowControlSend 0) { linked with dial := { notch := 10 }, ports := { sends := [⟨0, true, 3, 0xFFFF, 9⟩] } } (fun e =>
      decide (e.ports.sends = [] ∧ e.out = [.flowControl 0 true 8 0xFFFF] ∧ e.get R.PORT_EVENTS = 32 ∧ e.get R.PORT_TX_PFC = 1)) = true ∧
    (linked.get R.PORT_PFC_THRESH_XON_CELLS < linked.flowCells 0 3) = False := by decide +kernel

theorem test_receive : (linked.flows = true ∧ linked.get R.PORT_STATUS_LINK = 2 ∧ assoc linked.ports.rx 0 = none) ∧
    after (.frameReceive 0 5 (List.replicate 63 7) true true) linked (fun e => decide (e.get R.PORT_RX_RUNT = 1)) = true ∧
    after (.frameReceive 0 5 (List.replicate 64 7) true true) (linked.put R.PORT_RX_DEFAULT_ACTION 1) (fun e =>
      decide (e.get R.PORT_RX_FILTER_DROP = 1)) = true ∧
    after (.frameReceive 0 5 (List.replicate 64 7) true true) (linked.put R.PORT_RX_DEFAULT_ACTION 0) (fun e =>
      decide (e.get R.PORT_RX_NOCELL = 1)) = true := by decide +kernel

theorem test_receive_accepts : after (.frameReceive 0 5 (List.replicate 64 7) false true)
      { linked.put R.PORT_RX_DEFAULT_ACTION 0 with basin := { granted := [(0, 77)] } } (fun e =>
        decide ((e.basin.frames.map (fun f => (f.head, f.bytes.length, f.cells))) = [(77, 64, [(77, 64)])] ∧
          e.basin.granted = [])) = true := by decide +kernel

theorem test_standby : up.accepts (.installer .a) pgWAKE = true ∧ up.installNow (fun t => t == 2) = false ∧ up.cmdBusy wakeKey = false ∧
    after (.enterStandby (.installer .a) {}) up (fun e =>
      decide (e.wake.leaving = some (0, {}) ∧ e.get R.WAKE_CMD_STATUS = 4)) = true ∧
    after .notchTick { up with wake := { leaving := some (0, {}) }, dial := { notch := 1 } } (fun e =>
      e.wake.standby && !e.awake) = true ∧
    after (.enterStandby (.installer .a) {}) (up.put R.INST_STATE_STATE 1 3) (fun e =>
      decide (e.wake.leaving = none) && decide (e.get R.WAKE_CMD_STATUS = 2)) = true := by decide +kernel

theorem test_wake :
    after (.wakeMatch [9, 2, 3] true)
      { up with wake := { standby := true, savedCtrl := 2, savedPatterns := [([], 0, 0), ([1, 2, 3], 6, 3)] } } (fun e =>
        !e.wake.standby && e.wake.pinLow && decide (e.get R.WAKE_CAUSE_CAUSE = 1 ∧ e.get R.WAKE_CAUSE_PATTERN = 1)) = true ∧
    after (.wakeMatch (List.replicate 6 0xFF ++ List.flatten (List.replicate 16 [2, 0, 0, 0, 0, 1])) true)
      { up with wake := { standby := true, savedCtrl := 0x100, savedMac := 0x020000000001 } } (fun e =>
        !e.wake.standby && decide (e.get R.WAKE_CAUSE_CAUSE = 2)) = true ∧
    after .wakeReleaseTimeout { up with wake := { pinLow := true, serviceAt := some 0 }, dial := { notch := 15625000 } } (fun e =>
        !e.wake.pinLow) = true := by decide +kernel

theorem test_cell_grant : (up.flows = true ∧ up.get R.BASIN_ING_HELD_CELLS 0 3 < up.get R.BASIN_ING_CFG_MAX 0 3) ∧ up.cellAfter 31 5 = some 160 ∧
    (let out := ({ up with basin := { granted := [(3, 64)] } } : Dev).put R.BASIN_CELLS_TOTAL_BANKS_OUT 2
     out.cellAfter 0 2 = some 66 ∧ after (.cellGrant 3 2) out (fun e => decide (e.grantedTo 3 = [64, 66])) = true) ∧
    (up.put R.BASIN_CELLS_TOTAL_BANKS_OUT (2 ^ 32 - 1)).cellAfter 31 5 = none ∧
    after (.cellGrant 3 5) (up.put R.BASIN_ING_CFG_MAX 10 0 3) (fun e =>
      decide (e.basin.granted = [(3, 160)] ∧ e.get R.BASIN_ING_HELD_CELLS 0 3 = 1)) = true ∧
    after (.cellGrant 3 5) (up.put R.BASIN_ING_CFG_MAX 0 0 3) (fun e => decide (e.basin.granted = [])) = true := by decide +kernel

/-- A frame of 64 bytes on port 3 whose window was complete in Notch 0. -/
def frame3 : Frame :=
  { head := 77, cells := [(77, 64)], bytes := List.replicate 64 7, ingress := 3, cls0 := 2, winNotch := some 0, complete := true }

/-- The device with that frame, slot 2 held by Glen 5 in service, and an idle thread of core 0 of it. -/
def dealing : Dev :=
  { (((up.put R.GLEN_SLOT_PHYS 5 0 2).put R.GLEN_SLOT_STATE slService 0 2).put R.GPHYS_STATUS_CORES_RUN 1 5).put
      R.GPHYS_STATUS_STATE glService 5 with
    dial := { notch := 1 }
    basin := { frames := [frame3] }
    glens := { threads := [(.glen 5 0 0, { st := .idle })], glens := [(5, { entryPacket := 64, modes := [1] })] } }

theorem test_ticket_create : after (.ticketCreate 3) dealing (fun e =>
      decide (e.defile.waiting.map (fun p => (p.tk.get T.INGRESS, p.tk.get T.HEAD_CELL, p.tk.get T.LEN, p.tk.get T.CLASS)) =
        [(3, 77, 64, 2)])) = true := by decide +kernel

theorem test_deal : (noted dealing).nextSlot 3 = some 2 ∧ dealing.nextSlot 3 = none ∧ dealing.seqFits 3 = true ∧
    after (.deal ⟨3, false⟩) { noted dealing with defile := { waiting := [⟨newTicket frame3, frame3.bytes⟩] } } (fun e =>
      decide ((e.slot 2).queue.map (fun x => (x.1, x.2.tk.get T.SLOT)) = [(1, 2)] ∧ e.dealSeq 3 = 1 ∧
        e.defile.waiting = [])) = true := by decide +kernel

theorem test_dispatch : dealing.dispatchCore 5 = some 0 ∧ dealing.idleThreads 5 0 = [0] ∧ dealing.glHolds 5 = true ∧
    after (.dispatch ⟨2, false⟩) (dealing.modSlot 2 (fun x => { x with queue := [(0, ⟨newTicket frame3, []⟩)] })) (fun e =>
      decide ((e.slot 2).queue = [] ∧ (e.thread (.glen 5 0 0)).st = .ready ∧ (e.thread (.glen 5 0 0)).pc = 64)) = true := by decide +kernel

/-- A ticket of ingress 3 with a SEQ. -/
def seqTicket (n : Nat) : Pkt := ⟨(newTicket frame3).put T.SEQ n, []⟩

/-- Tickets on the fabric path of Glen 5, with the head of ingress 3 at 9. -/
def defiling (l : List Pkt) : Dev :=
  { up.put R.DEFILE_ING_HEAD 9 0 3 with dial := { notch := 5000 }, glens := { glens := [(5, { flying := l })] } }

theorem test_defile : after (.defileArrival 5 0 false) (defiling [seqTicket 9]) (fun e =>
      decide (e.defile.released = [(5000, seqTicket 9)] ∧ e.get R.DEFILE_ING_HEAD 0 3 = 10)) = true ∧
    after (.defileArrival 5 0 false) (defiling [seqTicket 10]) (fun e =>
      decide (e.defile.held = [(5000, seqTicket 10)] ∧ e.get R.DEFILE_ING_HEAD 0 3 = 9)) = true ∧
    after (.defileArrival 5 0 false) (defiling [seqTicket 8]) (fun e =>
      decide (e.defile.released = [(5000, seqTicket 8)] ∧ e.get R.DEFILE_LATE = 1)) = true ∧
    after (.defileArrival 5 0 false) ((defiling [seqTicket 9]).put R.GLEN_SLOT_EPOCH 1) (fun e =>
      decide (e.defile.released = [] ∧ e.get R.GLEN_STALE_DROP = 1)) = true := by decide +kernel

theorem test_hole : (defiling []).afterHead 3 10 = 1 ∧
    after (.holeSkip 3) { defiling [] with defile := { held := [(904, seqTicket 10)] } } (fun e =>
      decide (e.defile.released = [(5000, seqTicket 10)] ∧ e.get R.DEFILE_ING_HEAD 0 3 = 11 ∧
        e.get R.DEFILE_SKIP_TIMEOUT = 1)) = true ∧
    after (.holeSkip 3) { defiling [] with defile := { held := [(905, seqTicket 10)] } } (fun e =>
      decide (e.defile.released = [])) = true ∧
    after .defileSkipLost { defiling [] with defile := { lost := [(4999, (3, 9))] } } (fun e =>
      decide (e.get R.DEFILE_ING_HEAD 0 3 = 10 ∧ e.get R.DEFILE_SKIP_LOST = 1 ∧ e.defile.lost = [])) = true := by decide +kernel

/-- A released ticket of frame 77 with a destination type. -/
def admitting (type : Nat) : Dev :=
  { up.put R.INST_STATE_STATE 1 0 with
    dial := { notch := 5 }
    basin := { frames := [{ frame3 with stage := .ticketed }] }
    defile := { released := [(4, ⟨(newTicket frame3).put T.DEST_TYPE type, frame3.bytes⟩)] } }

theorem test_admission : (admitting 5).idleOwner ((newTicket frame3).put T.DEST_TYPE 5) = none ∧
    (admitting 5).instAccepts ((newTicket frame3).put T.DEST_TYPE 5) { frame3 with stage := .ticketed } = true ∧
    after (.admission ⟨0, false⟩) (admitting 5) (fun e => decide (e.get R.BASIN_PROG_DROP = 1 ∧ e.basin.frames = [])) = true ∧
    after (.admission ⟨0, false⟩) (admitting 0) (fun e => decide (e.get R.BASIN_UNRESOLVED_DROP = 1)) = true ∧
    after (.admission ⟨0, false⟩) (admitting 7) (fun e => decide (e.get R.BASIN_UNRESOLVED_DROP = 1)) = true ∧
    after (.admission ⟨0, false⟩) (admitting 1) (fun e => decide (e.get R.BASIN_BAD_DEST = 1 ∨ e.get R.PORT_TX_DOWN_DROP = 1)) = true := by
  decide +kernel

/-- A released ticket for port 0 on leaf 9, whose node is of the port's class 0; `t` changes the ticket, `n` is its window. -/
def bound (t : Ticket → Ticket) (n : Nat) : Dev :=
  { (((linked.put R.INST_STATE_STATE 1 0).put R.NODE_W0_ATTACHED 1 0).put R.LEAF_W0_NODE 0 9).put R.BASIN_ING_CFG_MAX 0 0 3 with
    dial := { notch := 5 }
    basin := { frames := [{ frame3 with stage := .ticketed }] }
    defile := { released := [(4, ⟨t ((((newTicket frame3).put T.DEST_TYPE 1).put T.LEAF 9).put T.WIN_LEN 64), List.replicate n 3⟩)] }
    sched := { policerRates := [(5, { mode := 1, drop := 7 })] } }

theorem test_admission_limits :
    (let d := bound id 64
     let t := ((newTicket frame3).put T.DEST_TYPE 1).put T.LEAF 9
     (d.destOf t = .egress 0 ∧ d.leafClass 9 = some 0 ∧ d.absentUnit t = false) ∧
     after (.admission ⟨0, false⟩) d (fun e => decide (e.basin.frames.map (fun f => (f.stage, f.egress, f.leaf, f.cls, f.admitted)) =
       [(.queued, 0, 9, 0, 5)] ∧ e.get R.SCHED_CLASS_MISMATCH = 1)) = true ∧
     after (.admission ⟨0, false⟩) (bound (fun t => t.put T.CLASS 0) 64) (fun e => decide (e.get R.SCHED_CLASS_MISMATCH = 0)) = true ∧
     after (.admission ⟨0, false⟩) (d.put R.PORT_CTRL_ADMIN 0) (fun e => decide (e.get R.PORT_TX_DOWN_DROP = 1)) = true ∧
     after (.admission ⟨0, false⟩) (d.put R.LEAF_W0_NODE 1 9) (fun e => decide (e.get R.BASIN_BAD_DEST = 1)) = true ∧
     after (.admission ⟨0, false⟩) (d.put R.LEAFREC_W0_MAX_CELLS 0 9) (fun e =>
       decide (e.get R.BASIN_TAIL_DROP = 1 ∧ e.get R.ECSTAT_TAIL_DROP 0 = 1 ∧ e.get R.INST_ADMIT_DROP = 1)) = true) := by decide +kernel

theorem test_admission_refusals :
    after (.admission ⟨0, false⟩) (bound id 300) (fun e => decide (e.get R.BASIN_NOCELL_ADMIT = 1)) = true ∧
    after (.admission ⟨0, false⟩) (bound (fun t => (t.put T.POL_VALID 1).put T.POLICER 5) 64) (fun e =>
      decide (e.get R.SCHED_POLICE_DROP = 1 ∧ e.get R.INST_ADMIT_DROP = 1)) = true ∧
    after (.admission ⟨0, false⟩) (bound (fun t => t.put T.INSTANCE 1) 64) (fun e =>
      decide (e.get R.BASIN_INST_DROP = 1 ∧ e.get R.INST_STATE_DROP 1 = 1)) = true ∧
    after (.admission ⟨0, false⟩) (bound (fun t => (t.put T.DEST_TYPE 3).put T.RECIRC 3) 64) (fun e =>
      decide (e.get R.BASIN_RECIRC_DROP = 1)) = true := by decide +kernel

/-- A frame being read out by port 0. -/
def sending : Dev :=
  { linked with basin := { frames := [{ frame3 with stage := .egress, started := true, egress := 0 }] } }

/-- A frame at the head of leaf 9, offered to port 0, the leaf on a node of class 0. -/
def offering : Dev :=
  { (linked.put R.NODE_W0_ATTACHED 1 0).put R.LEAF_W0_NODE 0 9 with
    basin := { frames := [{ frame3 with stage := .queued, egress := 0, leaf := 9 }] }
    sched := { offers := [(0, ⟨77, 0, 0⟩)] }, dial := { notch := 1 } }

theorem test_corrected :
    (let d := { linked with basin := { frames := [{ frame3 with stage := .egress, started := true, egress := 18 }] } }
     let b := (nth (frame3.cells) 0 (0, 0)).1 % 32
     d.inService 18 = d.basin.frames ∧ 0 < frame3.cells.length ∧
     after (.frameComplete 18 0 (.corrected [0])) d (fun e => decide (e.get R.BANK_W0_CORR b = 1 ∧ e.get R.BANK_W0_STATE b = 0)) =
       true ∧
     after (.frameComplete 18 0 (.corrected [0])) (d.put R.HEALTH_BASIN_HCFG_CORR_LIMIT 1) (fun e =>
       decide (e.get R.BANK_W0_STATE b = 1)) = true) := by decide +kernel

theorem test_complete : sending.inService 0 = [{ frame3 with stage := .egress, started := true, egress := 0 }] ∧
    after (.frameComplete 0 0 .none) sending (fun e =>
      decide (e.basin.frames = [] ∧ e.get R.PORT_TX_FRAMES = 1 ∧ e.basin.freeing.length = 1)) = true ∧
    after (.frameStart 0 5 false .none) linked (fun e => decide (e.basin = linked.basin)) = true ∧
    (offering.offered 0).map Frame.head = some 77 ∧ offering.leafNode 9 = some 0 ∧
    after (.frameStart 0 5 false .none) offering (fun e =>
      decide (e.basin.frames.map (fun f => (f.stage, f.started)) = [(.egress, true)])) = true := by decide +kernel

/-- A queued frame of leaf 9 that expires after 64 Notches, the leaf examined in Notch 64. -/
def ageing : Dev :=
  { up.put R.BASIN_Q_AGE_AGE_LIMIT 64 with
    dial := { notch := 64 }
    basin := { frames := [{ frame3 with stage := .queued, leaf := 9 }], examined := [9] } }

theorem test_age : (ageing.leafHead 9).map Frame.head = some 77 ∧
    after (.ageDrop 9) ageing (fun e => decide (e.basin.frames = [] ∧ e.get R.BASIN_AGED = 1)) = true ∧
    after (.ageDrop 9) { ageing with dial := { notch := 63 } } (fun e => decide (e.basin.frames.length = 1)) = true ∧
    after (.bankRetired 4) (up.put R.BANK_W0_STATE 1 4) (fun e =>
      decide (e.get R.BANK_W0_STATE 4 = 2 ∧ e.get R.HEALTH_REPLACE_REASONS = 32)) = true ∧
    up.usedInBank 4 = 0 ∧ up.get R.BANK_W0_STATE 5 ≠ 1 := by decide +kernel

/-- Core 3 of Glen 5 runs; its thread 2 is selected by the debugger. -/
def debugged (t : Thread) : Dev :=
  ((((up.put R.GPHYS_STATUS_STATE glService 5).put R.GPHYS_STATUS_CORES_RUN 8 5).put R.GPHYS_DBG_SEL_CORE 3 5).put
    R.GPHYS_DBG_SEL_THREAD 2 5).setThread (.glen 5 3 2) t

/-- The selected thread after a debugger command meets a check, and the command's status. -/
def debug (c : Instr) (t : Thread) (n : Nat) (P : Thread → Bool) : Bool :=
  after c (debugged t) (fun e => e.get R.GPHYS_DBG_CMD_STATUS 5 == n && P (e.thread (.glen 5 3 2)))

theorem test_debugger : up.accepts (.installer .a) (pgGPHYS 5) = true ∧
    debug (.halt (.installer .a) 5) { st := .ready } 0 Thread.halted = true ∧
    debug (.gphysResume (.installer .a) 5) { st := .ready } 3 (fun t => !t.halted) = true ∧
    debug (.gphysResume (.installer .a) 5) { st := .ready, halted := true } 0 (fun t => !t.halted) = true ∧
    debug (.step (.installer .a) 5) { st := .ready, halted := true } 0 Thread.stepping = true := by decide +kernel

theorem test_debugger_drops :
    debug (.abortStage (.installer .a) 5) { st := .ready, halted := true, stage := some (1, [7]) } 0
      (fun t => t.stage.isNone) = true ∧
    debug (.abortStage (.installer .a) 5) { st := .ready, halted := true } 4 Thread.halted = true ∧
    debug (.dropTicket (.installer .a) 5) { st := .ready, halted := true } 5 Thread.halted = true ∧
    debug (.dropTicket (.installer .a) 5) { st := .ready, halted := true, pkt := some (seqTicket 9), stage := some (1, [7]) } 6
      Thread.halted = true ∧
    after (.dropTicket (.installer .a) 5) (debugged { st := .ready, halted := true, pkt := some (seqTicket 9) }) (fun e =>
      decide ((e.thread (.glen 5 3 2)).st = .idle ∧ (e.glen 5).flying = [(seqTicket 9).dropped 0xF2])) = true := by decide +kernel

theorem test_break : after (.break_ 5 3 2)
    (((((debugged { st := .ready, pc := 16 }).put R.GPHYS_BRK_EN 1 5 2).put R.GPHYS_BRK_CORE 3 5 2).put R.GPHYS_BRK_ADDR 16 5 2)
      ) (fun e => decide ((e.thread (.glen 5 3 2)).halted = true ∧ e.get R.GPHYS_EVENTS 5 = 2)) = true := by decide +kernel

theorem test_core_stop : after (.coreStop 5 3)
    { (debugged { st := .stopped, pkt := some (seqTicket 9) }).put R.GPHYS_STATUS_SLOT 2 5 with
      glens := { (debugged { st := .stopped, pkt := some (seqTicket 9) }).glens with stops := [⟨5, 3, 2, 0x0D, 40, 7, 0⟩] }
      dial := { notch := 1 } } (fun e =>
      decide (e.get R.GPHYS_CORE_FAULT_CODE 5 3 = 0x0D ∧ e.get R.GPHYS_CORE_FAULT_PC 5 3 = 40 ∧ e.get R.GPHYS_FAULTS 5 = 1 ∧
        (e.glen 5).flying = [(seqTicket 9).dropped 0xF0] ∧ (e.thread (.glen 5 3 2)).pkt = none ∧
        assoc e.glens.restarts (5, 3) = some 17)) = true := by decide +kernel

theorem test_core_restart : after (.coreRestartAuto 5 3)
    { up.put R.GPHYS_STATUS_STATE glService 5 with
      glens := { glens := [(5, { entryService := 128, modes := [0, 0, 0, 9] })], restarts := [((5, 3), 7)] }
      dial := { notch := 7 } } (fun e =>
      decide (e.coreRuns 5 3 = true ∧ (e.thread (.glen 5 3 0)).st = .idle ∧ (e.thread (.glen 5 3 1)).st = .ready ∧
        (e.thread (.glen 5 3 1)).pc = 128 ∧ (e.thread (.glen 5 3 2)).st = .off)) = true := by decide +kernel

/-- A SERVICE thread of core 3 of Glen 5 that waits for an event, with the watches' counts. -/
def stalled (a b : Nat) : Dev :=
  (debugged { st := .blkEvwait, pc := 48 }).modGlen 5
    (fun x => { x with modes := [0, 0, 0, 32], coreStall := [(3, a)], stall := b })

theorem test_stalls : after (.stallAll 5 3) (stalled 64 64) (fun e =>
      decide (e.coreRuns 5 3 = false ∧ e.glens.stops = [⟨5, 3, 2, 0x0E, 40, 0, 0⟩])) = true ∧
    after (.stallAll 5 3) (stalled 63 64) (fun e => e.coreRuns 5 3) = true ∧
    after (.stallGlen 5) (stalled 0 256) (fun e => decide (e.coreRuns 5 3 = false ∧ e.glens.stops.map CoreStop.code = [0x0F])) = true ∧
    after (.stallGlen 5) (stalled 0 255) (fun e => e.coreRuns 5 3) = true := by decide +kernel

/-- Glen 5 holds slot 2. -/
def holding : Dev :=
  (((up.put R.GPHYS_STATUS_STATE glService 5).put R.GPHYS_STATUS_SLOT 2 5).put R.GLEN_SLOT_STATE slService 0 2).put
    R.GLEN_SLOT_PHYS 5 0 2

theorem test_heartbeats : after (.heartbeatSend 5) { holding with dial := { notch := 2048 } } (fun e =>
      decide ((e.glen 5).beats = 1)) = true ∧
    after (.heartbeatArrival 5) { holding.modGlen 5 (fun x => { x with beats := 1 }) with dial := { notch := 2050 } } (fun e =>
      decide ((e.glen 5).beats = 0 ∧ (e.glen 5).arrived = true ∧ e.get R.GPHYS_HB_LAST 5 = 2050)) = true ∧
    after .heartbeatCheck { holding with dial := { notch := 2560 } } (fun e =>
      decide (e.get R.GPHYS_HB_MISSES 5 = 1 ∧ e.glState 5 = glService)) = true := by decide +kernel

theorem test_dead : after .heartbeatCheck { holding.put R.GPHYS_HB_MISSES 3 5 with dial := { notch := 2560 } } (fun e =>
      decide (e.glState 5 = glDead ∧ e.slState 2 = slVacant ∧ e.get R.GLEN_SLOT_PHYS 0 2 = 0x1F ∧
        e.get R.GLEN_SLOT_EPOCH 0 2 = 1 ∧ e.get R.GLEN_EVENTS = 1)) = true := by decide +kernel

theorem test_fill_start : after (.fillStart 2) (noted ((up.put R.GPHYS_STATUS_STATE glSpare 5).put R.GLENSPARE_POLICY_AUTO 1)) (fun e =>
      decide (e.glState 5 = glFilling ∧ e.slState 2 = slFilling)) = true ∧
    after (.fillStart 2) (up.put R.GLENSPARE_POLICY_AUTO 0) (fun e => decide (e.get R.GLEN_EVENTS = 8)) = true ∧
    after (.fillStart 2) (up.put R.GPHYS_STATUS_STATE glSpare 5) (fun e => decide (e.glState 5 = glSpare)) = true := by decide +kernel

/-- Glen 5 fills for slot 2. -/
def filling (kind : FillKind) : Dev :=
  (up.put R.GPHYS_STATUS_STATE glFilling 5).modGlen 5 (fun x => { x with fill := some { slot := 2, kind := kind, start := 0 } })

theorem test_fill_complete : after (.fillComplete 5) (filling .auto) (fun e =>
      decide (e.glState 5 = glService ∧ e.slState 2 = slService ∧ e.get R.GLEN_SLOT_PHYS 0 2 = 5 ∧
        e.get R.GPHYS_STATUS_CORES_RUN 5 = 2 ^ 32 - 1)) = true := by decide +kernel

theorem test_fill_fails : after (.fillComplete 5) ((filling .auto).put R.GSLOT_PROG_CRC_CUR 1 2) (fun e =>
      decide (e.glState 5 = glFailed ∧ e.slState 2 = slVacant)) = true ∧
    after (.fillFail 5) (filling .handover) (fun e => decide (e.glState 5 = glFailed ∧ e.get R.GLEN_EVENTS = 64)) = true ∧
    after (.fillComplete 5) ((filling .handover).put R.GLEN_SLOT_PHYS 4 0 2) (fun e =>
      decide (e.slState 2 = slDraining ∧ e.glState 4 = glDraining)) = true := by decide +kernel

theorem test_glen_commands : up.accepts (.installer .a) pgGLEN = true ∧ up.cmdBusy glenCmdKey = false ∧
    after (.handover (.installer .a) 2 0x1F) (holding.put R.GPHYS_STATUS_STATE glSpare 7) (fun e =>
      decide (e.get R.GLEN_CMD_STATUS = 2 ∧ e.glState 7 = glFilling ∧ e.slState 2 = slService)) = true ∧
    after (.handover (.installer .a) 2 0x1F) holding (fun e => decide (e.get R.GLEN_CMD_STATUS = 5)) = true ∧
    after (.admitGlen (.installer .a) 3 7) (holding.put R.GPHYS_STATUS_STATE glSpare 7) (fun e =>
      decide (e.get R.GLEN_CMD_STATUS = 2 ∧ e.glState 7 = glFilling ∧ e.slState 3 = slFilling)) = true ∧
    after (.admitGlen (.installer .a) 2 7) (holding.put R.GPHYS_STATUS_STATE glSpare 7) (fun e =>
      decide (e.get R.GLEN_CMD_STATUS = 3)) = true ∧
    after (.restartCore (.installer .a) 5 31) holding (fun e => decide (e.get R.GLEN_CMD_STATUS = 0 ∧ e.coreRuns 5 31 = true)) =
      true := by decide +kernel

/-- A Glen command of a code on Glen 7 is in progress. -/
def pendingGlen (code : Nat) (d : Dev) : Dev := ((d.put R.GLEN_CMD_CODE code).put R.GLEN_CMD_ARG_PHYS 7).cmdStart glenCmdKey

theorem test_selftest : after (.selftest (.installer .a) 7) (up.put R.GPHYS_STATUS_STATE glFailed 7) (fun e =>
      decide (e.get R.GLEN_CMD_STATUS = 2 ∧ e.glState 7 = glSelftest)) = true ∧
    after (.selftest (.installer .a) 7) (up.put R.GPHYS_STATUS_STATE glSpare 7) (fun e =>
      decide (e.get R.GLEN_CMD_STATUS = 3)) = true ∧
    after (.selftestDone 7 true) (pendingGlen 4 (up.put R.GPHYS_STATUS_STATE glSelftest 7)) (fun e =>
      decide (e.glState 7 = glSpare ∧ e.get R.GLEN_CMD_STATUS = 0 ∧ e.get R.GLEN_EVENTS = 32)) = true ∧
    after (.selftestDone 7 false) (pendingGlen 4 (up.put R.GPHYS_STATUS_STATE glSelftest 7)) (fun e =>
      decide (e.glState 7 = glFailed ∧ e.get R.GLEN_CMD_STATUS = 7)) = true ∧
    after (.handover (.installer .a) 2 7) (pendingGlen 4 holding) (fun e => decide (e.get R.GLEN_CMD_STATUS = 1)) = true := by
  decide +kernel

/-- The smallest image: a header, no code, and the trailer with its CRC. -/
def smallImage : List Byte :=
  let head : List Byte := [0x41, 0x51, 1, 1, 0, 0, 0, 0]
  head ++ leBytes 8 (crc32c head)

theorem test_image : imageOk smallImage = true ∧ imageOk (smallImage.set 8 0) = false ∧ (up.put R.HOST_LINK_STATUS_UP 1).dmaOk 0 = true := by decide +kernel

theorem test_stage_prog :
    after (.stageProg (.installer .a) 2 (some smallImage)) ((up.put R.HOST_LINK_STATUS_UP 1).put R.GSLOT_PROG_INFO_LEN 16 2) (fun e =>
      decide (e.get R.GLEN_CMD_STATUS = 0 ∧ (e.slot 2).staged = some smallImage ∧ e.get R.GSLOT_PROG_INFO_STAGED 2 = 1)) = true := by
  decide +kernel

theorem test_drain_end : after (.handoverDrainEnd 2)
    (pendingGlen 2 ((holding.modSlot 2 (fun x => { x with drainFrom := some 0, staged := some smallImage })).modGlen 7
      (fun x => { x with fill := some { slot := 2, kind := .handover, start := 0, done := true } }))) (fun e =>
      decide (e.glState 5 = glSpare ∧ e.glState 7 = glService ∧ e.get R.GLEN_SLOT_PHYS 0 2 = 7 ∧
        (e.slot 2).current = smallImage ∧ e.get R.GLEN_CMD_STATUS = 0 ∧ e.get R.GLEN_EVENTS = 16)) = true ∧
    after (.handoverDrainEnd 2) ((holding.modSlot 2 (fun x => { x with drainFrom := some 0 })).modGlen 5
      (fun x => { x with dealt := [⟨3, 9, 77, 0⟩] })) (fun e => decide (e.glState 5 = glService)) = true := by decide +kernel

/-- Thread 2 of core 3 of Glen 5, a PACKET thread, with 64 bytes of code. -/
def running (t : Thread) : Dev :=
  (debugged t).modGlen 5 (fun x => { x with code := List.replicate 64 0, modes := [0, 0, 0, 16] })

/-- That thread, and what it comes to after an instruction. -/
def i5 : Issue := { thread := .glen 5 3 2 }
def ran (c : Instr) (t : Thread) (P : Thread → Bool) : Bool := after c (running t) (fun e => P (e.thread (.glen 5 3 2)))

/-- A ready thread whose g4 and g5 hold `a` and `b`. -/
def holds (a b : Word) : Thread := { st := .ready, pc := 16, regs := List.replicate 4 0 ++ [a, b] ++ List.replicate 26 0 }

/-- Control core 1, its thread ready at 8. -/
def ctrl1 (x : CtrlCore) (t : Thread) : Dev := (up.modCtrl 1 (fun _ => x)).setThread (.ctrl 1) t

theorem test_codes : (running (holds 0 0)).codes (.add i5 6 4 5) = false ∧ (placed (.add i5 6 4 5) (running (holds 0 0))).codes (.add i5 6 4 5) = true ∧
    (match exec (.nop i5) (on (running (holds 0 0))) with | .next u => decide ((u.dev.glens.stops.getLast?).map CoreStop.code = some 1) | _ => false) = true ∧
    (match exec (.nop i5) (on (placed (.add i5 6 4 5) (running (holds 0 0)))) with
      | .next u => decide (u.dev = placed (.add i5 6 4 5) (running (holds 0 0))) | _ => false) = true := by decide +kernel

theorem test_trap : (running (holds 0 0)).fetches i5 = true ∧
    after (.trap i5 0xFFFFFFFF) (running (holds 0 0)) (fun e => decide (e.coreRuns 5 3 = false ∧
      e.glens.stops = [⟨5, 3, 2, 0x0D, 16, 0xFFFFFFFFFFFFFFFF, 0⟩] ∧ (e.thread (.glen 5 3 2)).st = .stopped)) = true ∧
    (ctrl1 { excEntry := 640 } (holds 0 0)).fetches { thread := .ctrl 1 } = true ∧
    after (.trap { thread := .ctrl 1 } 0) (ctrl1 { excEntry := 640 } (holds 0 0)) (fun e => decide (
      (e.ctrl 1).stack = [⟨16, 0, 0, true, true⟩] ∧ (e.thread (.ctrl 1)).pc = 640 ∧ (e.ctrl 1).cause = 0x0D)) = true := by decide +kernel

/-- The code with which the core stops. -/
def faultCode (c : Instr) (t : Thread) : Option Nat :=
  match exec c (on (placed c (running t))) with
  | .next u => (u.dev.glens.stops.getLast?).map CoreStop.code
  | _ => none

theorem test_faults : faultCode (.nop i5) { holds 0 0 with pc := 64 } = some 3 ∧
    faultCode (.nop i5) { holds 0 0 with pc := 12 } = some 3 ∧ faultCode (.nop { i5 with ecc := some .program }) (holds 0 0) = some 7 ∧
    faultCode (.add { i5 with ecc := some (.registers [5, 4]) } 6 5 4) (holds 0 0) = some 7 ∧
    faultCode (.add { i5 with ecc := some (.registers [6]) } 6 5 4) (holds 0 0) = none ∧
    faultCode (.ld { i5 with ecc := some .memory } 6 4 3 0) (holds 8 0) = some 7 ∧
    faultCode (.eret i5) (holds 0 0) = some 2 ∧ faultCode (.shli i5 4 4 64) (holds 0 0) = some 1 ∧
    faultCode (.shli i5 4 4 63) (holds 0 0) = none ∧ faultCode (.bcc i5 4 5 6 0) (holds 0 0) = some 1 := by decide +kernel

theorem test_turns : (running (holds 0 0)).turn 5 3 = some (0, 2) ∧
    after (.mul i5 6 4 5) (running (holds 0 0)) (fun e => decide (e.nextCycle 5 3 = 1 ∧ e.turn 5 3 = some (3, 2))) = true ∧
    ((running (holds 0 0)).setThread (.glen 5 3 0) (holds 0 0)).turn 5 3 = some (0, 0) ∧
    ((running (holds 0 0)).setThread (.glen 5 3 0) (holds 0 0)).ready i5.thread = false := by decide +kernel

/-- What g6 reads after an instruction with g4 and g5 as given. -/
def result (c : Instr) (a b v : Word) : Bool := ran c (holds a b) (fun t => t.reg 6 == v && t.pc == 24)

theorem test_register_arithmetic : result (.add i5 6 4 5) (-1) 2 1 = true ∧ result (.sub i5 6 4 5) 1 2 (-1) = true ∧
    result (.and_ i5 6 4 5) 12 10 8 = true ∧ result (.or_ i5 6 4 5) 12 10 14 = true ∧ result (.xor i5 6 4 5) 12 10 6 = true ∧
    result (.shl i5 6 4 5) 3 65 6 = true ∧ result (.shr i5 6 4 5) (-1) 63 1 = true ∧ result (.sar i5 6 4 5) (-8) 1 (-4) = true ∧
    result (.mul i5 6 4 5) (-1) (-1) 1 = true ∧ result (.sltu i5 6 4 5) 1 (-1) 1 = true ∧ result (.slt i5 6 4 5) 1 (-1) 0 = true ∧
    result (.minu i5 6 4 5) 1 (-1) 1 = true ∧ result (.maxu i5 6 4 5) 1 (-1) (-1) = true ∧
    ran (.nop i5) (holds 1 2) (fun t => decide (t = { holds 1 2 with pc := 24 })) = true ∧
    ran (.add i5 0 4 5) (holds 1 2) (fun t => decide (t = { holds 1 2 with pc := 24 })) = true := by decide +kernel

/-- CRC-32C of the eight ASCII bytes "12345678", by its published algorithm. -/
theorem test_crc32c : result (.crc32c i5 6 4 5) 0 0x3837363534333231 0x6087809A = true := by decide +kernel

theorem test_immediate_arithmetic : result (.addi i5 6 4 0xFFFFFFFF) 5 0 4 = true ∧ result (.andi i5 6 4 0xFFFFFFF0) (-1) 0 (-16) = true ∧
    result (.ori i5 6 4 5) 2 0 7 = true ∧ result (.xori i5 6 4 0xFFFFFFFF) 5 0 (-6) = true ∧
    result (.shli i5 6 4 63) 1 0 0x8000000000000000 = true ∧ result (.shri i5 6 4 63) (-1) 0 1 = true ∧
    result (.sari i5 6 4 63) (-2) 0 (-1) = true ∧ result (.movi i5 6 0x80000000) 0 0 0xFFFFFFFF80000000 = true ∧
    ran (.movhi i5 4 7) (holds 5 0) (fun t => t.reg 4 == 0x700000005) = true ∧
    result (.ext i5 6 4 (8 + 256 * 4)) 0xABCD 0 0xB = true ∧
    ran (.ins i5 5 4 (60 + 256 * 4)) (holds 0xF3 1) (fun t => t.reg 5 == 0x3000000000000001) = true := by decide +kernel

theorem test_branches : ran (.bcc i5 4 5 4 0xFFFFFFFF) (holds (-1) 0) (fun t => t.pc == 8) = true ∧
    ran (.bcc i5 4 5 2 0xFFFFFFFF) (holds (-1) 0) (fun t => t.pc == 24) = true ∧
    ran (.jmp i5 3) (holds 0 0) (fun t => t.pc == 40) = true ∧
    ran (.call i5 6 3) (holds 0 0) (fun t => t.pc == 40 && t.reg 6 == 24) = true ∧
    ran (.jr i5 4) (holds 128 0) (fun t => t.pc == 128) = true := by decide +kernel

theorem test_load_store : ran (.ld i5 6 4 0 0) (holds 8 0) (fun t => decide (t.st = .blkReply ∧ t.reply = [(6, 0)])) = true ∧
    after (.st i5 4 5 1 0xFFFFFFFE) (running (holds 10 0xABCD)) (fun e =>
      decide (e.mem = [(scratchBase 5 + 8, 0xCD), (scratchBase 5 + 9, 0xAB)] ∧ (e.thread i5.thread).pc = 24)) = true ∧
    after (.amoadd i5 6 4 5 0) { running (holds 8 2) with mem := [(scratchBase 5 + 8, 0xFF)] } (fun e =>
      decide (e.mem = [(scratchBase 5 + 8, 1), (scratchBase 5 + 9, 1)] ∧ (e.thread i5.thread).reply = [(6, 0xFF)])) = true ∧
    faultCode (.ld i5 6 4 3 0) (holds 524281 0) = some 4 ∧ faultCode (.ld i5 6 4 3 0) (holds 12 0) = some 5 ∧
    faultCode (.ld i5 6 4 3 0) (holds 524280 0) = none := by decide +kernel

theorem test_scratch_reply : ran (.scratchReply i5.thread) { holds 0 0 with st := .blkReply, scratchReply := true, reply := [(6, 7)] }
    (fun t => decide (t.st = .ready ∧ t.reg 6 = 7 ∧ t.reply = [])) = true := by decide +kernel

/-- A window of ten bytes 0 to 9 on a ticket; and the window and rd after an instruction. -/
def windowed : Pkt := ⟨newTicket frame3, (List.range 10).map (BitVec.ofNat 8)⟩
def edits (c : Instr) (a b : Word) (w : List Nat) (v : Word) : Bool :=
  ran c { holds a b with pkt := some windowed } (fun t => decide (t.pkt.map (fun p => p.win.map BitVec.toNat) = some w) && t.reg 6 == v)

theorem test_window : edits (.wld i5 6 4 2 0) 3 0 (List.range 10) 0x03040506 = true ∧
    edits (.wst i5 6 4 5 1 0) 8 0xAABB [0, 1, 2, 3, 4, 5, 6, 7, 0xAA, 0xBB] 0 = true ∧
    edits (.wpush i5 6 4 (2 * 65536 + 1)) 0 0 [0, 0, 0, 1, 2, 3, 4, 5, 6, 7, 8, 9] 0 = true ∧
    edits (.wpushs i5 6 4 5 (1 * 65536 + 10)) 0 0 [0, 1, 2, 3, 4, 5, 6, 7, 8, 9, 0] 0 = true ∧
    edits (.wpop i5 6 4 (3 * 65536)) 1 0 [0, 4, 5, 6, 7, 8, 9] 0 = true ∧
    edits (.wcpy i5 6 4 5 (2 * 65536)) 4 0 [0, 1, 2, 3, 0, 0, 6, 7, 8, 9] 0 = true := by decide +kernel

theorem test_window_limits : edits (.wpush i5 6 4 (2 * 65536 + 11)) 0 0 (List.range 10) 4 = true ∧
    edits (.wpop i5 6 4 (8 * 65536 + 3)) 0 0 (List.range 10) 5 = true ∧
    ran (.wpush i5 6 4 65536) { holds 0 0 with pkt := some { windowed with tk := windowed.tk.put T.EDITS 8 } }
      (fun t => t.reg 6 == 1) = true ∧
    faultCode (.wpush i5 6 4 (2 * 65536)) { holds 256 0 with pkt := some windowed } = some 6 ∧
    faultCode (.wld i5 6 4 3 0) { holds 249 0 with pkt := some windowed } = some 6 ∧
    faultCode (.wcpy i5 6 4 5 65536) { holds 0 524288 with pkt := some windowed } = some 4 := by decide +kernel

theorem test_ticket_fields : ran (.tld i5 6 1) { holds 0 0 with pkt := some windowed } (fun t => t.reg 6 == 3) = true ∧
    ran (.tst i5 4 19) { holds 9 0 with pkt := some windowed } (fun t => (t.pkt.map (fun p => p.tk.get T.DEST_TYPE)) == some 1) = true ∧
    ran (.tldq i5 6 0) { holds 0 0 with pkt := some (seqTicket 9) } (fun t => t.reg 6 == 0x300000009) = true ∧
    faultCode (.tst i5 4 0) { holds 9 0 with pkt := some windowed } = some 1 := by decide +kernel

theorem test_stat_emit : ran (.stat i5 6) { holds 0 0 with lockBroken := true, events := 2 } (fun t =>
      t.reg 6 == 5 + 3 * 2 ^ 8 + 2 * 2 ^ 13 + 5 * 2 ^ 24 && !t.lockBroken) = true ∧
    after (.emit i5) (running { holds 0 0 with pkt := some windowed }) (fun e =>
      decide ((e.glen 5).flying = [windowed] ∧ (e.thread i5.thread).st = .idle ∧ (e.thread i5.thread).pkt = none)) = true ∧
    faultCode (.emit i5) { holds 0 0 with pkt := some windowed, stage := some (1, []) } = some 0x0B ∧
    faultCode (.emit i5) (holds 0 0) = some 0x0C := by decide +kernel

theorem test_channels : after (.chwr i5 4 7) (running (holds 9 0)) (fun e =>
      decide ((e.thread i5.thread).stage = some (7, [9]) ∧ (e.chan (5, 7)).writer = some i5.thread)) = true ∧
    after (.chcommit i5) ((running { holds 0 0 with stage := some (7, [9, 8]) }).setChan (5, 7) { writer := some i5.thread })
      (fun e => decide ((e.chan (5, 7)) = { msgs := [[9, 8]] } ∧ (e.thread i5.thread).stage = none)) = true ∧
    after (.chrd i5 6 1 7) ((running (holds 0 0)).setChan (5, 7) { msgs := [[9, 8], [5]] })
      (fun e => decide ((e.chan (5, 7)).msgs = [[5]] ∧ (e.thread i5.thread).regs.take 9 = [0, 0, 0, 0, 0, 0, 2, 9, 0])) = true ∧
    ran (.chrd i5 6 1 7) (holds 0 0) (fun t => decide (t.st = .blkChrd)) = true ∧
    ran (.chtry i5 4 1 7) (holds 9 0) (fun t => t.reg 4 == 0) = true ∧ faultCode (.chcommit i5) (holds 0 0) = some 0x0A := by
  decide +kernel

theorem test_locks : after (.lkacq i5 4 1) (running (holds 6 0)) (fun e => decide ((e.lock (5, 7)).holder = some i5.thread)) = true ∧
    after (.lktry i5 6 4 1) ((running (holds 6 0)).putLock (5, 7) { holder := some (.glen 5 0 0) }) (fun e =>
      (e.thread i5.thread).reg 6 == 0) = true ∧
    after (.lkacq i5 4 1) ((running (holds 6 0)).putLock (5, 7) { holder := some (.glen 5 0 0) }) (fun e =>
      decide ((e.thread i5.thread).st = .blkLock)) = true ∧
    after (.lkrel i5 4 0) ((running (holds 4096 0)).putLock (32, 4096) { holder := some i5.thread, waiters := [.glen 6 0 0] })
      (fun e => decide ((e.lock (32, 4096)).holder = some (.glen 6 0 0))) = true ∧
    faultCode (.lkrel i5 4 0) (holds 7 0) = some 8 ∧ faultCode (.lkacq i5 4 0) (holds 5120 0) = some 8 := by decide +kernel

theorem test_events : after (.evpost i5 1) ((running (holds 0 0)).setThread (.glen 5 3 0) { st := .blkEvwait }) (fun e =>
      decide ((e.thread (.glen 5 3 0)).st = .ready)) = true ∧
    ran (.evwait i5) { holds 0 0 with events := 3 } (fun t => decide (t.events = 2 ∧ t.st = .ready)) = true ∧
    ran (.evwait i5) (holds 0 0) (fun t => decide (t.st = .blkEvwait)) = true := by decide +kernel

/-- Control core 1's instruction, and what its registers and thread come to. -/
def c1 : Issue := { thread := .ctrl 1 }
def ctrlRan (c : Instr) (x : CtrlCore) (t : Thread) (P : CtrlCore → Thread → Bool) : Bool :=
  after c (ctrl1 x t) (fun e => P (e.ctrl 1) (e.thread (.ctrl 1)))

theorem test_control_registers : (up.csr 1 3).isSome = true ∧
    ctrlRan (.csrr c1 6 3) { } (holds 0 0) (fun _ t => t.reg 6 == 0x60000) = true ∧
    ctrlRan (.csrw c1 4 3) { } (holds 0x40000 0) (fun x _ => x.vecBase == 0x40000) = true ∧
    ctrlRan (.csrw c1 4 3) { } (holds 0x40040 0) (fun x _ => x.vecBase == 0x60000) = true ∧
    ctrlRan (.csrw c1 4 4) { } (holds 0x1FF 0) (fun x _ => x.excEntry == 0x1C0) = true ∧
    ctrlRan (.csrw c1 4 1) { } (holds 1 0) (fun x _ => x.ie) = true ∧
    ctrlRan (.mreq c1 4) { mreq := 1 } (holds 0x102 0) (fun x _ => x.mreq == 3) = true ∧
    after (.swint c1 4) (ctrl1 { } (holds 65 0)) (fun e => decide (e.control.soft = [1] ∧ (e.ctrl 1).swintOpen = true)) = true ∧
    ctrlRan (.wfi c1) { } (holds 0 0) (fun x _ => x.wfi) = true ∧
    ctrlRan (.fence c1) { } (holds 0 0) (fun _ t => t.pc == 24) = true := by decide +kernel

theorem test_eret : ctrlRan (.eret c1) { exc := true, stack := [⟨40, 0, 0, true, true⟩] } (holds 0 0)
      (fun x t => !x.exc && t.pc == 48 && x.stack.isEmpty) = true ∧
    after (.eret c1) (ctrl1 { runPrio := 9, stack := [⟨40, 3, 70, false, false⟩] } (holds 0 0)) (fun e =>
      decide (e.control.done = [(70, 0)] ∧ (e.ctrl 1).runPrio = 3 ∧ (e.thread (.ctrl 1)).pc = 40)) = true := by decide +kernel

theorem test_internal : ctrlRan (.mld c1 6 4 2 0) { } (holds 0x200100008 0) (fun _ t => t.reg 6 == 0 && t.pc == 24) = true ∧
    after (.mst c1 4 5 0 0) (ctrl1 { } (holds 0x100000003 0xAB)) (fun e => decide (e.mem = [(0x100000003, 0xAB)])) = true ∧
    after (.mld c1 6 4 3 0) (ctrl1 { } (holds 0x1000000 0)) (fun e => decide ((e.ctrl 1).cause = 4)) = true ∧
    after (.mld c1 6 4 3 0) (ctrl1 { } (holds 4 0)) (fun e => decide ((e.ctrl 1).cause = 5)) = true ∧
    after (.mld c1 6 4 3 0) (ctrl1 { } (holds 0 0)) (fun e => decide ((e.thread (.ctrl 1)).reg 6 = 0x10000)) = true := by decide +kernel

theorem test_core_timer : after (.coreTimer 1) { ctrl1 { timer := 7 } { } with dial := { notch := 7 } } (fun e =>
      decide (e.get R.SRC_W1_PEND 65 = 1)) = true := by decide +kernel

/-- Software source 9 at priority 5 pends, and core 1 takes interrupts. -/
def pending9 (route : Nat) : Dev :=
  let d := (((up.put R.SRC_W1_PEND 1 9).put R.SRC_W1_EFF_PRIO 5 9).put R.SRC_W0_ROUTE route 9).put R.EVT_CORE_IE 1 0 1
  { d with start := d.regs }

theorem test_presentation : (pending9 0).eligibleList 0 = [9] ∧ (pending9 0).chosenCore 9 = some 1 ∧
    after .presentation (pending9 0) (fun e => decide (e.get R.SRC_W1_SERVICE 9 = 1 ∧ e.get R.SRC_W1_PEND 9 = 0 ∧
      (e.ctrl 1).outst = some (9, 5) ∧ e.get R.EVT_ROTOR_CORE = 2)) = true := by decide +kernel

theorem test_acknowledge : after (.acknowledge 1) ((ctrl1 { outst := some (9, 5) } (holds 0 0)).put R.SRC_W1_SERVICE 1 9) (fun e =>
      decide ((e.ctrl 1).stack = [⟨16, 0, 9, false, false⟩] ∧ (e.ctrl 1).runPrio = 5 ∧
        (e.thread (.ctrl 1)).pc = 0x60000 + 64 * 9 ∧ e.get R.SRC_W1_SERVICE 9 = 2)) = true ∧
    after (.acknowledge 1) (ctrl1 { outst := some (300, 5) } (holds 0 0)) (fun e =>
      decide ((e.thread (.ctrl 1)).pc = 0x60000 + 64 * 2047 ∧ e.get R.EVT_SPURIOUS = 1)) = true := by decide +kernel

theorem test_completion : after (.sourceComplete 9)
    { up.put R.SRC_W1_SERVICE 2 9 with control := { done := [(9, 0)] }, dial := { notch := 1 } } (fun e =>
      decide (e.get R.SRC_W1_SERVICE 9 = 0 ∧ e.control.done = [])) = true ∧
    after (.hostDelivery 9) (pending9 1) (fun e => decide (e.get R.SRC_W1_SERVICE 9 = 2 ∧ (e.msixEntry 0 0).pending = true)) = true ∧
    after (.hostEoi (.operator .a) 9) ((pending9 1).put R.SRC_W1_SERVICE 2 9) (fun e =>
      decide (e.get R.EVT_HOST_EOI_STATUS = 0 ∧ e.control.done = [(9, 0)])) = true ∧
    after (.hostEoi (.operator .a) 9) (pending9 0) (fun e => decide (e.get R.EVT_HOST_EOI_STATUS = 3)) = true := by decide +kernel

theorem test_requests : after (.swset (.operator .a) 6) (up.put R.EVT_SWSET 1) (fun e => decide (e.get R.EVT_SWSET = 7)) = true ∧
    after (.ncSiReceive true) up (fun e => decide (e.control.levels = [196])) = true ∧
    after (.controlCoreDebugHalt 3 true) up (fun e => decide ((e.ctrl 3).halted = true ∧ e.get R.EVT_CORE_HALTED 0 3 = 1)) = true := by
  decide +kernel

/-- A device with the entry of a key in table `a`, and its registers as they stand at the start of the Notch. -/
def keyed (d : Dev) (a : Nat) (key data : List Word) : Dev :=
  let d1 :=
    match d.plan a 0 key with
    | .place b i alt => (d.lowestEntry a).elim d (fun e => d.placeEntry a 0 e b i alt key data false 0)
    | _ => d
  { d1 with start := d1.regs }

/-- The thread of Glen 5 ready on such a device. -/
def asking (d : Dev) (a b : Word) : Dev :=
  (({ d with glens := (running (holds a b)).glens }.put R.GPHYS_STATUS_STATE glService 5).put R.GPHYS_STATUS_CORES_RUN 8 5)

/-- The reply that the thread waits for. -/
def replies (c : Instr) (d : Dev) (a b : Word) (l : List (Nat × Word)) : Bool :=
  after c (asking d a b) (fun e => decide ((e.thread i5.thread).st = .blkReply ∧ (e.thread i5.thread).reply = l))

theorem test_flook :
    (let d := keyed ((up.put R.TABLE_FT_CFG_VALID 1 0 0).put R.TABLE_FT_CFG_KEY_WORDS 1 0 0) 0 [7, 8] [10, 11, 12, 13]
     replies (.flook i5 6 4 2 0 { }) d 7 8 [(6, 1), (7, 10), (8, 11), (9, 12), (10, 13)] = true ∧
     replies (.flook i5 6 4 2 0 { }) d 7 9 [(6, 0), (7, 0), (8, 0), (9, 0), (10, 0)] = true ∧
     replies (.flook i5 6 4 1 0 { }) d 7 8 [(6, 3), (7, 0), (8, 0), (9, 0), (10, 0)] = true) := by decide +kernel

theorem test_rlook :
    (let d := keyed (up.put R.VRF_W0_EN 1) 16 (routeKey 0 0 8 0x0A000000 0) [99]
     replies (.rlook i5 6 4 0 { }) d 0x0A010203 0 [(6, 1 + 8 * 256), (7, 99)] = true ∧
     replies (.rlook i5 6 4 0 { }) d 0x0B010203 0 [(6, 0), (7, 0)] = true) := by decide +kernel

/-- The device after an MLEARN has been issued and served. -/
def learns (d : Dev) (a b : Word) (P : Dev → Bool) : Bool :=
  after (.mlearn i5 6 4 5 { }) (asking d a b) (fun e => decide ((e.thread i5.thread).st = .blkReply ∧ e.tables.asked.length = 1) &&
    P e.serveLearns)

theorem test_flook_waits :
    (let d := keyed ((up.put R.TABLE_FT_CFG_VALID 1 0 0).put R.TABLE_FT_CFG_KEY_WORDS 1 0 0) 0 [7, 8] [10, 11, 12, 13]
     after (.flook i5 6 4 2 0 { }) (asking { d with tables := { d.tables with hbmUsed := 153 } } 7 8) (fun e =>
       decide (e.tables.waiting = [⟨some i5.thread, 6, 0, [7, 8]⟩] ∧ e.engineHolds i5.thread = true ∧
         (e.stepTables.thread i5.thread).reply = [(6, 1), (7, 10), (8, 11), (9, 12), (10, 13)] ∧
         e.stepTables.get R.TABLE_HBM_WAITS = 1)) = true) := by decide +kernel

theorem test_mac_lookups :
    (let d := keyed (up.put R.TABLE_MAC_CFG_EN 1) 17 [0x1234] [5]
     replies (.mlook i5 6 4 { }) d 0x1234 0 [(6, 1), (7, 5)] = true ∧ replies (.mlook i5 6 4 { }) d 0x1235 0 [(6, 0), (7, 0)] = true ∧
     replies (.mlook i5 6 4 { }) up 0x1234 0 [(6, 3), (7, 0)] = true ∧
     learns d 0x1234 9 (fun e => decide ((e.thread i5.thread).reply = [(6, 1)])) = true ∧
     learns d 0x1235 9 (fun e => decide ((e.thread i5.thread).reply = [(6, 0)])) = true) := by decide +kernel

theorem test_mlearn :
    learns (keyed ((up.put R.TABLE_MAC_CFG_EN 1).put R.TABLE_MAC_CFG_LEARN_EN 1) 17 [0x1234] [5]) 77 9
      (fun e => decide (e.get R.MACENT_W0_VALID 1 = 1 ∧ e.word ⟨.MACENT, 1, 1⟩ = 77 ∧ e.word ⟨.MACENT, 1, 2⟩ = 9 ∧
        e.get R.TABLE_MAC_LEARNED = 1 ∧ (e.thread i5.thread).reply = [(6, 4)])) = true := by decide +kernel

/-- A rule set of four rows, of which rows 1 and 3 match key word 7, row 3 with the higher priority. -/
def ruled : Dev :=
  let row := fun (d : Dev) (r prio act : Nat) =>
    ((((d.put R.RULE_CTRL_VALID 1 r).put R.RULE_CTRL_PRIO prio r).put R.RULE_VALUE 7 r).put R.RULE_MASK 0xFF r).put R.RULE_ACT0 act r
  let d := row (row ((up.put R.CLASSIFY_RULESET_VALID 1 0 2).put R.CLASSIFY_RULESET_ROWS 4 0 2) 1 5 50) 3 6 60
  { d with start := d.regs }

theorem test_rule : replies (.rule i5 6 4 1 2 { }) ruled 0x107 0 [(6, 1 + 3 * 2 ^ 32), (7, 60), (8, 0)] = true ∧
    replies (.rule i5 6 4 1 2 { }) ruled 8 0 [(6, 0), (7, 0), (8, 0)] = true ∧
    replies (.rule i5 6 4 1 3 { }) ruled 8 0 [(6, 3), (7, 0), (8, 0)] = true ∧
    ran (.tableReply i5.thread) { holds 0 0 with st := .blkReply, reply := [(6, 7)] } (fun t => t.reg 6 == 7) = true := by decide +kernel

/-- The MAC table with address 0x1234 and a command in progress. -/
def engine (code : Nat) (key : Word) : Dev :=
  { ((keyed (up.put R.TABLE_MAC_CFG_EN 1) 17 [0x1234] [5]).tableStatus code 17 2).cmdStart tableCmdKey with
    tables := { cmd := some { table := 17, code := code, key := [key], data := [8], next := 0 } } }

/-- The status a table command reads back. -/
def tableStatusOf (c : Instr) (d : Dev) : Option Nat :=
  match exec c (on d) with
  | .next u => some (u.dev.get R.TABLE_CMD_STATUS)
  | _ => none

theorem test_table_commands : up.accepts (.installer .a) pgTABLE = true ∧
    tableStatusOf (.insert (.installer .a) 17) up = some 2 ∧ tableStatusOf (.insert (.installer .a) 18) up = some 6 ∧
    tableStatusOf (.find (.installer .a) 3) up = some 6 ∧ tableStatusOf (.deleteIndex (.installer .a) 17) (up.put R.TABLE_CMD_ARG_ARG
      524288) = some 7 ∧ tableStatusOf (.rebuildBegin (.installer .a) 17) up = some 2 ∧
    tableStatusOf (.migrate (.installer .a) 17) up = some 7 ∧ tableStatusOf (.migrate (.installer .a) 17) (up.put R.TABLE_CMD_ARG_ARG
      1) = some 8 ∧ tableStatusOf (.switch (.installer .a) 17) up = some 8 ∧ tableStatusOf (.flush (.installer .a) 16) up = some 7 ∧
    tableStatusOf (.flush (.installer .a) 17) (engine 4 0) = some 1 ∧ tableStatusOf (.replace (.installer .a) 17) up = some 2 ∧
    tableStatusOf (.delete (.installer .a) 17) up = some 2 := by decide +kernel

theorem test_table_complete : tableStatusOf .tableCmdComplete (engine 4 0x1234) = some 0 ∧
    tableStatusOf .tableCmdComplete (engine 4 0x1235) = some 4 ∧ tableStatusOf .tableCmdComplete (engine 1 0x1234) = some 3 ∧
    after .tableCmdComplete (engine 2 0x1234) (fun e => decide (e.word ⟨.MACENT, 0, 2⟩ = 8)) = true ∧
    after .tableCmdComplete (engine 3 0x1234) (fun e => decide (e.get R.MACENT_W0_VALID 0 = 0)) = true ∧
    after .tableCmdComplete (engine 6 0) (fun e => e.regs.rebuilding 17) = true := by decide +kernel

theorem test_table_switch : after .tableCmdComplete ((engine 8 0).put R.TABLE_MAC_STATE_STATE 1 |>.put R.TABLE_MAC_STATE_COUNT_ACTIVE 0)
    (fun e => decide (e.regs.activeBank 17 = 1 ∧ e.regs.rebuilding 17 = false)) = true := by decide +kernel

theorem test_mac_ages :
    (let d := (keyed (up.put R.TABLE_MAC_CFG_EN 1) 17 [0x1234] [5]).put R.TABLE_MAC_CFG_AGE_EN 1
     after .tableAgeSweep { d.put R.TABLE_MAC_CFG_AGE_LIMIT 2 with dial := { notch := 2048 } } (fun e =>
       decide (e.get R.MACENT_W0_VALID 0 = 0 ∧ e.get R.TABLE_MAC_AGED = 1 ∧ e.tables.macSweep = 16)) = true ∧
     after .tableAgeSweep { d.put R.TABLE_MAC_CFG_AGE_LIMIT 3 with dial := { notch := 2048 } } (fun e =>
       decide (e.get R.MACENT_W0_VALID 0 = 1)) = true) := by decide +kernel

/-- The status a scheduler command reads back. -/
def schedStatusOf (c : Instr) (d : Dev) : Option Nat :=
  match exec c (on d) with
  | .next u => some (u.dev.get R.SCHED_CMD_STATUS)
  | _ => none

theorem test_tree : up.accepts (.installer .a) pgSCHED = true ∧
    after (.attachLeaf (.installer .a) 9 5) up (fun e => decide (e.get R.LEAF_W0_NODE 9 = 5 ∧ e.get R.SCHED_CMD_STATUS = 0)) = true ∧
    after (.detachLeaf (.installer .a) 9) (up.put R.LEAF_W0_NODE 5 9) (fun e => decide (e.leafNode 9 = none)) = true ∧
    after (.attachNode (.installer .a) 5 3 2) up (fun e => decide (e.nodeClass 5 = some 26)) = true ∧
    schedStatusOf (.detachNode (.installer .a) 5) (up.put R.LEAF_W0_NODE 5 9) = some 4 ∧
    after (.detachNode (.installer .a) 5) (up.put R.NODE_W0_ATTACHED 1 5) (fun e => decide (e.nodeClass 5 = none)) = true ∧
    schedStatusOf (.attachNode (.installer .a) 5 20 2) up = some 5 ∧
    schedStatusOf (.attachNode (.installer .a) 5 3 2)
      ((((up.put R.NODE_W0_ATTACHED 1 5).put R.NODE_W0_EGRESS 3 5).put R.NODE_W0_CLASS 2 5).put R.LEAF_W0_NODE 5 9) = some 0 ∧
    schedStatusOf (.detachNode (.installer .a) 32768) up = some 5 ∧
    schedStatusOf (.gateSwitch (.installer .a) 16 3) up = some 5 ∧
    schedStatusOf (.attachLeaf (.installer .a) 9 5) { up with basin := { frames := [{ frame3 with stage := .queued, leaf := 9 }] } } =
      some 3 := by decide +kernel

theorem test_refill :
    (let d := ((((up.put R.LEAF_W1_CIR 3 9).put R.LEAF_W2_CBS 1 9).put R.LEAF_W0_WEIGHT 7 9).put R.LEAF_W1_PIR 10 9).put
       R.LEAF_W2_PBS 1 9
     after .refill { d with dial := { notch := 32 } } (fun e =>
       decide (e.getInt R.LEAF_TC 9 = 3072 ∧ e.getInt R.LEAF_TP 9 = 8000 ∧ e.get R.LEAF_W0_WEIGHT_USE 9 = 7)) = true ∧
     after .refill { d with dial := { notch := 33 } } (fun e => decide (e.getInt R.LEAF_TC 9 = 0)) = true) ∧
    (let d := (((up.put R.POLICER_W0_MODE 1 9).put R.POLICER_W1_CIR 10 9).put R.POLICER_W2_CBS 1 9).put R.POLICER_W2_XBS 1 9
     after .refill { d with dial := { notch := 32 } } (fun e =>
       decide (e.getInt R.POLICER_T1 9 = 8000 ∧ e.getInt R.POLICER_T2 9 = 2240)) = true) := by decide +kernel

/-- Port-class 3 with an enabled list of two entries of 10 Notches, the first open and the second closed. -/
def gated : Dev :=
  (((up.put R.GATE_W0_EN 1 3).put R.GATE_BASE_LEN 2 3 0).put R.GATE_CYCLE 20 3 0).put R.GATEENT_W0_DURATION 10 (2048 * 3) |>.put
    R.GATEENT_W0_OPEN 0 (2048 * 3 + 1)

theorem test_gates : after .gateEval { gated with dial := { notch := 8, ns := 64 * 8 } } (fun e =>
      decide (e.get R.GATE_W0_OPEN_NOW 3 = 1)) = true ∧
    after .gateEval { gated with dial := { notch := 9, ns := 64 * 9 } } (fun e => decide (e.get R.GATE_W0_OPEN_NOW 3 = 0)) = true ∧
    gated.gateSum 3 0 1 = 10 ∧
    after .gateEval { gated.put R.GATE_W0_PENDING 1 3 with dial := { notch := 19, ns := 64 * 19 } } (fun e =>
      decide (e.get R.GATE_W0_ACTIVE 3 = 1 ∧ e.get R.GATE_W0_PENDING 3 = 0)) = true ∧
    after .gateEval { gated.put R.GATE_W0_PENDING 1 3 with dial := { notch := 18, ns := 64 * 18 } } (fun e =>
      decide (e.get R.GATE_W0_ACTIVE 3 = 0 ∧ e.get R.GATE_W0_PENDING 3 = 1)) = true ∧
    schedStatusOf (.gateSwitch (.installer .a) 0 3) up = some 0 ∧
    schedStatusOf (.gateSwitch (.installer .a) 0 3) (up.put R.GATE_CYCLE 0 3 1) = some 5 ∧
    schedStatusOf (.gateSwitch (.installer .a) 0 3) (up.put R.GATE_W0_PENDING 1 3) = some 6 ∧
    after (.gateSwitched 0 3) ((gated.put R.GATE_W0_PENDING 1 3).put R.GATE_CHANGE_NS 64 3) (fun e =>
      decide (e.get R.GATE_W0_ACTIVE 3 = 0)) = true ∧
    after (.gateSwitched 0 3) (up.put R.GATE_W0_PENDING 1 3) (fun e =>
      decide (e.get R.GATE_W0_ACTIVE 3 = 1 ∧ e.get R.SCHED_EVENTS = 1)) = true := by decide +kernel

/-- Instance 0 RUNNING with queue pairs 0 and 1 and a VF on a port that is up, and ring 1 of 64 entries enabled. -/
def ringing : Dev :=
  ((((((up.put R.INST_RING_RANGE_QP_COUNT 2 0).put R.INST_VEC_RANGE_VEC_COUNT 4 0).put R.INST_STATE_STATE stRunning 0).put
    R.RCTX_CFG_EN 1 1).put R.RCTX_CFG_SIZE_LOG2 6 1).put R.HOST_LINK_STATUS_UP 1 0).put R.HOST_LINK_CFG_VF_TOTAL_NOW 4 0

/-- A write to host memory through port A, issued as a function. -/
def toHost (fn a : Nat) (bs : List Byte) : Out := .hostWrite .a { fn := fn, addr := a, bytes := bs }

/-- A transmit descriptor of one buffer of 64 bytes, FIRST and LAST. -/
def desc64 : List Byte := leBytes 8 0x1000 ++ leBytes 8 (64 + 2 ^ 16 + 2 ^ 17) ++ leBytes 8 0 ++ leBytes 8 0

theorem test_doorbell : ringing.ringServes 1 = true ∧ ringing.ringOwner 1 = some 0 ∧
    after (.doorbell 0 1 32 2 [some desc64, some desc64] false) ringing (fun e =>
      decide (e.prodPos 1 = 2 ∧ (e.ring 1).entries = [{ desc := some desc64 }, { desc := some desc64 }])) = true ∧
    after (.doorbell 0 1 32 (2 ^ 16 + 1) [] false) ringing (fun e => decide (e.get R.INST_DB_CNT_DB_LAP 0 = 1)) = true ∧
    after (.doorbell 0 1 16 2 [] false) ringing (fun e => decide (e.get R.INST_DB_CNT_DB_BAD 0 = 1 ∧
      e.get R.INST_RING_EVENTS 0 = 2)) = true ∧
    after (.doorbell 0 4 32 2 [] false) ringing (fun e => decide (e.get R.INST_DB_CNT_DB_BAD 0 = 1)) = true ∧
    after (.doorbell 0 1 32 64 [] false) (ringing.put R.INST_STATE_STATE stFrozen 0) (fun e =>
      decide (e.get R.INST_DB_CNT_DB_BAD 0 = 0)) = true ∧
    after (.doorbell 0 1 32 2 [] true) ringing (fun e => decide ((e.ring 1).bad = true)) = true ∧
    after (.doorbell 0 1 32 2 [] true) (ringing.modRing 1 (fun x => { x with bad := true })) (fun e =>
      decide (e.get R.HEALTH_ERRS 0 2 = 0)) = true := by decide +kernel

/-- The worked case of R368 at Notch 20,101 and at 20,102: CONS at 40, PROD at position 64, then 104. -/
theorem test_doorbell_wrap :
    (let d := (ringing.setCons 1 40).setProd 1 64
     after (.doorbell 0 1 32 (2 ^ 16 + 40) [] false) d (fun e => decide (e.prodPos 1 = 104)) = true ∧
     after (.doorbell 0 1 32 (2 ^ 16 + 41) [] false) (d.setProd 1 104) (fun e =>
       decide (e.prodPos 1 = 104 ∧ e.get R.INST_DB_CNT_DB_LAP 0 = 1)) = true) := by decide +kernel

theorem test_tx_chain :
    (let d := (ringing.put R.RCTX_CFG_DEF_CLASS 3 1).modRing 1 (fun x => { x with entries := [{ desc := some desc64 }] })
     let g : Dev := { d with basin := { granted := [(16, 9)] } }
     g.txNext 0 = some 1 ∧ up.txNext 0 = none ∧
     after (.txChainServe .a [some (List.replicate 64 5)]) g (fun e =>
       decide (e.basin.frames.map (fun f => (f.head, f.ingress, f.cls0, f.origin, f.bytes)) =
         [(9, 16, 3, some 0, List.replicate 64 5)] ∧ (e.ring 1).entries.map RingEntry.done = [some csOk])) = true ∧
     after (.txChainServe .a [some (List.replicate 64 5)]) d (fun e => decide (e.basin.frames = [])) = true) := by decide +kernel

theorem test_tx_completion :
    (let d := ringing.modRing 1 (fun x => { x with entries := [{ desc := some desc64, chain := some 0, done := some csOk }] })
     after (.txCompletion 1) d (fun e => decide (e.consPos 1 = 1 ∧ (e.ring 1).pend = 1 ∧ (e.ring 1).entries = [] ∧
       e.out = [toHost 4 0 (leBytes 8 0 ++ leBytes 8 (64 + 2 ^ 16 + 2 ^ 17) ++ leBytes 8 0 ++ leBytes 8 (2 ^ 63))])) = true ∧
     after (.txCompletion 1) ringing (fun e => decide (e.consPos 1 = 0)) = true) := by decide +kernel

/-- Receive ring 0 of that instance, with a frame of 64 bytes in its hold. -/
def held64 : Dev :=
  { (ringing.put R.RCTX_CFG_EN 1 0).modRing 0 (fun x => { x with hold := [77] }) with basin := { frames := [frame3] } }

theorem test_holds : held64.frame? 77 = some frame3 ∧ held64.ringServes 0 = true ∧ held64.writing 0 = [] ∧
    after (.rxHoldStart 0) (held64.modRing 0 (fun x => { x with entries := [{ desc := some (leBytes 8 0 ++ leBytes 8 64) }] }))
      (fun e => decide ((e.ring 0).hold = [] ∧ e.basin.frames = [frame3])) = true ∧
    after (.rxHoldStart 0) held64 (fun e => decide ((e.ring 0).hold = [77])) = true ∧
    after (.rxNobuf 0) { held64 with dial := { notch := 1024 } } (fun e =>
      decide ((e.ring 0).hold = [] ∧ e.basin.frames = [] ∧ e.get R.RCTX_RX_NOBUF 0 = 1 ∧ e.get R.INST_RING_EVENTS 0 = 16)) = true ∧
    after (.rxNobuf 0) { held64 with dial := { notch := 1023 } } (fun e => decide ((e.ring 0).hold = [77])) = true := by decide +kernel

theorem test_vectors :
    (let d := (ringing.put R.RCTX_CFG_INT_EN 1 1).modRing 1 (fun x => { x with pend := 1 })
     after (.interruptRaise 1) d (fun e => decide ((e.ring 1).pend = 0 ∧ (e.msixEntry 4 0).pending = true ∧ e.out = [])) = true ∧
     after (.interruptRaise 1) { (d.setMsix 4 0 { masked := false }) with
        host := { (d.setMsix 4 0 { masked := false }).host with msixCtl := [(4, (true, false))] } } (fun e =>
       decide (e.out = [.msix 4 0])) = true ∧
     after (.interruptRaise 1) (ringing.put R.RCTX_CFG_INT_EN 1 1) (fun e => decide (e.host.msix = [])) = true) := by decide +kernel

/-- Host port A trains, and its link is up. -/
def trained (up' training : Bool) : Dev :=
  { (up.put R.HOST_LINK_STATUS_UP (bit up')).put R.HOST_LINK_CFG_VF_TOTAL_NOW 2 0 with
    host := { links := [(0, { perst := false, training := training })] } }

theorem test_retrain : up.accepts (.installer .a) (pgHOST 0) = true ∧
    after (.retrain (.installer .a) .a) (trained true false) (fun e =>
      decide (e.get R.HOST_CMD_STATUS = 2 ∧ e.get R.HOST_LINK_STATUS_RETRAINS = 1 ∧ e.dmaOk 0 = false)) = true ∧
    after (.retrain (.installer .a) .a) up (fun e => decide (e.get R.HOST_CMD_STATUS = 4)) = true := by decide +kernel

theorem test_host_link : (trained false true).mayTrain 0 = true ∧
    after (.hostLinkUp .a 1 0 true) (trained false true) (fun e =>
      decide (e.linkUp 0 = true ∧ e.get R.HOST_LINK_STATUS_SPEED = 1 ∧ e.get R.HOST_EVENTS = 5)) = true ∧
    after (.hostLinkUp .a 1 0 true) (trained false false) (fun e => decide (e.linkUp 0 = false)) = true ∧
    after (.hostLinkDown .a) (trained true false) (fun e => decide (e.linkUp 0 = false ∧ e.get R.HOST_EVENTS = 2 ∧
      e.get R.HDR_ERR_FIRST_CLASS (pgHOST 0) = 3 ∧ (e.link 0).training = true)) = true := by decide +kernel

theorem test_perst :
    after (.perstAssert .a) ((trained true false).setMsix 1 5 { addr := 8 }) (fun e => decide (e.linkUp 0 = false ∧
      e.get R.HOST_EVENTS = 26 ∧ e.session 2 = none ∧ e.msixEntry 1 5 = { } ∧ e.get R.INST_FLR_CNT_FLR 1 = 1)) = true ∧
    after (.perstRelease .a) up (fun e => decide ((e.link 0).training = true ∧ (e.link 0).perst = false)) = true := by decide +kernel

theorem test_config_request :
    after (.configRequest 1 (.msixEntry 3 8 9 false)) (trained true false) (fun e =>
      decide (e.out = [.config 1 false] ∧ e.msixEntry 1 3 = { addr := 8, data := 9, masked := false })) = true ∧
    after (.configRequest 1 (.read .msixTableSize)) ((trained true false).put R.BOOT_STATUS_STAGE bsSettings) (fun e =>
      decide (e.out = [.config 1 true])) = true ∧
    after (.configRequest 0 (.read .totalVfs)) (trained true false) (fun e =>
      decide (e.out = [.config 0 false (some 2)])) = true ∧
    after (.configRequest 1 (.write .maxPayload 2)) (trained true false) (fun e =>
      decide (e.configField 1 .maxPayload = 2 ∧ e.configField 0 .maxPayload = 0)) = true := by decide +kernel

theorem test_flr : up.instVf 0 = some (0, 1) ∧ after (.pfFlr 1) up (fun e => decide (e.session 2 = none)) = true ∧
    after (.pfFlr 0) up (fun e => decide (e.session 2 ≠ none)) = true ∧
    after (.vfFlr 0) ringing (fun e => decide (e.instState 0 = stQuiescing ∧ e.get R.INST_STATE_FLR 0 = 1)) = true ∧
    after (.vfFlr 1) ringing (fun e => decide ((e.inst 1).flr = some stFree ∧ (e.inst 1).resetting = true)) = true ∧
    after (.vfFlr 0) (ringing.put R.HEALTH_STATUS_SAFE_HOLD 1) (fun e => decide (e.instState 0 = stRunning ∧
      e.get R.INST_FLR_CNT_FLR 0 = 1)) = true := by decide +kernel

/-- The status an instance's command reads back, and the code that is to act. -/
def instStatusOf (c : Instr) (i : Nat) (d : Dev) : Option (Nat × Option Nat) :=
  match exec c (on d) with
  | .next u => some (u.dev.get R.INST_CMD_STATUS i, (u.dev.inst i).due)
  | _ => none

/-- Instance 5 in a state. -/
def inState (st : Nat) : Dev := up.put R.INST_STATE_STATE st 5

theorem test_instance_commands : up.accepts (.operator .a) (pgINST 5) = true ∧
    instStatusOf (.activate (.operator .a) 5) 5 up = some (2, some 1) ∧
    instStatusOf (.activate (.operator .a) 0) 0 up = some (3, none) ∧
    instStatusOf (.quiesce (.operator .a) 5) 5 (inState stRunning) = some (2, some 2) ∧
    instStatusOf (.resume (.operator .a) 5) 5 (inState stQuiesced) = some (2, some 3) ∧
    instStatusOf (.freeze (.operator .a) 5) 5 (inState stFrozen) = some (3, none) ∧
    instStatusOf (.thaw (.operator .a) 5) 5 (inState stFrozen) = some (2, some 5) ∧
    instStatusOf (.save (.operator .a) 5) 5 (inState stFrozen) = some (5, none) ∧
    instStatusOf (.save (.operator .a) 5) 5 ((inState stFrozen).put R.INST_MIG_SIZE_BYTES 376 5) = some (2, some 6) ∧
    instStatusOf (.restore (.operator .a) 5) 5 (up.put R.INST_MIG_ADDR_ADDR 32 5) = some (6, none) ∧
    instStatusOf (.restore (.operator .a) 5) 5 up = some (2, some 7) ∧
    instStatusOf (.reset (.operator .a) 5) 5 (inState stFrozen) = some (2, some 8) ∧
    instStatusOf (.remove (.operator .a) 5) 5 (inState stQuiesced) = some (2, some 9) := by decide +kernel

/-- The worked case of R405: 8 queue pairs and 17 vectors make an image of 2,192 bytes. -/
theorem test_instance_refusals : ((up.put R.INST_RING_RANGE_QP_COUNT 8 5).put R.INST_VEC_RANGE_VEC_COUNT 17 5).imageLen 5 = 2192 ∧
    instStatusOf (.harvest (.operator .a) 5) 5 up = some (14, none) ∧
    instStatusOf (.harvest (.operator .a) 5) 5 (up.put R.INST_DIRTY_CFG_EN 1 5) = some (2, some 10) ∧
    instStatusOf (.resume (.operator .a) 5) 5 ((inState stQuiesced).modInst 5 (fun x => { x with flr := some stFree })) =
      some (3, none) ∧
    instStatusOf (.quiesce (.operator .a) 5) 5 { inState stRunning with cmds := [(instCmdKey 5, 1)] } = some (1, none) := by decide +kernel

/-- Instance 0 in a state with its data, a command in progress with code `c`. -/
def working (st c : Nat) (x : Inst) : Dev :=
  { (ringing.put R.INST_STATE_STATE st 0).modInst 0 (fun _ => x) with cmds := [(instCmdKey 0, BitVec.ofNat 64 (c + 2 * 256))] }

theorem test_drain : (working stQuiescing 2 { }).drained 0 = true ∧
    after (.quiesceDrainDone 0) (working stQuiescing 2 { }) (fun e =>
      decide (e.instState 0 = stQuiesced ∧ e.get R.INST_CMD_STATUS 0 = 0 ∧ e.get R.INST_EVENTS 0 = 1)) = true ∧
    after (.quiesceDrainDone 0) ringing (fun e => decide (e.instState 0 = stRunning)) = true ∧
    (let d := (((working stQuiescing 2 { }).setProd 1 1).modRing 1 (fun x => { x with entries := [{ desc := some desc64 }] })).startNotch
     after (.quiesceForced 0) d (fun e => decide (e.instState 0 = stQuiesced ∧ e.get R.INST_CMD_STATUS 0 = 13 ∧
       (e.ring 1).entries = [] ∧ e.get R.INST_TX_ABORTED 0 = 1 ∧ e.get R.INST_EVENTS 0 = 3)) = true) := by decide +kernel

theorem test_function_reset :
    after (.functionWideResetComplete 0) (working stQuiesced 8 { resetting := true }) (fun e =>
      decide (e.instState 0 = stQuiesced ∧ e.get R.RCTX_CFG_EN 1 = 0 ∧ e.get R.INST_CMD_STATUS 0 = 0)) = true ∧
    after (.functionWideResetComplete 0) (working stFree 9 { resetting := true }) (fun e =>
      decide (e.instState 0 = stFree)) = true ∧
    after (.functionWideResetComplete 0) (working stQuiesced 0 { resetting := true, flr := some stRunning }) (fun e =>
      decide (e.instState 0 = stRunning ∧ (e.inst 0).flr = none)) = true ∧
    after (.functionWideResetComplete 0) ringing (fun e => decide (e.get R.RCTX_CFG_EN 1 = 1)) = true := by decide +kernel

theorem test_images :
    (let z : Inst := { saving := true, frozen := some { sec := 0, ns := 0, notch := 0, page := List.replicate 32 0 } }
     after (.saveComplete 0 true) (working stFrozen 6 z) (fun e => decide (e.get R.INST_CMD_STATUS 0 = 0 ∧
       e.get R.INST_EVENTS 0 = 8 ∧ e.out.length = 1)) = true ∧
     after (.saveComplete 0 false) (working stFrozen 6 z) (fun e => decide (e.get R.INST_CMD_STATUS 0 = 11 ∧ e.out = [])) = true ∧
     after (.restoreComplete 0 none []) (working stRestoring 7 { }) (fun e => decide (e.get R.INST_CMD_STATUS 0 = 11 ∧
       e.instState 0 = stFree)) = true ∧
     after (.restoreComplete 0 (some []) []) (working stRestoring 7 { }) (fun e => decide (e.get R.INST_CMD_STATUS 0 = 6)) = true) := by
  decide +kernel

/-- Instance 0 while it is restored, with BASE 0x5000 on ring 1, and the image the device would save of it. -/
def restoring : Dev := ((working stRestoring 7 { }).put R.RCTX_BASE_ADDR 0x5000 1).put R.INST_MIG_SIZE_BYTES 832 0

def savedImage : List Byte := restoring.image 0 { sec := 0, ns := 0, notch := 0, page := List.replicate 32 0 }

theorem savedImage_length : savedImage.length = 832 := by decide +kernel

theorem savedImage_crc : imgNat savedImage (832 - 8) 8 = crc64 (savedImage.take (832 - 8)) := by
  obtain ⟨body, h⟩ : ∃ body, savedImage = body ++ leBytes 8 (crc64 body) := ⟨_, rfl⟩
  have hl := savedImage_length
  have hb : body.length = 832 - 8 := by
    rw [h, List.length_append, leBytes_length] at hl; omega
  rw [h, imgNat, ← hb, List.drop_left, List.take_left, List.take_of_length_le (by simp [leBytes_length]),
    leNat_leBytes _ _ (crc64_lt body)]

/-- An image that the device saved passes its checks, and BASE is loaded from it. -/
theorem test_restore : restoring.imageFault 0 savedImage = none ∧
    (restoring.instState 0 = stRestoring ∧ restoring.instBusyWith 0 = some 7) ∧
    ((restoring.put R.RCTX_BASE_ADDR 0 1).loadImage 0 savedImage []).get R.RCTX_BASE_ADDR 1 = 0x5000 := by
  refine ⟨?_, by decide +kernel, by decide +kernel⟩
  have hn : restoring.get R.INST_MIG_SIZE_BYTES 0 = 832 := by decide +kernel
  unfold Dev.imageFault
  simp only [hn]
  rw [if_neg (by decide +kernel), if_neg (by rw [savedImage_crc]; exact not_not_intro rfl)]
  decide +kernel

theorem test_harvest :
    (let d := (working stRunning 10 { taken := some [0, 9], dirty := [3] }).put R.INST_DIRTY_PAGES_PAGES 16 0
     after (.harvestComplete 0 true) d (fun e => decide (e.get R.INST_CMD_STATUS 0 = 0 ∧
       e.out = [toHost 0 0 ([1, 2] ++ List.replicate 62 0)])) = true ∧
     after (.harvestComplete 0 false) (d.put R.INST_DIRTY_CFG_EN 1 0) (fun e => decide ((e.inst 0).dirty = [3, 0, 9] ∧
       e.get R.INST_CMD_STATUS 0 = 11)) = true) := by decide +kernel

theorem test_instance_due :
    (working stFree 1 { due := some 1 }).boot.resetAt = none ∧
    (let acts := fun (st c : Nat) (x : Inst) => (working st c { x with due := some c }).stepInsts
     ((acts stFree 1 { }).instState 0 = stRunning ∧ (acts stFree 1 { }).get R.INST_CMD_STATUS 0 = 0) ∧
     (acts stRunning 2 { }).instState 0 = stQuiescing ∧
     ((acts stQuiesced 4 { }).inst 0).frozen.map Frozen.ns = some 0 ∧
     (acts stFrozen 5 { }).instState 0 = stQuiesced ∧ ((acts stFrozen 6 { }).inst 0).saving = true ∧
     (acts stFree 7 { }).instState 0 = stRestoring ∧ ((acts stQuiesced 8 { }).inst 0).resetting = true ∧ (acts stQuiesced 9 { }).instState 0 = stFree ∧
     ((acts stRunning 10 { dirty := [7] }).inst 0).taken = some [7]) := by decide +kernel

/-- The worked case of R422: instance 812, SEQ 55, class 2 from its transmit rings. -/
theorem test_ledger_record :
    (let b := ledgerRecord 812 55 1800000240 937500000 { bytes := [0, 4200000000, 0, 0, 0, 0, 0, 0]
                                                         frames := [0, 3000000, 0, 0, 0, 0, 0, 0] }
        { step := false, extended := false, sat := false, gap := false, part := false, frozen := false }
     leNat (b.take 8) = 0x000000370032C001 ∧ leNat ((b.drop 16).take 8) = 0x0000000037E11D60 ∧
     leNat ((b.drop 0x38).take 8) = 0xC6C00000FA56EA00 ∧ leNat ((b.drop 0x70).take 8) = 0x00000000002D0000) := by decide +kernel

/-- The Ledger ring of 4,096 records on port A, whose link is up, with records in the backlog. -/
def ledgered (l : List (Nat × List Byte)) : Dev :=
  { (((trained true false).put R.INSTCTL_LEDGER_CFG_EN 1).put R.INSTCTL_LEDGER_BASE_ADDR 0x9000) with
    dial := { notch := 200000000, sec := 60 }
    ledger := { backlog := l } }

theorem test_ledger_write : (ledgered []).ledgerUsed = 0 ∧
    after .ledgerRecordWrite (ledgered [(7, [1]), (9, [2])]) (fun e => decide (e.out = [toHost 0 0x9000 [1]] ∧
      e.get R.INSTCTL_LEDGER_PROD_INDEX = 1 ∧ e.get R.INSTCTL_LEDGER_EVENTS = 1 ∧ e.ledger.backlog = [(9, [2])])) = true ∧
    after .ledgerRecordWrite ((ledgered [(7, [1])]).put R.INSTCTL_LEDGER_CONS_WRAP 1) (fun e =>
      decide (e.out = [] ∧ e.get R.INSTCTL_LEDGER_EVENTS = 2)) = true ∧
    after .ledgerLate (ledgered [(7, [1])]) (fun e => decide (e.ledger.late = [7] ∧ e.get R.INSTCTL_LEDGER_EVENTS = 4)) = true ∧
    after .ledgerLate (ledgered [(190000000, [1])]) (fun e => decide (e.ledger.late = [])) = true := by decide +kernel

theorem test_ledger_make :
    ((ledgered []).ledgerMake false false 5).ledger.backlog = [(200000000, ledgerRecord 5 0 0 200000000 { }
      { step := false, extended := false, sat := false, gap := false, part := false, frozen := false })] ∧
    ((ledgered []).ledgerMake false false 5).ledger.seqs = [(5, 1)] ∧
    after .ledgerSnapshot { up with dial := { notch := 7, sec := 61 } } (fun e => decide (e.ledger = up.ledger)) = true := by decide +kernel

theorem test_keys : up.accepts (.installer .a) pgCRYPTO = true ∧
    after (.loadKey (.installer .a) 9) (up.put R.CRYPTO_KEY_STAGE 0xAB 0 0) (fun e =>
      decide (assoc e.units.keys 9 = some (0, 0xAB :: List.replicate 15 0))) = true ∧
    after (.loadKey (.installer .a) 9) (up.put R.SA_W0_ALG 3 9) (fun e => decide (e.get R.CRYPTO_CMD_STATUS = 3)) = true ∧
    after (.clearKey (.installer .a) 9) { up with units := { keys := [(9, (0, []))] } } (fun e => decide (e.units.keys = [])) =
      true ∧
    after (.popEvt (.installer .a)) { up with units := { events := [(1, 9), (2, 8)] } } (fun e =>
      decide (e.units.events = [(2, 8)] ∧ e.get R.CRYPTO_SA_EVT_KIND = 2 ∧ e.get R.CRYPTO_SA_EVT_SA = 8)) = true ∧
    after (.popEvt (.installer .a)) up (fun e => decide (e.get R.CRYPTO_CMD_STATUS = 5)) = true := by decide +kernel

/-- A frame of 64 bytes in the crypto unit for SA 9, which is keyed for MACsec. -/
def sealing (dir : Nat) (b : List Byte) : Dev :=
  { ((((up.put R.SA_W0_VALID 1 9).put R.SA_W0_KEY_LOADED 1 9).put R.SA_W0_PROTO 1 9).put R.SA_W0_DIR dir 9).put R.SA_SEQ 7 9 with
    units := { keys := [(9, (3, []))], cryptoIn := [{ tk := ({ } : Ticket).put T.DEST 9, bytes := b }] } }

/-- What CRYPTO_PROCESS makes of the sequence number, the drop and the results. -/
def sealed (d : Dev) : Option (Nat × Nat × List Nat) :=
  match exec (.cryptoProcess false false) (on d) with
  | .next u => some (u.dev.get R.SA_SEQ 9, u.dev.get R.CRYPTO_LAST_DROP_CODE, u.dev.units.cryptoOut.map (fun x => x.bytes.length))
  | _ => none

theorem test_macsec : sealed (sealing 0 (List.replicate 64 1)) = some (8, 0, [96]) ∧
    sealed (sealing 0 (List.replicate 63 1)) = some (7, 3, []) ∧
    sealed ((sealing 0 (List.replicate 64 1)).put R.SA_W0_EXHAUSTED 1 9) = some (7, 7, []) ∧
    sealed ((sealing 0 (List.replicate 64 1)).put R.SA_W0_VALID 0 9) = some (7, 1, []) ∧
    sealed ((sealing 0 (List.replicate 64 1)).put R.SA_W0_INSTANCE 5 9) = some (7, 2, []) ∧
    sealed ((sealing 1 (List.replicate 64 1)).put R.SA_W0_PROTO 2 9) = some (7, 0, [64]) ∧
    sealed (sealing 1 (List.replicate 12 0 ++ [0x88, 0xE5, 0x0C, 0, 0, 0, 0, 0] ++ List.replicate 44 0)) = some (7, 5, []) := by
  decide +kernel

theorem test_replay : (sealing 1 []).replayOk 9 7 = true ∧ ((sealing 1 []).replayUpdate 9 7).replayOk 9 7 = false ∧
    ((sealing 1 []).replayUpdate 9 12).get R.SA_SEQ 9 = 12 ∧ ((sealing 1 []).replayUpdate 9 12).replayOk 9 12 = false := by decide +kernel

/-- An IPv4 frame of 64 bytes with TCP from port 4420 to 5000 and 6 bytes of payload, in the storage unit. -/
def tcpFrame : List Byte :=
  let b : List Byte := List.replicate 12 0 ++ [8, 0] ++ [0x45, 0, 0, 46, 0, 0, 0, 0, 64, 6, 0, 0, 10, 0, 0, 1, 10, 0, 0, 2] ++
    beBytes 2 4420 ++ beBytes 2 5000 ++ beBytes 4 100 ++ [0, 0, 0, 0, 0x50, 0x10, 0, 0, 0, 0, 0, 0] ++ [1, 2, 3, 4, 5, 6] ++ [0, 0, 0, 0]
  tcpFix b 14 34 60

def storing (port : Nat) (t : Ticket) (b : List Byte) : Dev :=
  { ((((up.put R.CONN_W0_VALID 1 9).put R.CONN_W0_RX_SYNC 1 9).put R.CONN_W0_LOCAL_PORT port 9).put R.CONN_W1_RCV_NXT 100 9).put
      R.CONN_W1_PDU_REM 50 9 with
    units := { storeIn := [{ tk := ((t.put T.DEST 9).put T.L3_OFF 14).put T.L4_OFF 34, bytes := b }] } }

/-- What STORE_PROCESS makes of RCV_NXT, the drop and the results' TAGs. -/
def stored (d : Dev) : Option (Nat × Nat × List Nat) :=
  match exec (.storeProcess [] false) (on d) with
  | .next u => some (u.dev.get R.CONN_W1_RCV_NXT 9, u.dev.get R.STORE_LAST_DROP_CODE, u.dev.units.storeOut.map (fun x => x.tk.get T.TAG))
  | _ => none

theorem test_storage : stored (storing 5000 { } tcpFrame) = some (106, 0, [0]) ∧
    stored ((storing 5000 { } tcpFrame).put R.CONN_W1_RCV_NXT 90 9) = some (90, 0, [2]) ∧
    stored ((storing 5000 { } tcpFrame).put R.CONN_W1_RCV_NXT 110 9) = some (110, 0, [1]) ∧
    stored ((storing 5000 { } tcpFrame).put R.CONN_W0_RX_SYNC 0 9) = some (100, 0, [3]) ∧
    stored (storing 5000 { } (overlay tcpFrame 55 [9])) = some (100, 0, [4]) ∧
    stored (storing 5001 { } tcpFrame) = some (100, 3, []) ∧
    stored ((storing 5000 { } tcpFrame).put R.CONN_W0_VALID 0 9) = some (100, 1, []) := by decide +kernel

/-- An outbound payload of one PDU of 8 bytes in segments of 5. -/
theorem test_segments :
    (let b := overlay (tcpFrame ++ [0, 0]) 54 [4, 0, 8, 0, 8, 0, 0, 0]
     stored ((storing 4420 { } (overlay b 16 [0, 48])).put R.CONN_W0_MSS 5 9) =
       some (100, 0, [2 ^ 8 + 2 * 2 ^ 24, 2 ^ 8 + 2 ^ 16 + 2 * 2 ^ 24])) := by decide +kernel

/-- SHAKE256 of nothing; AES-128-GCM of a block of zeros under zeros (the GCM specification's case 2); the start of RFC 8439
2.8.2's ciphertext. -/
theorem test_shake : (shake256 [] 4 = [0x46, 0xB9, 0xDD, 0x2B]) = true := by decide +kernel

theorem test_gcm :
    aeadXor 0 [] (List.replicate 12 0) (List.replicate 16 0) = beBytes 16 0x0388DACE60B6A392F328C2B971B2FE78 ∧
    aeadTag16 0 [] (List.replicate 12 0) [] (beBytes 16 0x0388DACE60B6A392F328C2B971B2FE78) =
      beBytes 16 0xAB6E47D42CEC13BDF53A67B21257BDDF := by decide +kernel

theorem test_chacha : aeadXor 2 ((List.range 32).map (fun i => BitVec.ofNat 8 (0x80 + i))) (beBytes 12 0x070000004041424344454647)
    (beBytes 16 0x4C616469657320616E642047656E746C) = beBytes 16 0xD31A8D34648E60DB7B86AFBC53EF7EC2 := by decide +kernel

theorem test_order :
    (let u : UnitFrame := { tk := ({ } : Ticket).put T.DEST 9, bytes := List.replicate 63 1, order := 4 }
     let d : Dev := sealing 0 []
     let e : Dev := { d with units := { d.units with cryptoIn := [u, { u with order := 2 }], cryptoOut := [{ u with order := 3 }] } }
     (e.nextUnit 18).map (fun x => x.order) = some 2 ∧ (e.nextResult 18) = none ∧
     ((e.recordWritten 18 9).unitIn 18).map (fun x => x.old.isSome) = [false, true] ∧
     after (.cryptoProcess false false) (((e.recordWritten 18 9).put R.SA_W0_INSTANCE 5 9).put R.SA_SEQ 70 9) (fun x =>
       decide (x.get R.CRYPTO_LAST_DROP_CODE = 3 ∧ x.get R.SA_SEQ 9 = 70 ∧ x.get R.SA_W0_INSTANCE 9 = 5)) = true) := by
  decide +kernel

theorem test_returns :
    (let u : UnitFrame := { tk := ({ } : Ticket).put T.REPARSE 1, bytes := List.replicate 64 3 }
     let d : Dev := { up with units := { cryptoOut := [u], storeOut := [u] }, basin := { granted := [(18, 5), (19, 6)] } }
     after .cryptoReturn d (fun e => decide (e.basin.frames.map (fun f => (f.ingress, f.head)) = [(18, 5)] ∧
       e.get R.CRYPTO_FRAMES = 1)) = true ∧
     after .storeReturn d (fun e => decide (e.basin.frames.map (fun f => (f.ingress, f.head)) = [(19, 6)] ∧
       e.get R.STORE_FRAMES_OUT = 1)) = true ∧
     after .cryptoReturn { d with basin := { } } (fun e => decide (e.basin.frames = [])) = true) := by decide +kernel

/-- A descriptor of the Block Mover: LAST, with an operation, spaces and a length. -/
def moverDesc (op src dst len : Nat) : List Byte :=
  leBytes 8 0x100 ++ leBytes 8 0x200 ++ leBytes 8 (len + op * 2 ^ 32 + src * 2 ^ 36 + dst * 2 ^ 40 + 2 ^ 44 + 2 ^ 47 + 2 ^ 48) ++
    leBytes 8 0 ++ leBytes 8 0 ++ leBytes 8 0x0807060504030201 ++ leBytes 8 0 ++ leBytes 8 0

/-- Channel 5 with a descriptor, in a state. -/
def moving (st : Nat) (b : List Byte) (c : MoverCh) : Dev :=
  { (up.put R.MOVERCH_STATUS_STATE st 0 5) with mover := { chans := [(5, { c with desc := b, addr := 0x4000 })] } }

/-- A channel after a command: its state, its descriptor's length and its earliest Notch. -/
def channelOf (c : Instr) (n : Nat) (d : Dev) : Option (Nat × Nat × Nat) :=
  match exec c (on d) with
  | .next u => some (u.dev.chState n, (u.dev.chn n).desc.length, (u.dev.chn n).from_)
  | _ => none

theorem test_mover_commands : up.accepts (.operator .a) pgMOVER = true ∧ up.admits (.operator .a) pgMOVER = true ∧
    channelOf (.start (.operator .a) 5 (some (moverDesc 0 0 2 64))) 5 up = some (msActive, 64, 1) ∧
    channelOf (.start (.operator .a) 5 (some (moverDesc 0 0 2 64))) 5 (up.put R.MOVERCH_CFG_TRIG 1 0 5) = some (msActive, 64, 1) ∧
    (let d := up.put R.MOVERCH_CFG_TRIG 1 0 5
     channelOf (.start (.operator .a) 5 (some (moverDesc 0 0 2 64))) 5 { d with start := d.regs } = some (msArmed, 64, 0)) ∧
    channelOf (.start (.operator .a) 5 none) 5 up = some (msError, 0, 0) ∧
    after (.start (.operator .a) 50 none) up (fun e => decide (e.get R.MOVER_CMD_STATUS = 5)) = true ∧
    after (.start (.operator .a) 5 none) (moving msActive [] { }) (fun e => decide (e.get R.MOVER_CMD_STATUS = 3)) = true ∧
    channelOf (.clear (.operator .a) 5) 5 (moving msError [] { }) = some (msIdle, 0, 0) ∧
    after (.swreq (.operator .a) 0x900) up (fun e => decide (e.get R.MOVER_SWREQ = 9)) = true ∧
    channelOf (.disable (.operator .a) 5) 5 (moving msActive [] { staged := [none] }) = some (msDisabled, 0, 0) ∧
    after (.disable (.operator .a) 50) up (fun e => decide (e.chState 50 = msIdle)) = true := by decide +kernel

theorem test_mover_triggers :
    (let d := ((moving msArmed [] { }).put R.MOVERCH_CFG_TRIG 1 0 5).put R.MOVERCH_CFG_TRIG_ARG 9 0 5 |>.put R.MOVER_SWREQ 2
     channelOf (.moverRequest 9) 5 { d with start := d.regs } = some (msActive, 0, 0) ∧
     channelOf (.moverRequest 9) 5 d = some (msArmed, 0, 0) ∧
     channelOf (.notchTimer 5) 5 (d.put R.MOVERCH_CFG_TRIG 2 0 5) = some (msActive, 0, 1) ∧
     channelOf (.dialTime 5) 5 (d.put R.MOVERCH_CFG_TRIG 3 0 5) = some (msActive, 0, 1) ∧
     channelOf (.chain 5) 5 { d with mover := { d.mover with chainDue := [5] } } = some (msActive, 0, 1) ∧
     channelOf (.chain 5) 5 d = some (msArmed, 0, 0)) ∧
    after (.notchTimer 5) (((moving msActive [] { }).put R.MOVERCH_CFG_TRIG 2 0 5).put R.MOVERCH_STATUS_PEND_REQ 255 0 5) (fun e =>
      decide (e.get R.MOVER_REQ_LOST = 1)) = true := by decide +kernel

theorem test_hbm_corrected :
    (let d := (moving msActive (moverDesc 1 0 2 4) { }).put R.HEALTH_HBM_CFG_CORR_LIMIT 2
     let x : MoverRead := { ch := 5, beats := [], corrected := [hbmBase + 0x200000, hbmBase + 0x3FFFF8] }
     after (.moverBeats [x]) d (fun e => decide (e.get R.HBMREG_W0_CORR 1 = 2 ∧ e.regionState 0 1 = hrCopying)) = true ∧
     after (.moverBeats [{ x with corrected := [hbmBase + 8] }]) d (fun e =>
       decide (e.get R.HBMREG_W0_CORR 0 = 1 ∧ e.regionState 0 0 = hrNormal ∧ e.health.corrFrom.length = 1)) = true) := by decide +kernel

theorem test_windows_close :
    (let d := { ((up.put R.BANK_W0_CORR 7 3).put R.HEALTH_HBM_CFG_WINDOW 20000) with
      health := { corrFrom := [(fldKey R.BANK_W0_CORR 3 0, 5)] } }
     let at_ := fun (n : Nat) => ({ d with dial := { notch := n } } : Dev).closeWindows
     (at_ 20004).get R.BANK_W0_CORR 3 = 7 ∧ (at_ 20005).get R.BANK_W0_CORR 3 = 0 ∧ (at_ 20005).health.corrFrom = []) := by decide +kernel

theorem test_mover_beats :
    after (.moverBeats []) (moving msActive (moverDesc 1 0 2 4) { }) (fun e =>
      decide (e.mem.bytes (hbmBase + 0x200) 5 = [1, 2, 3, 4, 0] ∧ (e.chn 5).pos = 1 ∧ e.get R.MOVER_BEATS = 1)) = true ∧
    after (.moverBeats [{ ch := 5, beats := [some [9, 8, 7]] }]) (moving msActive (moverDesc 0 0 2 3) { }) (fun e =>
      decide (e.mem.bytes (hbmBase + 0x200) 4 = [9, 8, 7, 0])) = true ∧
    after (.moverBeats [{ ch := 5, beats := [some [9]] }]) (moving msActive (moverDesc 2 0 2 1) { crc := 0xFFFFFFFF }) (fun e =>
      decide (e.mem = [] ∧ (e.chn 5).crc = crc32cStep 0xFFFFFFFF [9])) = true ∧
    after (.moverBeats [{ ch := 5, beats := [none] }]) (moving msActive (moverDesc 0 0 2 3) { }) (fun e =>
      decide ((e.chn 5).fault = some meDma)) = true := by decide +kernel

theorem test_descriptor_complete :
    channelOf (.descriptorComplete 5 none) 5 (moving msActive (moverDesc 0 0 2 64) { pos := 1 }) = some (msDone, 64, 0) ∧
    after (.descriptorComplete 5 none) (moving msActive (moverDesc 0 0 2 64) { pos := 1, done := 64, crc := 0xFFFFFFFF }) (fun e =>
      decide (e.out = [toHost 0 0x4030 (leBytes 8 (2 ^ 8 + 64 * 2 ^ 32) ++ leBytes 8 0)] ∧ e.get R.MOVER_DONE_MAP = 32)) =
      true ∧
    channelOf (.descriptorComplete 5 none) 5 (moving msActive (moverDesc 0 0 2 64) { fault := some meRange }) =
      some (msError, 64, 0) ∧
    channelOf (.descriptorComplete 5 none) 5 (moving msActive (moverDesc 0 0 2 64) { }) = some (msActive, 64, 0) := by decide +kernel

/-- The worked case of R457: with only byte 0 of data unit 1 set, to 1, both parity bytes. -/
theorem test_parity : rsCoeff 0 1 = 1 ∧ rsCoeff 1 1 = 0xD9 ∧ gfInv 0x10 = 0xD8 := by decide +kernel

/-- The status a HEALTH command reads back. -/
def healthStatusOf (c : Instr) (d : Dev) : Option Nat :=
  match exec c (on d) with
  | .next u => some (u.dev.get R.HEALTH_CMD_STATUS)
  | _ => none

/-- The device with a maker's session over host port A. -/
def made : Dev :=
  { up with roles := { sessions := [{ bank := 2, path := .installer .a, role := 3, slot := 0, counter := 1, last := 0 }] } }

theorem test_health_commands : up.accepts (.installer .a) pgHEALTH = true ∧
    healthStatusOf (.clearReasons (.installer .a) 8) up = some 4 ∧
    healthStatusOf (.clearReasons (.installer .a) 512) (made.put R.HEALTH_REPLACE_REASONS 512) = some 5 ∧
    after (.clearReasons (.installer .a) 8) ((made.put R.HEALTH_REPLACE_REASONS 8).put R.HEALTH_REPLACE_REASON 3) (fun e =>
      decide (e.get R.HEALTH_REPLACE_REASONS = 0 ∧ e.get R.HEALTH_REPLACE_REASON = 0 ∧ e.get R.HEALTH_CMD_STATUS = 0)) = true ∧
    after (.enterSafeHold (.installer .a)) up (fun e => decide (e.errs.safeDue = some (4, 0, 0, 0))) = true ∧
    after (.resetDevice (.installer .a)) up (fun e => decide (e.boot.resetAt = some 15625)) = true ∧
    healthStatusOf (.remapRegion (.installer .a) 0 12000) up = some 7 ∧
    healthStatusOf (.remapRegion (.installer .a) 0 9) (up.put R.HBMREG_W0_STATE 3 9) = some 8 ∧
    healthStatusOf (.remapRegion (.installer .a) 0 9) { up with health := { reserve := [(0, 384)] } } = some 6 ∧
    after (.remapRegion (.installer .a) 0 9) up (fun e => decide (e.regionState 0 9 = hrCopying ∧ e.get R.HEALTH_CMD_STATUS = 2)) =
      true ∧
    healthStatusOf (.remapRegion (.installer .a) 0 9) { up with cmds := [(fldKey R.HEALTH_CMD_CODE 0 0, 0)] } = some 1 := by decide +kernel

theorem test_retire_bank : up.mayRetire 5 = true ∧
    after (.retireBank (.installer .a) 5) up (fun e => decide (e.get R.BANK_W0_STATE 5 = 1 ∧ e.get R.HEALTH_CMD_STATUS = 0)) = true ∧
    healthStatusOf (.retireBank (.installer .a) 32) up = some 7 ∧
    healthStatusOf (.retireBank (.installer .a) 5) (up.put R.BANK_W0_STATE 2 5) = some 8 ∧
    healthStatusOf (.retireBank (.installer .a) 5) (up.put R.BASIN_CELLS_TOTAL_TOTAL 45055) = some 6 := by decide +kernel

theorem test_safe_hold :
    (let d := (up.put R.PORT_STATUS_LINK 2 3).put R.MOVERCH_STATUS_STATE msActive 0 5
     after .safeHoldEntry { d with dial := { notch := 9 }, errs := { safeDue := some (1, 12, 69, 8) } } (fun e =>
       decide (e.held = true ∧ e.get R.HEALTH_SAFE_CAUSE = 1 ∧ e.get R.HEALTH_SAFE_PAGE = 69 ∧ e.get R.PORT_STATUS_LINK 3 = 0 ∧
         e.chState 5 = msDisabled)) = true ∧
     after .safeHoldEntry { d with dial := { notch := 8 }, errs := { safeDue := some (1, 12, 69, 8) } } (fun e =>
       decide (e.held = false)) = true) := by decide +kernel

theorem test_remap_done :
    after (.hbmRemapDone 0 9) { up.put R.HEALTH_HBM_REMAPPED 245 with
        health := { remaps := [(0, 9, 11904)] }, cmds := [(fldKey R.HEALTH_CMD_CODE 0 0, 4 + 9 * 256 + 2 * 2 ^ 48)] } (fun e =>
      decide (e.regionState 0 9 = hrRemapped ∧ e.get R.HBMREG_W0_PHYS 9 = 11904 ∧ e.get R.HEALTH_REPLACE_REASONS = 8 ∧
        e.get R.HEALTH_CMD_STATUS = 0)) = true ∧
    after (.hbmRemapDone 0 9) up (fun e => decide (e.regionState 0 9 = hrNormal)) = true := by decide +kernel

theorem test_phases :
    (let d := (up.put R.HEALTH_PHASES_FAILED_MAP 6).put R.HEALTH_STATUS_POWER_W 250
     after (.phaseFail 4 12) d (fun e => decide (e.get R.HEALTH_PHASES_FAILED_MAP = 22 ∧ e.get R.HEALTH_STATUS_POWER_W = 225 ∧
       e.get R.HEALTH_STATUS_GLEN_CLK = 12 ∧ e.errs.safeDue = some (3, 0, 0, 0) ∧ e.get R.HEALTH_REPLACE_REASON = 8)) = true ∧
     after (.phaseFail 2 12) d (fun e => decide (e.get R.HEALTH_STATUS_POWER_W = 250)) = true) := by decide +kernel

theorem test_thermal :
    (let hot := fun (b : Int) (a : Bool) => ({ up with health := { temps := [b], alert := a } } : Dev)
     let two := fun (d : Dev) (t : Int) => ({ d with health := { d.health with temps := t :: d.health.temps, sampled := true } } : Dev)
     after (.thermalSample 921) (hot 925 false) (fun e => decide (e.health.temps = [921, 925] ∧ e.health.sampled = true)) = true ∧
     ((two (hot 925 false) 921).heatAlert.out = [.pin "THERM_ALERT#" false]) ∧
     ((two (hot 880 true) 870).heatAlert.out = [.pin "THERM_ALERT#" true]) ∧
     ((two (hot 900 false) 921).heatAlert.out = []) ∧
     ((two (hot 1001 true) 1000).heatDue.errs.safeDue = some (2, 0, 0, 0)) ∧
     after .notchTick (two (hot 1051 true) 1050) (fun e => decide (e.boot.off = true ∧ e.boot.tripped = true)) = true) := by decide +kernel

/-- A public key that the tests use, and two signatures under it, made outside the model from RFC 8391 and SP 800-208: of an
OPEN over installer PF A as installer (R530), and of a firmware object without a body (R542). -/
def testKey : List Byte := leBytes 68 0x1FA5FA20719F2C65871C5DC63E7E7300B626ECC9305DB6D543D6EF79985942FC50DB1297488F6797CF7EA32D7FB9CEBD453B269095DE4E76BADE9579EC649BD712000000
def openSig : List Byte :=
    leBytes 128 0x68F187CBBDA0C0F7D5617D689497D98AB75981B8AB0855F1FDDEA42A0492594F5DDD37680A8AA6D9522B57673AC6388BEF5EC19F6ACE17E10E46B8C4C21D4B1EED25D45B0DF61F7D88C41E1EB809BB01E1904F3462361FFAF96238F042E41E0000000000000000000000000000000000000000000000000000000000A5A50500 ++
    leBytes 128 0x8817756A5FE323D7FD3DE5CD4470C28E33B8721FE53534FBBC0DF3DC60B6E49D98F4981A1531476E9DEC24B4C4ACBFE53A8DE296DEA3095CFA8CA2F6B6D44D0A653DB5B9B815EAC9ED7F5AE47A1D3CC684E25FDD32961D9DA73736DC14A875ADB2BAE5779D3EBA4BBBBD37B6B9499188C1B586589E0A06D11CDC0E5C6DF94DBF ++
    leBytes 128 0x8A7B195DF375982EBC72AA592F985FE975AF7C3E537BAA12143BEEAC04A11D57A544A2D746DC820933A377E5C1A8779C14933EBFD653C65BE57A2DFB629128BD5336FF6A9C1FF143AA48898742CE9103172D76CD4DF7FBE0DD55F5426B04CAD4632D89C16C7DF876EA891D79547EFB5E901F168CCDDD8D8A8F4B42E967293DA4 ++
    leBytes 128 0x3757FDB137BDDF487CF3D49E164997D6A455D5A5C11FB692C474EF5819AFD6E80083B492F351AB26C02C9F0DC4D3C3292E91B93FC319683946C1B6329200D1445DD8C5165D5318798A074A810CF625BC640D3F2913CB2D5E1E4ABED771FE622103A166E47CDAE7D2CB0A75E4FB6716964AFFBA6FCC12AF8EEA89838C986F6C57 ++
    leBytes 128 0x1E4FAA7C55960EF7C74F373D8C5EC13CA5D8DE02E80F5F478EE924E3404044CD831920184A18157F69639F7ABBEA8D9E3287879E4BC5AD9AB39503E2AF9C50F9FF60E52793E33BF66DA106E167BA8B8129B250183B7F9A506F87AF1CDBA65F86F74A305254549CA3DA590B38BF4EE48D2392E9119E4526C7D423739322CB1084 ++
    leBytes 128 0x4CCCFE9254BD5566574FDC725E2468C9438E5F77F053576303F66076404B44DD5677AC467D8FC57BA2F76B97A0EB0B54C67D0FEC00ED5D876DACEB1B997811EE5EED2267BCFD494063665FE8184B5B86E3F41B6D72E5984027AE39E8BAC8E9C9985DE6B140BBAB3F93BE11779C4E03FCA28E66312A0D2A06BCA2342F12E6CEE4 ++
    leBytes 128 0xF0BEF122A666FEE94DCA878A61232ACBF84E7442AD3ABDF1CB8318082C94819AD142E02B0F3F3CE10D3896922DA602CCE055FDD9E52D8DBABD520D932FB89192B6DD2E9EB90F5E7426C19DA2D3CF5987099B2A57446DC17320A6CFE07DE1E1D3FB838DC93C6CAED07F265F391432BD948C6EAFEE49A85E083B967E248308BBC2 ++
    leBytes 128 0xF31C5445499D8305CD84E74B183CFF19F04BE03957742BEF417FB3660124D0DC80B6E4FD95537798EC1EB4DA788CFCF86484C10088CE52A192852B476CDF79299749EDECF6F119A0BFDC87323141FE74257E30EF95C6832D109AA3623DC69DE42010725723B846FF21800D43B2B1149BFC3BCA1362EEAC080AF5D72499EDB6EB ++
    leBytes 128 0x50BB73095EB8D676A31D6E0186FD4E8A53A8F18E8605DB5576CCD6A04A849155CCBECC4438094C7E6E857DDB3F53A854E67E2FB96090E2433A9ED8168304A04C392D40E06194EC19B624AAC2202A4D5DF6E08FEFDBB0381EF1E0D2A9CCF6F80529BC65FA62050D07A9E61C96B1D0066FD15B3DE8AB112A76165CC2F31405DB71 ++
    leBytes 128 0xCD976C352BD7D3AE5A704306E0E15C6C111A92EEDB5DB2C2CB4EAE2B88D711005D4E832BD820F00545E3F9DC30C90C19D1E382C413F778F7348A7168174F76890E9AF586C334E3DD78312A684542D6AA4FA852E6377C742750B73251CA5A222DFFB2C400790248DC80F8083E6D0B4FE4FF9938C0412F976892CED63E59A23CC3 ++
    leBytes 128 0xE0EB66424DCE5380F9A120AE5E505D9A347F24057D57887A1E980CE357B346283400E4694D49C6BA95CEEE7EAF58447CF8F7BDEB261F410D24E483AEAB270345011D05DC764F97B907F8823D21849D68E28B449F833D243CF771FA4575B3E452A0F89074163E195A225B0A487ED7A62BF9FC15A3F81CD37E4B163EB3297BF5BD ++
    leBytes 128 0x15E0E81FF9912B7A3B6A9258430575F0B73E1C75E627B18BEDE0457C5E482032D4C825CD83D36FA2C3E6C648024BA8F99B34FD73D9BEC78E1AB9CFD5BE205CD7E8910504287C8E8DC0BD91D6A62DFF68F510802D61A82D92CCBF5116312FCCF42F3DC776395D70632B8BC8FBB11DCCA28BAD028425EDFFF6BB83DD4B2E2432ED ++
    leBytes 128 0x8B0A2C7BCA7EA4E946627040E826CFBCB6556E97E84AA85E7A2869F53E77200A9069AFDD6AC1708F8C3AFCAF4537591DD02C29A00BB0ACF64564233526C03BD861AC1296732908C7C4875CE4140B099D1F2987FDFE0E1EE9B527D2BA13F424DF32B6B8CCAF2289D4F9F09CDC8AC2047FCC64F8D4C184BFE4CF4D919235382C7B ++
    leBytes 128 0x7F90F69DA0EFA5C8D5C5A07F413C20E5823A7E01E2FF5FB766DF5A429784334D91556ED4FDEC855CB7736C2E3CD56393DE7D9C6E2662C388613BCB22230A62D5E781BE019B4B156337C4B1A35D8221B55879DEEC67CDA623AF4DD0BE8EF0DF56DC72E52CA8B06C6A5BB076A922A480D3D41ABDB545590BD8B17352E773BF6897 ++
    leBytes 128 0x6D2EA79EA51154C2AE0E837ADA995F5AC7F6AF5F451628D11EDE6494DC5B3014DE6E38F9E50722B8E6131F6DEDE6767892713006E240EA4DB9688A920B5AD8CB08E3B5D1470015578D44360AE9A0EE29ED45D370B1E9C92705ACA899D22D76E130F97C37FF8129B356135751BE1D34D23EE92F73070233919910B2D1ACCB028B ++
    leBytes 128 0x19AC6F2596B643531EFB8F392CAE07624585B2FED2BB68FBE14B2D3A801D6467C27BA1D04340A7BA87F12E7800A566205DBC6C7AF83DD12C6A280F342D18058F96B0F4C034ED422ED2D409F9998CE0C0D5F459D2D2B8927EE93E717C147DFF43C9B8A520E0A36E66493F39A705107925EF00494EC85E0AE0FF877B851D9A8C54 ++
    leBytes 128 0xE047AD2FFF30653F982B6E2F4D59A5E1FB1AE2E1415A962F1FD9DC5AD4204BC35A6555DBBBBD51881453526D9B5DF78921D613B274B2BE542911B7EB304D764A59C0990C1556F32A75CADDD40E1AA7445D0F93842CD17D36440A3D691DCCBF16E5C87E92CE22AF04C363B2992E79E15464587BD2815CD002C42A12AF9D90F102 ++
    leBytes 128 0x8EE4810E8D4749E26E55C0CCB08D46F23DF9E084A5E0131F890649C281BDC78D56B66EC3218F852AEE1EDFE698CC5C7A08DFD066065E5FA2E70CC17E3689842EF3D67A54A2D71BE5464FF757583D2C2094E7D162C112A611BC2992E2A00BECB2B47FB0CCAFF1F3A016EE6E7A832AA39FE1B1B0345CF4128B6D01BD9889A5008F ++
    leBytes 128 0x48A4F941A69D7C58A1165DC1BC62117ACB358496BC993990E0D6548AF18D278F25B26341A33F0966C41CC52F6EBDF679CFDC13AEC213CCB97537D63A671A0451C28BEA84EFCB7CF8A3104A14A395706E5B1F37213261C737C965FAEA1104DCD83E15FA781DD214DD9D3758EFE0D01F6460EB014A976B9E28EB6AC260455E41DE ++
    leBytes 128 0x259CE2A90443B207D848FC467221CF6289B312B2CBC3DA5C2902F44790C38A3E290E36646E8C048EA2B9E28D4269D33845C79DF9C24EFB8890CD3B85F2F7722F048A0E6317D6CBC8D9F3DD3412B179EB5A8599F535FBA22EAADEA24447AE5C06CCD69FD85BA95ABB7BD1CE1BC3B67AC3F1158E2BAF778D9A4F76B19411E14FBA ++
    leBytes 128 0xAC0E1ED002A5F172885B8F10CE65F22701E23A84251662844AFE8C2EDB89313124578FD3DBA448EA3DD3624F404C58730B3935B8882EBBBE8F643CDAB7A356EE60F6A830B6534E3D7E93BECDD8252E62A156D1826EC0512E92BF0C0647FEC179E680D582A7512CB799D6689D602627F87A941251BAD30BCCB2C6C4300C038CDC ++
    leBytes 128 0x5618F425DE158C897EA1302DB687F0BBE0501FB81EC5768A0638D4B346343C2D8B3FAB43BD7B28CD299E9D1603A484CA674E25A23DCD13E4F40F3579618A8C80375A921AFF63F680EF2C280CFC373142047CF7B363DA76FB388800E66D12BE96FC6243C7A4FC356AFDA460CABDA3199EBBC8E35408717308132A4F99EF76A203 ++
    leBytes 4 0xD15AF89F
def fwSig : List Byte :=
    leBytes 128 0x726E6ABD3AFF0F9AC64D0F619F564E3CFA500F82366BFD259AE5524DC77D99012D5CBFFAB8E51A651AD7F79D10ADD58625144EB53AF76901EBE44743E84DD3EEB1180BA861AA3F1F6604796B16CBC20845B11B453F19412F08A2A5D5F28F000000000000000000000000000000000000000000000000000000000000A5A50500 ++
    leBytes 128 0xB09F433C3BD3704915342F46B4CCB01A140A1B2A6AE660EB6296A8ACA3101A191BB1B33386F316F4E18601D5CB4888024BA5ACD2E2139C8A3D2354F7B6D44D0A653DB5B9B815EAC9ED7F5AE47A1D3CC684E25FDD32961D9DA73736DC4E0EF4E7A22F77C016713187559233C4E965961E229F40DB07E06A07945EE292057CE10B ++
    leBytes 128 0x3765C9D13234C01C8AA88F6B730A3578BF190A042D2F547C9F26DB35502F516249BF2FB0DD5F202408E12B7A7FB0A3215FC0B832F197924ADC023F503D40530A32DA5A5F845B25B426E92CBEA4F583B0DE27FA5EFAEA113D7D979C5F9F8469DA0542CA839E3C23CAD7BFFF508051B68CF41EEB49169F6CEBC4188DA7D51847C6 ++
    leBytes 128 0x1E50D0E63031E10AC6715AFAD6C3085E3A338723EE5740C8D825E70C7A00D273CB323238285C7701F2AAC27E939D877DB16682F8C88A3ACB27AB47C563E7D442F008F5071111463555ED957B3E22CF1D6AC4F7DCDDFB85FFF35574066C897617A83E3818EEC487E454949542B37612C00FC4184C4E25729306145E21D541D5B2 ++
    leBytes 128 0x423E4CF93473C0CFD106A70A37A704B8308601868C95E93C1A6092C4D4615227C7BD7C2F80858455E8821D2BC40D51D27F5D552E9723562E30CD31E5BD64411CCF3102D1CFD216CF6D1968E49F1C5EA7E722A2D09568C4A68F4BC82FDBA65F86F74A305254549CA3DA590B38BF4EE48D2392E9119E4526C7D4237393CAB67F5A ++
    leBytes 128 0xB01E41332F264CE2119B9E90FC5D9D67C1A98D69F7B4BE1230D214A0404B44DD5677AC467D8FC57BA2F76B97A0EB0B54C67D0FEC00ED5D876DACEB1BD158BA78E17665405CD2ED9955A5EA7DD690944F1F1AC58524BD999F870C909911909BC473A4D5E152679B840141B773952B91CB1530A9486665EF6DACABBCB10A8F7D0F ++
    leBytes 128 0x39863D485090B49B12F080A7C89F1082583891909F4C4C8A20C76438C1F03BAD9D8DDD7FB97451EB62AFC0D93EFD190D339996224593982268B4329B120F39F69C17E09C9F0F9DF70058C55E90F3F9C3F5E6420D30040F3578FBD982EEFAED48F5403DBA10790DA4E318B6CE34A7CD0D387897AD1856521C619AD1D6E1953E71 ++
    leBytes 128 0x79DE2D7EAD6438213DAFEFF599854BAB999EE7EDA651376EC506BC907EF9B0B5F6B124DF5C1B940C5AC85D22267660C85B223DBFAD7EA2FE8017F6425EE4C65C97ADEA3719E49AD769374E755B0C2E0BBFDBC4E659C0CDD699ECF09016211127CE45F721F9306854AC9FC65362F4AC012B14F1D91C1BF58E93738CA79E782E3 ++
    leBytes 128 0xD232E3A792B6A1AE6EA46BF2308A6608C7B072512C3DBF6C7CE457F47461C09CE4C2AE7F8E06871D2A73C9F475862293AE0FFFD3CE17D0A6AC3E976DCA0F7466EB6A590A9F5C5BF04BEF5B1C1BE1CD4F479B2A03EC7323BBA114F851B66076AF3A877FBD3FDA478BD4E70B8D5CB362BD75ACD137ED6E72384C0479386299CC1 ++
    leBytes 128 0xCEC6D5EFDC3DB84274092F132419F10983563D1518C8E41AB97E1A26DB6FC3D97C54D9FE632A1AE3B960FD697C058DED5D02511CBBDA7245AC10A34CF92A0DBA73C3D7E8DC15A26113352FE78AAE13A1754187A3EDB953FB8459FADEFE3AF7C62FB3A85264D57FAFAFD8507161E7358DC1CB03FF25DECDE2F78143F9B7B480C2 ++
    leBytes 128 0x16054CA636C52B6390EA1B7CC486634369139E3BCDCA98D20BD4CDA0D11841B617FCF34695CB7D9FA158A89BA3C762221237CC7DC3AFDAC63733B56FB44A434E8653DB2E8E16064AA4CE29A6D1EF348819B3027AD43ACDDBF465EA5CCBABC5A39E9AC93EBABA8C869667973AEA9F2BF848D497CC5D27938A0CD796D01D0CDC32 ++
    leBytes 128 0xAAA567D7C12C6B857E65FF45DE687353776B0D182D88E713194C3F62D64B3FB337387A36FD2CE661A9933CF7EDBD984717EEA93D813624C11B9F1B6C17BE7F59817EECAE69887369B96466738A8EE46D594FC92AF61F8C4AE593FF1A22FC12CAD03F4A65AE3B620A651AABAF26F92ADA5D1DAD77B809FD6E3B100713F545AB41 ++
    leBytes 128 0xB2DE7769005B6E15C407263E13FC71A7BF5BEAFCDF6417691D7A901D0A5620A43DCC514CACBAB1776D43ADD9530B1A20BEDD01A21E228D55A2EE1776DB1DC3F0DA6199CF60BC3D2E475BFA01E258F13A8B74FBA5AB1318E76FCAC080F68CEF6829FF3C0F8AF8659F76828FE31A5E826A8F4EB78167320026E0D5A9F2FA3E4026 ++
    leBytes 128 0xCF9C9C3A924C7269FB9281848025FD808AAF5F35581591B84F9195DF6A1C88BA648BAD5BC09C2668A19D3A16BF5FE02CF87811684A19F0F053B492BE230A62D5E781BE019B4B156337C4B1A35D8221B55879DEEC67CDA623AF4DD0BEE1B4BB221815D40256BA845CC49C610B21C4012C6776FA69F3BC677C74E6920A4664DFA3 ++
    leBytes 128 0x403955CB54AFC759D2852F1A67F6DCB8A8D5C6990DFF4B7B399A4E38DC5B3014DE6E38F9E50722B8E6131F6DEDE6767892713006E240EA4DB9688A922B1B4915266FE8B1E7E4FC1998EDDC431A0A737B52E0B88ACFDC692A12642FACBC50E26CD1B4AD63F61FDD51828779871CECCA00F36D7B9E990DB18D984C4E2B5F361487 ++
    leBytes 128 0x3D2514C2AB57C1F915E2984757480919F573F59B0D32978E1A0F759698F29187787CAFB11E310DC68F304C0E94247F219E0EC45DC3C2E004CD981DF57418EF1AE4E3E534A1F36334D7E3211AC29D147A9B9C56BCB6B4166D3066884B63613232404A5FEF10FFC7876E68B9251314378C41C3B482121D3FD34776CF2299A23EF2 ++
    leBytes 128 0x8506965ACE1F6AFCE27B6FCB0E9A83E47296F99C8A54A182E0E88D383E59D6D92B26664E209C6CD342324DA59F45DDBA479E53541E07EBB4B2CF020B304D764A59C0990C1556F32A75CADDD40E1AA7445D0F93842CD17D36440A3D69E4490358338EE2C35D26444A74F9A95D88F1577C2A2E9A467F9D8E6862AF37C01D02E07F ++
    leBytes 128 0x8EE4810E8D4749E26E55C0CCB08D46F23DF9E084A5E0131F890649C281BDC78D56B66EC3218F852AEE1EDFE698CC5C7A08DFD066065E5FA2E70CC17E3689842EF3D67A54A2D71BE5464FF757583D2C2094E7D162C112A611BC2992E2A00BECB2B47FB0CCAFF1F3A016EE6E7A832AA39FE1B1B0345CF4128B6D01BD98A6411E83 ++
    leBytes 128 0x48A4F941A69D7C58A1165DC1BC62117ACB358496BC993990E0D6548AF18D278F25B26341A33F0966C41CC52F6EBDF679CFDC13AEC213CCB97537D63A671A0451C28BEA84EFCB7CF8A3104A14A395706E5B1F37213261C737C965FAEA1104DCD83E15FA781DD214DD9D3758EFE0D01F6460EB014A976B9E28EB6AC260455E41DE ++
    leBytes 128 0x259CE2A90443B207D848FC467221CF6289B312B2CBC3DA5C2902F44790C38A3E290E36646E8C048EA2B9E28D4269D33845C79DF9C24EFB8890CD3B85F2F7722F048A0E6317D6CBC8D9F3DD3412B179EB5A8599F535FBA22EAADEA24447AE5C06CCD69FD85BA95ABB7BD1CE1BC3B67AC3F1158E2BAF778D9A4F76B19411E14FBA ++
    leBytes 128 0xAC0E1ED002A5F172885B8F10CE65F22701E23A84251662844AFE8C2EDB89313124578FD3DBA448EA3DD3624F404C58730B3935B8882EBBBE8F643CDAB7A356EE60F6A830B6534E3D7E93BECDD8252E62A156D1826EC0512E92BF0C0647FEC179E680D582A7512CB799D6689D602627F87A941251BAD30BCCB2C6C4300C038CDC ++
    leBytes 128 0x5618F425DE158C897EA1302DB687F0BBE0501FB81EC5768A0638D4B346343C2D8B3FAB43BD7B28CD299E9D1603A484CA674E25A23DCD13E4F40F3579618A8C80375A921AFF63F680EF2C280CFC373142047CF7B363DA76FB388800E66D12BE96FC6243C7A4FC356AFDA460CABDA3199EBBC8E35408717308132A4F99EF76A203 ++
    leBytes 4 0xD15AF89F

/-- The status that ROLE.SESS_CMD of installer PF A reads back after a command. -/
def sessStatusOf (c : Instr) (d : Dev) : Option Nat :=
  match exec c (on d) with
  | .next u => some ((u.dev.word ⟨.ROLE, 2, 8⟩).field 16 4)
  | _ => none

/-- A device whose installer PF of port A holds a challenge issued at Notch 100 for a role and slot, whose key is active. -/
def challenged (role notch : Nat) : Dev :=
  let c : Challenge := { bank := 2, role := role, slot := 0, counter := 7, notch := 100
                         nonce := leBytes 32 0xBFBEBDBCBBBAB9B8B7B6B5B4B3B2B1B0AFAEADACABAAA9A8A7A6A5A4A3A2A1A0 }
  let d : Dev := (({ boot := { serving := true }, dial := { notch := notch }, roles := { challenges := [c] }
                     store := { serial := 0x1F1E1D1C1B1A19181716151413121110 } } : Dev).put
    R.BOOT_STATUS_STAGE 4)
  (d.put R.HOST_LINK_STATUS_UP 1 0).setKey role 0 { state := 1, seq := 1, key := testKey }

theorem test_challenge : up.reaches (.installer .a) pgROLE = true ∧ up.held = false ∧ up.journalFull = false ∧
    up.stage ≠ bsSwapping ∧ up.locked 2 = false ∧
    (let a := Path.installer .a
     sessStatusOf (.getChallenge a 0 1 0) up = some 8 ∧
     sessStatusOf (.getChallenge a 0 2 3) { up with roles := { lockouts := [(2, 5)] } } = some 7 ∧
     sessStatusOf (.getChallenge a 0 2 3) (up.put R.BOOT_STATUS_STAGE bsSwapping) = some 1 ∧
     after (.getChallenge a 0 2 3) up (fun e => decide (e.store.counter = 1 ∧
       e.roles.challenges.map (fun c => (c.bank, c.role, c.slot, c.counter)) = [(2, 2, 3, 1)])) = true) := by decide +kernel

theorem test_open :
    (let a := Path.installer .a
     let b : Option (List Byte) := some [1]
     let judged := fun (d : Dev) (ok : Bool) => (d.openJudged a (some ok)).2
     sessStatusOf (.open_ a 0 b) up = some 6 ∧
     sessStatusOf (.open_ a 0 b) (challenged 2 937500100) = some 6 ∧
     judged (challenged 2 937500099) true = 0 ∧
     sessStatusOf (.open_ a 0 b) (challenged 1 200) = some 8 ∧
     sessStatusOf (.open_ a 0 b) { challenged 2 200 with store := { } } = some 4 ∧
     sessStatusOf (.open_ a 0 none) (challenged 2 200) = some 11 ∧
     judged (challenged 2 200) false = 5 ∧ xmssVerify testKey [] [1] = false ∧
     (let d := challenged 3 200
      judged { d with roles := { d.roles with
        sessions := [{ bank := 4, path := .mctp .i3c, role := 3, slot := 0, counter := 1, last := 0 }] } } true = 1) ∧
     (let d := challenged 2 200
      let e := ({ d with roles := { d.roles with refusals := [(2, 7)] } }.openJudged a (some false)).1
      e.locked 2 = true ∧ e.roles.refusals = [] ∧ e.get R.ROLE_EVENTS = 6)) := by decide +kernel

/-- A signature that verifies opens the session. -/
theorem test_open_verifies :
    after (.open_ (.installer .a) 0 (some openSig)) (challenged 2 200) (fun e => decide (
      (e.word ⟨.ROLE, 2, 8⟩).field 16 4 = 0 ∧ e.role (.installer .a) = 2 ∧ e.roles.challenges = [] ∧
      e.get R.ROLE_EVENTS = 1)) = true := by decide +kernel

theorem test_session_ends :
    sessStatusOf (.close (.installer .a) 0) up = some 0 ∧
    after (.close (.installer .a) 0) up (fun e => decide (e.roles.sessions = [])) = true ∧
    sessStatusOf (.close (.installer .a) 0) { up with roles := { } } = some 10 ∧
    after (.sessionIdleEnd (.installer .a)) { up with dial := { notch := 900 * 15625000 } } (fun e =>
      decide (e.roles.sessions = [])) = true ∧
    after (.sessionIdleEnd (.installer .a)) { up with dial := { notch := 900 * 15625000 - 1 } } (fun e =>
      decide (e.roles.sessions.length = 1)) = true ∧
    after (.lockoutEnd (.installer .a)) { up with dial := { notch := 9 }, roles := { lockouts := [(2, 9), (3, 9)] } } (fun e =>
      decide (e.roles.lockouts = [(3, 9)])) = true ∧
    after .endpointIdAssigned { up with roles := { sessions := [
        { bank := 4, path := .mctp .i3c, role := 3, slot := 0, counter := 1, last := 0 }] } } (fun e =>
      decide (e.roles.sessions = [])) = true := by decide +kernel

/-- The status a KEY_CMD command reads back. -/
def keyStatusOf (c : Instr) (d : Dev) : Option Nat :=
  match exec c (on d) with
  | .next u => some (u.dev.get R.ROLE_KEY_CMD_STATUS)
  | _ => none

/-- The status an SSTORE.CMD command reads back. -/
def storeStatusOf (c : Instr) (d : Dev) : Option Nat :=
  match exec c (on d) with
  | .next u => some (u.dev.get R.SSTORE_CMD_STATUS)
  | _ => none

/-- Devices whose serial-store devices answer. -/
def withStore (d : Dev) : Dev := (d.put R.SSTORE_DEV_SFDP_OK 1 0 0).put R.SSTORE_DEV_SFDP_OK 1 0 1
def used : Dev := withStore up

/-- A device through whose installer PF A host memory may be read, with an active installer key 0. -/
def storeReady : Dev := ((used.put R.HOST_LINK_STATUS_UP 1 0).setKey 2 0 { state := 1, key := [9] }).setKey 3 0 { state := 1, key := testKey }

/-- A signed object of a type and signer class with an empty body. -/
def objectOf (type cls : Nat) (gen : Nat) : List Byte :=
  leBytes 4 0x4F53584B ++ leBytes 2 1 ++ leBytes 2 type ++ leBytes 4 0 ++ leBytes 1 cls ++ leBytes 3 0 ++ leBytes 8 gen ++
    List.replicate 40 0 ++ List.replicate 2824 0

/-- The firmware object of maker key 0 and GENERATION 5, with its signature. -/
def signedFw : List Byte := (objectOf 1 3 5).take 64 ++ fwSig ++ List.replicate 4 0

theorem test_key_slots : up.accepts (.installer .a) pgROLE = true ∧
    (let a := Path.installer .a
     let w : StoreWrite := { }
     let d := (withStore made).setKey 2 0 { state := 1, key := [9] }
     let e := (withStore made).setKey 3 1 { state := 1, key := [9] }
     keyStatusOf (.enrol a 2 4 none w) made = some 5 ∧
     keyStatusOf (.enrol a 3 0 none w) made = some 5 ∧
     keyStatusOf (.enrol a 2 0 none w) up = some 4 ∧
     keyStatusOf (.enrol a 2 0 none w) d = some 5 ∧
     keyStatusOf (.enrol a 2 1 none w) d = some 8 ∧
     keyStatusOf (.enrol a 2 1 none w) (d.put R.BOOT_STATUS_STAGE bsSwapping) = some 1 ∧
     keyStatusOf (.revoke a 2 0 w) up = some 4 ∧
     keyStatusOf (.revoke a 2 1 w) d = some 5 ∧
     keyStatusOf (.revoke a 3 1 w) e = some 7 ∧
     keyStatusOf (.revoke a 2 0 { fail0 := true, fail1 := true }) d = some 9 ∧
     after (.revoke a 2 0 { fail0 := true }) d (fun e => decide ((e.keySlot 2 0).state = 2 ∧ (e.keySlot 2 0).key = [9] ∧
       e.get R.ROLE_KEY_CMD_STATUS = 0 ∧ e.roles.sessions.length = 1)) = true ∧
     after (.revoke a 3 0 w) (e.setKey 3 0 { state := 1 }) (fun e => decide ((e.keySlot 3 0).state = 2 ∧
       e.roles.sessions = [] ∧ e.store.blown = 1)) = true) := by decide +kernel

theorem test_installs : up.accepts (.installer .a) pgSSTORE = true ∧
    (let a := Path.installer .a
     let w : DeviceWrite := { }
     let d := storeReady
     storeStatusOf (.installIdentity a 0 none w w) d = some 4 ∧
     storeStatusOf (.installFw a 0 none w w) d = some 5 ∧
     storeStatusOf (.installSet a 1 none w w) (d.put R.SSTORE_SRC_LEN (16777216 + 1)) = some 5 ∧
     storeStatusOf (.installSet a 1 none w w) (d.put R.SSTORE_SRC_LEN 8) = some 6 ∧
     after (.installSet a 1 none w w) (d.put R.SSTORE_SRC_LEN 8) (fun e => decide (e.get R.SSTORE_EVENTS = 2)) = true ∧
     (let n := d.put R.SSTORE_SRC_LEN 2888
      storeStatusOf (.installSet a 0 (some (objectOf 2 1 5)) w w) n = some 8 ∧
      storeStatusOf (.installFw a 0 (some (objectOf 1 2 5)) w w) n = some 8 ∧
      storeStatusOf (.installSet a 0 none w w) { n with boot := { n.boot with installing := some (0, 1) } } = some 1 ∧
      after .undervoltage { n with store := { n.store with fwB := [1] }, boot := { n.boot with installing := some (0, 1) } }
        (fun e => decide (e.store.fwB = [])) = true)) := by decide +kernel

/-- The checks past the signature, and what each object becomes, with the outcome of its signature's check given. -/
theorem test_installed :
    (let install := fun (type cls : Nat) (d : Dev) (ok : Bool) (w : StoreWrite) =>
       d.installJudged (.installer .a) type (objectOf type cls 5) ok w
     let d := storeReady
     (install 1 3 d false { }).2 = 9 ∧
     (install 1 3 (d.put R.SSTORE_FW_FLOOR 6) true { }).2 = 10 ∧
     (install 1 3 d true (.both { fails := true } { fails := true })).2 = 12 ∧
     (let e := (install 2 2 d true { }).1
      e.store.activeSet = 1 ∧ e.setValid 1 = true ∧ e.get R.SSTORE_SET_ACTIVE = 0 ∧ e.get R.SSTORE_EVENTS = 1) ∧
     (install 3 3 d true { }).1.store.identity.length = 2888) := by decide +kernel

/-- A key with the OID of R526 is read from host memory. -/
theorem test_enrol_source :
    storeReady.sourceBytes (.installer .a) 0 68 (some xmssOid) =
      some (xmssOid ++ List.replicate 64 0) ∧
    (xmssOid ++ List.replicate 64 0).take 4 = xmssOid := ⟨rfl, rfl⟩

theorem test_journal_flush :
    (let r := fun (n : Nat) => (JRec.mk n 0 0 0 2 4 1 1 64 0 0 0 0 [])
     let c : StoreCopy := { journal := [⟨1, [], [r 1]⟩], begun := 1 }
     let d : Dev := { used with
       roles := { buffer := [r 2, r 3, r 4], storedChain := some [] }, store := { used.store with copy0 := c, copy1 := c } }
     after (.journalFlush 2 { fail1 := true }) d (fun e => decide (e.store.copy0.records.map JRec.seq = [1, 2, 3] ∧
       e.store.copy1 = c ∧ e.roles.buffer.map JRec.seq = [4] ∧ e.get R.HEALTH_SSTORE_PE_FAIL 0 1 = 1 ∧
       e.get R.HEALTH_REPLACE_REASON = 7)) = true ∧
     after (.journalFlush 2 { fail0 := true, fail1 := true }) d (fun e => decide (e.roles = d.roles)) = true ∧
     after (.journalFlush 1 { }) { d with roles := { d.roles with owed := [r 0] } } (fun e => decide (e.roles.owed = [] ∧
       e.roles.buffer.length = 3)) = true) := by decide +kernel

/-- The last message the device answers, without its header bytes that only a vendor number fills. -/
def replyOf (c : Instr) (d : Dev) : Option (List Byte) :=
  match exec c (on d) with
  | .next u => match u.dev.out.getLast? with
    | some (.message (.mctp .i3c) m) => some (if m.head? = some 0x7E then m.drop 3 else m)
    | _ => none
  | _ => none

/-- A device with an installer session over MCTP. -/
def talking : Dev :=
  { up with roles := { sessions := [{ bank := 4, path := .mctp .i3c, role := 2, slot := 0, counter := 1, last := 0 }] } }

theorem test_mctp_served : talking.barOpen (.mctp .i3c) = true ∧ talking.stage ≠ bsSwapping ∧
    replyOf (.getIdentity .i3c 5) { talking with store := { identity := [1, 2] } } = some [0x81, 5, 0, 0, 0, 1, 2] ∧
    replyOf (.getIdentity .i3c 5) (talking.put R.BOOT_STATUS_STAGE bsRecovery) = some [0x81, 5, 1, 0, 0] ∧
    replyOf (.getReport .i3c 5 [] { }) (talking.put R.ROLE_ATTEST_LEAF_NEXT (2 ^ 40)) = some [0x82, 5, 13, 0, 0] ∧
    replyOf (.getReport .i3c 5 [] { fail0 := true, fail1 := true }) (withStore talking) = some [0x82, 5, 12, 0, 0] ∧
    replyOf (.regRead .i3c 5 0 0x000) up = some [0x93, 5, 10, 0, 0] ∧
    replyOf (.regWrite .i3c 5 pgDIAL 0x58 7) talking = some [0x94, 5, 0, 0, 0] ∧
    replyOf (.stageChunk .i3c 5 0 []) talking = some [0x95, 5, 14, 0, 0] ∧
    after (.stageChunk .i3c 5 8 [1, 2]) talking (fun e => decide (e.roles.staging = [(8, 1), (9, 2)])) = true ∧
    after (.stageChunk .i3c 5 8 [1, 2]) (talking.put R.BOOT_STATUS_STAGE bsSwapping) (fun e => decide (e.out = [])) = true ∧
    replyOf (.close (.mctp .i3c) 5) talking = some [0x92, 5, 0, 0, 0] ∧
    replyOf (.getIdentity .i3c 5) talking = some [0x81, 5, 0, 0, 0] ∧
    after (.getIdentity .i3c 5) talking (fun e => decide (e.out.head? = some .inBand)) = true ∧
    after (.stageChunk .i3c 5 0 (List.replicate 8181 0)) talking (fun e => decide (e.out = [])) = true ∧
    replyOf (.close (.mctp .i3c) 5) up = some [0x92, 5, 10, 0, 0] ∧
    replyOf (.getChallenge (.mctp .i3c) 5 0 0) up = some [0x90, 5, 14, 0, 0] := by decide +kernel

theorem test_mctp_held :
    after (.getIdentity .i3c 5) ({ talking with boot := { swap := some { stage := bsService, old := 0, new := 1, since := 0 } } }.put R.BOOT_STATUS_STAGE bsSwapping)
      (fun e => decide (e.roles.held = [(.i3c, (5, .getIdentity))])) = true ∧
    after (.getIdentity .i3c 5) (up.put R.BOOT_STATUS_STAGE bsFirmware) (fun e => decide (e.out = [])) = true := by decide +kernel

theorem test_pldm : up.barOpen (.mctp .i3c) = true ∧
    replyOf (.pldmFirmwareUpdate .i3c [] { } { }) up = some [10] ∧
    replyOf (.pldmFirmwareUpdate .i3c [] { } { }) talking = some [6] ∧
    replyOf (.pldmFirmwareUpdate .i3c [] { } { }) { talking with boot := { talking.boot with installing := some (0, 1) } } = some [1] ∧
    replyOf (.getSensorReading .i3c 1 500) { up with health := { temps := [875] } } = some [1, 0x6B, 3, 0, 0] ∧
    replyOf (.getSensorReading .i3c 3 (-2)) up = some [3, 0xFE, 0xFF, 0xFF, 0xFF] ∧
    replyOf (.getSensorReading .i3c 7 0) (up.put R.HEALTH_PHASES_FAILED_MAP 3) = some [7, 10, 0, 0, 0] ∧
    replyOf (.getSensorReading .i3c 8 0) up = some [] ∧
    after (.setEventReceiver .i3c 9) up (fun e => decide (e.health.receiver = some (.i3c, 9))) = true ∧
    replyOf (.pollForPlatformEvent .i3c) { up with health := { events := [[4], [5]] } } = some [4] ∧
    (let d : Dev := { up with roles := { challenges := [Challenge.mk 4 1 0 7 [] 0] } }.setKey 1 0 { state := 1 }
     replyOf (.open_ (.mctp .i3c) 5 (some [])) d = some [0x91, 5, 5, 0, 0] ∧
     ((d.touch (.mctp .i3c)).openJudged (.mctp .i3c) (some true)).1.role (.mctp .i3c) = 1) := by decide +kernel

/-- A device in a stage of its start. -/
def starting (stage : Nat) : Dev := ({ } : Dev).put R.BOOT_STATUS_STAGE stage

/-- A device with an active maker key 0 and a firmware object of the committed slot. -/
def bootable : Dev :=
  let d := ((starting bsFirmware).put R.SSTORE_DEV_SFDP_OK 1 0 0).setKey 3 0 { state := 1, key := testKey }
  { d with store := { d.store with copy0 := { fwA := signedFw } }, dial := { notch := 77 } }

theorem test_power :
    after (.powerOn 1) { boot := { off := true }, dial := { notch := 5 } } (fun e => decide (e.boot.off = false ∧
      e.dial.notch = 0 ∧ e.stage = bsRom ∧ e.get R.HEALTH_STATUS_POWER_W = Variant.kxd3200.powerMax * 70 / 100)) = true ∧
    after (.powerOn 1) { boot := { off := true, tripped := true } } (fun e => decide (e.boot.off = true)) = true ∧
    after .undervoltage { up with health := { alert := true } } (fun e => decide (e.boot.off = true ∧
      e.out = [.pin "THERM_ALERT#" true])) = true ∧
    after .undervoltage { up with health := { phaseAt := some (3, 4) }, dial := { notch := 5 }, store := { phases := 8 } } (fun e =>
      decide (e.store.phases = 8)) = true ∧
    after (.phaseFail 3 16) up (fun e => decide (e.health.phaseAt = some (3, 0) ∧ e.store.phases = 8)) = true := by decide +kernel

theorem test_firmware_stage :
    after (.firmware .second .neither) bootable (fun e => decide (e.stage = bsRecovery)) = true ∧
    after (.firmware .neither .neither) bootable (fun e => decide (e.stage = bsRecovery)) = true := by decide +kernel

/-- Maker keys: one that its fuses match, one that they do not, and one whose fuse is blown. -/
theorem test_maker_fuses :
    (let h := shake256 testKey 32
     let k : KeySlot := { state := 1, key := testKey }
     let c : StoreCopy := { keys := [(24, k), (25, k), (26, k)] }
     let d : Dev := ({ store := { makerHash := [h, [], h], blown := 4, copy1 := c } } : Dev).put R.SSTORE_DEV_SFDP_OK 1 0 1
     (List.range 4).map (fun n => ((d.readKeys .first).keySlot 3 n).state) = [1, 2, 2, 0]) := by decide +kernel

theorem test_later_stages :
    after .settings (starting bsSettings) (fun e => decide (e.stage = bsGlens)) = true ∧
    after .settings (starting bsFirmware) (fun e => decide (e.stage = bsFirmware)) = true ∧
    after .service { starting bsGlens with boot := { serving := true }, dial := { notch := 9 } } (fun e =>
      decide (e.stage = bsService ∧ e.boot.wdogFrom = 9 ∧ e.get R.BOOT_EVENTS = 1)) = true ∧
    after .service (starting bsGlens) (fun e => decide (e.stage = bsGlens)) = true := by decide +kernel

theorem test_start_image : imageOk startImage = true := by decide +kernel

theorem test_rom : (starting 0).stage = bsRom ∧ (starting 0).store.activeSet < 2 ∧
    (setEntries []).map SetEntry.isHost = [] := by decide +kernel

/-- The copy of a region that a start takes, and the largest END of the records that check. -/
theorem test_copies :
    (let d : Dev := { store := { copy0 := { setA := [1] }, copy1 := { setA := [2] } } }
     let on := fun (a b : Nat) => (d.put R.SSTORE_DEV_SFDP_OK a 0 0).put R.SSTORE_DEV_SFDP_OK b 0 1
     let two := fun (c : StoreCopy) => c.setA == [2]
     (on 1 1).choose .first (fun _ => true) = .first ∧ (on 0 1).choose .first (fun _ => true) = .second ∧
     (on 1 1).choose .first two = .second ∧ (on 1 0).choose .first two = .neither ∧
     (on 1 1).choose .neither (fun _ => true) = .neither) := by decide +kernel

theorem test_reservations :
    largestEnd [reservation 256, reservation 512, (reservation 768).set 8 1] = 512 := by decide +kernel

/-- The status that BOOT.CMD reads back. -/
def bootStatusOf (c : Instr) (d : Dev) : Option Nat :=
  match exec c (on d) with
  | .next u => some (u.dev.get R.BOOT_CMD_STATUS)
  | _ => none

/-- A device in service whose firmware slot B checks, at a Notch. -/
def swappable (notch : Nat) : Dev :=
  let d := used.setKey 3 0 { state := 1, key := testKey }
  { d with store := { d.store with copy0 := { fwB := signedFw }, copy1 := { fwB := signedFw } }, dial := { notch := notch } }

/-- That device in a swap begun at Notch 100. -/
def swapping (trial : Bool) (stopped : Option Nat) (notch : Nat) : Dev :=
  let d := (swappable notch).put R.BOOT_STATUS_STAGE bsSwapping
  { d with
    cmds := [(fldKey R.BOOT_CMD_CODE 0 0, 1 + 2 * 256)]
    boot := { d.boot with swap := some (FwSwap.mk 0 1 true trial 100 stopped 312590 bsService) } }

theorem test_swap_commands : up.accepts (.installer .a) pgBOOT = true ∧
    (let a := Path.installer .a
     let d := swappable 7
     let t := d.put R.BOOT_STATUS_FW_TRIAL 1
     bootStatusOf (.swapFw a 0 .first) d = some 5 ∧ bootStatusOf (.swapFw a 1 .neither) d = some 5 ∧
     bootStatusOf (.commitFw a) d = some 6 ∧ bootStatusOf (.revertFw a) d = some 6 ∧
     bootStatusOf (.commitFw a) (swapping true none 100) = some 1 ∧
     after (.commitFw a) (t.put R.SSTORE_FW_ACTIVE 1) (fun e => decide (e.store.committed = 1 ∧
       e.get R.BOOT_STATUS_FW_TRIAL = 0 ∧ e.get R.BOOT_STATUS_COMMITTED_SLOT = 1)) = true ∧
     after (.revertFw a) (t.put R.SSTORE_FW_ACTIVE 1) (fun e => decide ((e.boot.swap.map FwSwap.new) = some 0 ∧
       e.get R.BOOT_EVENTS = 4)) = true) := by decide +kernel

/-- A firmware object whose signature verifies is installed, is swapped to, and is what a start runs. -/
theorem test_signed_firmware :
    (let a := Path.installer .a
     let d := swappable 7
     let t := d.put R.BOOT_STATUS_FW_TRIAL 1
     after (.installFw a 0 (some signedFw) { } { }) (storeReady.put R.SSTORE_SRC_LEN 2888) (fun e => decide (
       e.get R.SSTORE_FW_GEN 0 1 = 5 ∧ e.fwValid 1 = true ∧ e.store.fwB = signedFw ∧ e.get R.SSTORE_CMD_STATUS = 0)) = true ∧
     bootStatusOf (.swapFw a 1 .first) t = some 6 ∧
     bootStatusOf (.swapFw a 1 .first) { d with boot := { d.boot with installing := some (7, 1) } } = some 6 ∧
     after (.swapFw a 1 .second) d (fun e => decide (e.stage = bsSwapping ∧ e.get R.BOOT_CMD_STATUS = 2 ∧
       (e.boot.swap.map FwSwap.new) = some 1)) = true ∧
     after (.firmware .first .neither) bootable (fun e => decide (e.stage = bsSettings ∧ e.fwValid 0 = true ∧
       e.fwValid 1 = false ∧ e.get R.BOOT_T_STAGE1_T_FW = 77 ∧ e.get R.SSTORE_FW_GEN 0 0 = 5)) = true ∧
     after (.firmware .first .first) { bootable with store := { bootable.store with committed := 1 } } (fun e =>
       decide (e.stage = bsSettings ∧ e.get R.BOOT_STATUS_FW_FALLBACK = 1)) = true) := by decide +kernel

theorem test_handover :
    ((swapping true none 312589).handoverDue.boot.swap.bind FwSwap.stopped) = none ∧
    ((swapping true none 312590).handoverDue.boot.swap.bind FwSwap.stopped) = some 312590 := by decide +kernel

theorem test_swap_ends :
    after .fwHandoverTimeout (swapping true none 312600) (fun e => decide (e.get R.SSTORE_FW_ACTIVE = 1)) = true ∧
    after .fwHandoverTimeout (swapping true none 312599) (fun e => decide (e.get R.SSTORE_FW_ACTIVE = 0)) = true ∧
    after (.fwRunning true) (swapping true (some 200) 300) (fun e => decide (e.stage = bsService ∧
      e.boot.trialEnd = some (600, 0) ∧ e.get R.BOOT_STATUS_FW_TRIAL = 1 ∧ e.get R.BOOT_CMD_STATUS = 0)) = true ∧
    after (.fwRunning true) (swapping false (some 200) 300) (fun e => decide (e.get R.BOOT_CMD_STATUS = 7 ∧
      e.get R.BOOT_STATUS_FW_TRIAL = 0)) = true ∧
    after (.fwRunning false) (swapping true (some 200) 300) (fun e => decide ((e.boot.swap.map FwSwap.new) = some 0)) = true ∧
    after (.fwRunning true) (swapping true (some 200) 1562700) (fun e => decide (e.stage = bsSwapping)) = true ∧
    after (.swapTimeout 0) (swapping true (some 200) 1562700) (fun e => decide ((e.boot.swap.map FwSwap.trial) = some false)) =
      true ∧
    after (.swapTimeout 0) (swapping true (some 200) 1562699) (fun e => decide ((e.boot.swap.map FwSwap.trial) = some true)) =
      true := by decide +kernel

theorem test_watchdog :
    after .watchdogExpiry (swappable 15625000) (fun e => decide (e.stage = bsSwapping ∧ e.get R.BOOT_EVENTS = 12)) = true ∧
    after .watchdogExpiry (swappable 15624999) (fun e => decide (e.stage = bsService)) = true ∧
    after (.wdogKick .firmware) (swappable 9) (fun e => decide (e.get R.BOOT_WDOG_KICKS = 1 ∧ e.boot.wdogFrom = 9)) = true ∧
    after (.wdogKick (.installer .a)) (swappable 9) (fun e => decide (e.boot.wdogFrom = 0 ∧
      e.errs.now.map ErrRec.cls = [2])) = true ∧
    after .trialExpiry { swappable 9 with boot := { serving := true, trialEnd := some (0, 64) }, dial := { ns := 64 } } (fun e =>
      decide ((e.boot.swap.map FwSwap.new) = some 0)) = true ∧
    after .trialExpiry { swappable 9 with boot := { serving := true, trialEnd := some (0, 64) }, dial := { ns := 63 } } (fun e =>
      decide (e.boot.swap = none)) = true := by decide +kernel

theorem test_reset_canonical : State.reset.canonical := by
  refine ⟨?_, ?_, ?_⟩ <;> decide

theorem test_reset_values : State.reset.pending = [] ∧ State.reset.dev.dial.notch = 0 ∧ State.reset.dev.stage = bsRom ∧
    State.reset.dev.get R.DIAL_SERVO_CFG_LOCK_THRESH_NS = 100 ∧ State.reset.dev.get R.BASIN_CELL_FREE_FREE = 393216 ∧
    State.reset.dev.get R.PORT_STATUS_LINK 5 = 3 ∧ State.reset.dev.get R.LANEGRP_MODE_QMODE0 3 = 5 ∧
    State.reset.dev.get R.TABLE_FT_CFG_BUCKET_LOG2 0 15 = 7 ∧ State.reset.dev.get R.BASIN_Q_AGE_AGE_LIMIT 0 159 = 1562500 ∧
    State.reset.dev.get R.ROLE_SESS_CFG_IDLE_S = 900 ∧ State.reset.dev.get R.BOOT_TRIAL_LIMIT_S = 600 ∧
    State.reset.dev.get R.HEALTH_SSTORE_WEAR_LIMIT 0 1 = 80 ∧ State.reset.dev.glState 17 = glSelftest ∧
    State.reset.dev.awake = true ∧ State.reset.dev.instState 0 = 1 ∧ State.reset.dev.instState 4095 = 0 := by decide +kernel

theorem test_canonical_step : ∃ t : State, step { State.reset with pending := [.slewWrite (.installer .a) 5] } = .next t :=
  ⟨_, rfl⟩

/-! ### Ill-formed commands are refused -/

theorem test_wf_path : Instr.wellFormed (.slewWrite (.vf 4096) 0) = false ∧ Instr.wellFormed (.slewWrite (.vf 4095) 0) = true := by decide +kernel
theorem test_wf_page : Instr.wellFormed (.errAck .firmware 8192) = false ∧ Instr.wellFormed (.errAck .firmware 8191) = true := by decide +kernel
theorem test_wf_thread : Instr.wellFormed (.nop { thread := .glen 18 0 0 }) = false ∧
    Instr.wellFormed (.nop { thread := .glen 17 31 7 }) = true ∧ Instr.wellFormed (.nop { thread := .glen 0 32 0 }) = false ∧
    Instr.wellFormed (.nop { thread := .glen 0 0 8 }) = false ∧ Instr.wellFormed (.nop { thread := .ctrl 16 }) = false := by decide +kernel
theorem test_wf_register : Instr.wellFormed (.add { thread := .ctrl 0 } 32 0 0) = false ∧
    Instr.wellFormed (.add { thread := .ctrl 0 } 0 32 0) = false ∧ Instr.wellFormed (.add { thread := .ctrl 0 } 0 0 32) = false := by decide +kernel
theorem test_wf_fields : Instr.wellFormed (.jmp { thread := .ctrl 0 } (2 ^ 32)) = false ∧
    Instr.wellFormed (.ld { thread := .ctrl 0 } 0 0 16 0) = false ∧ Instr.wellFormed (.chrd { thread := .ctrl 0 } 0 32 0) = false := by decide +kernel
theorem test_wf_units : Instr.wellFormed (.linkUp 16) = false ∧ Instr.wellFormed (.cellGrant 20 0) = false ∧
    Instr.wellFormed (.egressRequest 20) = false ∧ Instr.wellFormed (.dispatch ⟨16, false⟩) = false ∧
    Instr.wellFormed (.bankRetired 32) = false ∧ Instr.wellFormed (.vfFlr 4096) = false ∧
    Instr.wellFormed (.txCompletion 8192) = false ∧ Instr.wellFormed (.notchTimer 64) = false ∧
    Instr.wellFormed (.hostDelivery 2048) = false ∧ Instr.wellFormed (.ageDrop 131072) = false ∧
    Instr.wellFormed (.phaseFail 12 1) = false ∧ Instr.wellFormed (.powerOn 4) = false := by decide +kernel

theorem test_lands :
    (let all := (List.range 58).flatMap (fun r => (List.range 58).map (fun c => land (r + 1) (c + 1)))
     all.countP (· == .vin) = 128 ∧ all.countP (· == .reserved) = 128 ∧ all.countP (·.scanned) = 52 ∧
     all.countP (· == .gnd) = 2860) ∧
    land 46 14 = .pin .ppsIn ∧ land 40 2 = .hostRx .a 10 true ∧ land 5 50 = .ethTx 15 false ∧
    Variant.kxd3200.inputCurrent 6 = 520 ∧ Variant.kxd1600.inputCurrent 60 = 32 ∧ Variant.kxd0800n.inputCurrent 12 = 96 ∧
    Variant.kxd0800n.inputCurrent 60 = 20 := by decide +kernel

end Sys2Proof.Tests
end

/-! SUPPORT. Rules for commands that act, for the fields of a ticket, and for slots, Glens and threads. -/

namespace Sys2Proof.Machine

/-! ### Commands that act -/

/-- A command of an awake device leads where its effect does. -/
theorem State.leads_of_act {s : State} {c : Instr} {f : Dev → Dev} {P : Dev → Prop} (hc : exec c s = s.act f)
    (ha : s.dev.awake = true) (hP : P (f s.dev)) : s.leads c P :=
  ⟨f s.dev, by rw [hc, State.act, State.always, if_pos ha], hP⟩

/-- A data-path action of an awake device whose data path flows leads where its effect does. -/
theorem State.leads_of_live {s : State} {c : Instr} {f : Dev → Dev} {P : Dev → Prop} (hc : exec c s = s.live f)
    (ha : s.dev.awake = true) (hf : s.dev.flows = true) (hP : P (f s.dev)) : s.leads c P :=
  State.leads_of_act hc ha (by rw [if_pos hf]; exact hP)

/-- An instruction of an awake device runs to its effect, which may count on the word in the program store. -/
theorem State.runs_of_act {s : State} {c : Instr} {i : Issue} {w : Word} {f : Dev → Dev} {P : Dev → Prop}
    (hw : c.coded = some (i, w)) (hc : exec c s = s.act f) (ha : s.dev.awake = true)
    (hP : (s.dev.fetched i.thread).getD w = w → P (f s.dev)) : s.runs c P := by
  intro h
  simp only [Dev.codes, hw, beq_iff_eq] at h
  exact State.leads_of_act hc ha (hP h)

/-! ### Fields of a ticket -/

@[simp] theorem Ticket.put_length (t : Ticket) (f : TF) (v : Nat) : (t.put f v).q.length = t.q.length := by
  simp [Ticket.put, setNth]

/-- A field of a ticket reads as the low bits of what was put there. -/
theorem Ticket.get_put_same (t : Ticket) (f : TF) (v : Nat) (hq : f.q < t.q.length) (hw : f.lo + f.w ≤ 64) :
    (t.put f v).get f = v % 2 ^ f.w := by
  simp [Ticket.get, Ticket.put, Ticket.quad, nth, setNth, hq, Word.field_withField_same _ _ _ _ hw]

/-- A field with no bit in common with the one put reads as before. -/
theorem Ticket.get_put_apart (t : Ticket) (f g : TF) (v : Nat)
    (h : g.q ≠ f.q ∨ g.lo + g.w ≤ f.lo ∨ f.lo + f.w ≤ g.lo) : (t.put f v).get g = t.get g := by
  by_cases hq : g.q = f.q
  · have hb := h.resolve_left (fun hne => hne hq)
    by_cases hl : f.q < t.q.length
    · simp [Ticket.get, Ticket.put, Ticket.quad, nth, setNth, hq, hl, Word.field_withField_other _ _ _ _ _ _ hb]
    · simp [Ticket.get, Ticket.put, setNth, List.set_eq_of_length_le (Nat.le_of_not_lt hl)]
  · simp [Ticket.get, Ticket.put, Ticket.quad, nth, setNth, List.getElem?_set_ne (Ne.symm hq)]

/-! ### Slots, Glens and threads -/

@[simp] theorem Dev.slot_modSlot (d : Dev) (k : Nat) (f : Slot → Slot) : (d.modSlot k f).slot k = f (d.slot k) := by
  simp [Dev.modSlot, Dev.slot]

@[simp] theorem Dev.glen_modGlen (d : Dev) (g : Nat) (f : Glen → Glen) : (d.modGlen g f).glen g = f (d.glen g) := by
  simp [Dev.modGlen, Dev.glen]

/-- A change of a Glen that keeps its thread modes keeps those of every Glen. -/
theorem Dev.modes_modGlen (d : Dev) (g : Nat) (f : Glen → Glen) (hf : ∀ x, (f x).modes = x.modes) (j : Nat) :
    ((d.modGlen g f).glen j).modes = (d.glen j).modes := by
  by_cases hj : j = g
  · rw [hj, Dev.glen_modGlen, hf]
  · simp [Dev.modGlen, Dev.glen, assoc_assocSet_other _ _ hj]

theorem Dev.thread_of_listed {d : Dev} {id : ThreadId} {t : Thread} (h : assoc d.glens.threads id = some t) :
    d.thread id = t := by
  unfold Dev.thread
  rw [h]

@[simp] theorem Dev.thread_setThread (d : Dev) (id : ThreadId) (t : Thread) : (d.setThread id t).thread id = t :=
  Dev.thread_of_listed (assoc_assocSet_same _ id t)

/-- Of two settings of a thread the later stands. -/
@[simp] theorem Dev.setThread_setThread (d : Dev) (id : ThreadId) (t u : Thread) :
    (d.setThread id t).setThread id u = d.setThread id u := by
  simp [Dev.setThread, assocSet]

/-- A thread is what its list entry says, or follows from its Glen's modes and the registers. -/
theorem Dev.thread_congr {d e : Dev} {id : ThreadId} (ht : assoc e.glens.threads id = assoc d.glens.threads id)
    (hg : ∀ g, (e.glen g).modes = (d.glen g).modes) (hr : e.regs = d.regs) : e.thread id = d.thread id := by
  have hm : e.mode = d.mode := by funext g c t; simp only [Dev.mode, hg]
  have hc : e.coreRuns = d.coreRuns := by funext g c; simp only [Dev.coreRuns, Dev.get, hr]
  have hh : e.held = d.held := by simp only [Dev.held, Dev.flag, Dev.get, hr]
  unfold Dev.thread
  rw [ht, hm, hc, hh]

theorem Dev.thread_setThread_other (d : Dev) {id j : ThreadId} (t : Thread) (h : j ≠ id) :
    (d.setThread id t).thread j = d.thread j :=
  Dev.thread_congr (assoc_assocSet_other _ t h) (fun _ => rfl) rfl

/-- A change of a Glen that keeps its thread modes changes no thread. -/
theorem Dev.thread_modGlen (d : Dev) (g : Nat) (f : Glen → Glen) (hf : ∀ x, (f x).modes = x.modes) (id : ThreadId) :
    (d.modGlen g f).thread id = d.thread id :=
  Dev.thread_congr rfl (d.modes_modGlen g f hf) rfl

@[simp] theorem Dev.setThread_regs (d : Dev) (id : ThreadId) (t : Thread) : (d.setThread id t).regs = d.regs := rfl
@[simp] theorem Dev.setThread_mem (d : Dev) (id : ThreadId) (t : Thread) : (d.setThread id t).mem = d.mem := rfl
@[simp] theorem Dev.setThread_basin (d : Dev) (id : ThreadId) (t : Thread) : (d.setThread id t).basin = d.basin := rfl
@[simp] theorem Dev.glen_setThread (d : Dev) (id : ThreadId) (t : Thread) (g : Nat) : (d.setThread id t).glen g = d.glen g := rfl
@[simp] theorem Dev.sendOut_regs (d : Dev) (g : Nat) (p : Pkt) : (d.sendOut g p).regs = d.regs := rfl
@[simp] theorem Dev.sendOut_mem (d : Dev) (g : Nat) (p : Pkt) : (d.sendOut g p).mem = d.mem := rfl
@[simp] theorem Dev.sendOut_basin (d : Dev) (g : Nat) (p : Pkt) : (d.sendOut g p).basin = d.basin := rfl

/-- A ticket sent out changes no thread. -/
@[simp] theorem Dev.thread_sendOut (d : Dev) (g : Nat) (p : Pkt) (id : ThreadId) : (d.sendOut g p).thread id = d.thread id :=
  d.thread_modGlen g (fun x => { x with flying := x.flying ++ [p] }) (fun _ => rfl) id

/-- A ticket sent out stands last on its Glen's fabric path. -/
theorem Dev.flying_sendOut (d : Dev) (g : Nat) (p : Pkt) : ((d.sendOut g p).glen g).flying = (d.glen g).flying ++ [p] :=
  congrArg Glen.flying (d.glen_modGlen g (fun x => { x with flying := x.flying ++ [p] }))

/-- A thread-Notch charged leaves the threads and the slots as they are. -/
@[simp] theorem Dev.payThread_threads (d : Dev) (id : ThreadId) (i : Nat) : (d.payThread id i).glens.threads = d.glens.threads := by
  unfold Dev.payThread
  split <;> rfl

@[simp] theorem Dev.slot_payThread (d : Dev) (id : ThreadId) (i k : Nat) : (d.payThread id i).slot k = d.slot k := by
  unfold Dev.payThread
  split <;> rfl

end Sys2Proof.Machine

/-! SUPPORT. How a thread that fetches issues an instruction (05 R178, R179; 04 R134, R135). -/

namespace Sys2Proof.Machine

/-! ### One thread changed -/

/-- A device of which one thread only may have changed reads as before in all that is no thread. -/
theorem Dev.onlyThread.frame {d e : Dev} {id : ThreadId} {x : Thread} (h : d.onlyThread e id x) :
    e.glens.glens = d.glens.glens ∧ e.glens.locks = d.glens.locks ∧ e.regs = d.regs ∧ e.dial = d.dial ∧ e.mem = d.mem ∧
      e.basin = d.basin := by
  obtain ⟨-, -, he⟩ := h
  rw [he]
  exact ⟨rfl, rfl, rfl, rfl, rfl, rfl⟩

theorem Dev.onlyThread.glen {d e : Dev} {id : ThreadId} {x : Thread} (h : d.onlyThread e id x) (g : Nat) : e.glen g = d.glen g := by
  unfold Dev.glen
  rw [h.frame.1]

theorem Dev.onlyThread.locksHeld {d e : Dev} {id : ThreadId} {x : Thread} (h : d.onlyThread e id x) (j : ThreadId) :
    e.locksHeld j = d.locksHeld j := by
  obtain ⟨-, hlocks, -⟩ := h.frame
  unfold Dev.locksHeld
  rw [hlocks]

/-- The thread set once more. -/
theorem Dev.onlyThread.setThread {d e : Dev} {id : ThreadId} {x : Thread} (h : d.onlyThread e id x) (y : Thread) :
    d.onlyThread (e.setThread id y) id y := by
  obtain ⟨-, hj, he⟩ := h
  refine ⟨Dev.thread_setThread e id y, fun j hne => (Dev.thread_setThread_other e y hne).trans (hj j hne), ?_⟩
  generalize e.glens.threads = ts at he
  generalize e.glens.cycles = cs at he
  generalize e.glens.pace = ps at he
  subst he
  rfl

/-- A turn used changes no thread. -/
theorem Dev.onlyThread_spendCycle (d : Dev) (id : ThreadId) (n : Nat) : d.onlyThread (d.spendCycle id n) id (d.thread id) := by
  unfold Dev.spendCycle
  split
  · split <;> exact ⟨Dev.thread_congr rfl (fun _ => rfl) rfl, fun j _ => Dev.thread_congr rfl (fun _ => rfl) rfl, rfl⟩
  · exact ⟨Dev.thread_congr rfl (fun _ => rfl) rfl, fun j _ => Dev.thread_congr rfl (fun _ => rfl) rfl, rfl⟩

/-! ### Issue -/

/-- The device in which an instruction takes effect: its thread's turn used, and the thread past it. -/
def Dev.issuing (d : Dev) (id : ThreadId) (n : Nat) : Dev := (d.spendCycle id n).setThread id (d.thread id).moved

theorem Dev.onlyThread_issuing (d : Dev) (id : ThreadId) (n : Nat) : d.onlyThread (d.issuing id n) id (d.thread id).moved :=
  (d.onlyThread_spendCycle id n).setThread _

/-- What a thread that fetches meets before its instruction: no fault of the fetch and no memory error. -/
theorem Dev.fetches_iff {d : Dev} {i : Issue} : d.fetches i = true ↔ d.ready i.thread = true ∧ (d.thread i.thread).pc % 8 = 0 ∧
    (d.thread i.thread).pc < d.codeLen i.thread ∧ i.ecc = none := by
  simp [Dev.fetches, and_assoc]

theorem Dev.ready_st {d : Dev} {id : ThreadId} (h : d.ready id = true) : (d.thread id).st = .ready := by
  simp only [Dev.ready, Dev.mayIssue, Bool.and_eq_true, decide_eq_true_eq] at h
  obtain ⟨⟨⟨hst, -⟩, -⟩, -⟩ := h
  exact hst

/-- A thread that fetches is ready past its instruction. -/
theorem Dev.moved_ready {d : Dev} {i : Issue} (h : d.fetches i = true) : (d.thread i.thread).moved.st = .ready :=
  Dev.ready_st (Dev.fetches_iff.mp h).1

section
variable {d : Dev} {i : Issue} {w : Word} {ok : Bool} {f : Dev → ThreadId → Thread → Effect}

/-- An instruction whose encoding is refused for the thread faults with that code and the word. -/
theorem Dev.issue_refused {code : Nat} (hf : d.fetches i = true) (hw : (d.fetched i.thread).getD w = w)
    (he : d.encodingFault i.thread w ok = some code) :
    d.issue i w ok f = d.faultAt i.thread (d.thread i.thread).pc code w.toNat := by
  obtain ⟨hr, h8, hl, hecc⟩ := Dev.fetches_iff.mp hf
  have hn : ¬ ((d.thread i.thread).pc % 8 ≠ 0 ∨ d.codeLen i.thread ≤ (d.thread i.thread).pc) := by omega
  unfold Dev.issue
  simp only [hr, hn, hecc, hw, he, Bool.not_true, Bool.false_eq_true, if_false, ne_eq, not_true_eq_false, reduceCtorEq]

/-- An instruction that faults of its own does so without effect. -/
theorem Dev.issue_faults {code detail : Nat} (hf : d.fetches i = true) (hw : (d.fetched i.thread).getD w = w)
    (he : d.encodingFault i.thread w ok = none)
    (hx : f (d.issuing i.thread (latency (w.field 0 8))) i.thread (d.thread i.thread).moved = .inr (code, detail)) :
    d.issue i w ok f = d.faultAt i.thread (d.thread i.thread).pc code detail := by
  obtain ⟨hr, h8, hl, hecc⟩ := Dev.fetches_iff.mp hf
  have hn : ¬ ((d.thread i.thread).pc % 8 ≠ 0 ∨ d.codeLen i.thread ≤ (d.thread i.thread).pc) := by omega
  simp only [Dev.issuing, Thread.moved] at hx
  unfold Dev.issue
  simp only [hr, hn, hecc, hw, he, hx, Thread.eccRegister, Nat.add_zero, Bool.not_true, Bool.false_eq_true, if_false, ne_eq,
    not_true_eq_false, reduceCtorEq]

/-- An instruction that takes effect and leaves its thread ready or idle is then over. -/
theorem Dev.issue_ends {e : Dev} (hf : d.fetches i = true) (hw : (d.fetched i.thread).getD w = w)
    (he : d.encodingFault i.thread w ok = none)
    (hx : f (d.issuing i.thread (latency (w.field 0 8))) i.thread (d.thread i.thread).moved = .inl e)
    (hst : (e.thread i.thread).st = .ready ∨ (e.thread i.thread).st = .idle) :
    d.issue i w ok f = e.setThread i.thread (e.thread i.thread).finish := by
  obtain ⟨hr, h8, hl, hecc⟩ := Dev.fetches_iff.mp hf
  have hn : ¬ ((d.thread i.thread).pc % 8 ≠ 0 ∨ d.codeLen i.thread ≤ (d.thread i.thread).pc) := by omega
  simp only [Dev.issuing, Thread.moved] at hx
  unfold Dev.issue
  simp only [hr, hn, hecc, hw, he, hx, Thread.eccRegister, Thread.eccMemory, Dev.modThread, Nat.add_zero, Bool.not_true,
    Bool.false_eq_true, if_false, ne_eq, not_true_eq_false, reduceCtorEq]
  rcases hst with hst | hst <;> rw [hst]

/-- An instruction whose whole effect is to set its thread, still ready, changes that thread only. -/
theorem Dev.issue_onlyThread {u : Thread} (hf : d.fetches i = true) (hw : (d.fetched i.thread).getD w = w)
    (he : d.encodingFault i.thread w ok = none)
    (hx : f (d.issuing i.thread (latency (w.field 0 8))) i.thread (d.thread i.thread).moved =
      .inl ((d.issuing i.thread (latency (w.field 0 8))).setThread i.thread u))
    (hu : u.st = .ready) : d.onlyThread (d.issue i w ok f) i.thread u.finish := by
  have h1 := (d.onlyThread_issuing i.thread (latency (w.field 0 8))).setThread u
  rw [Dev.issue_ends hf hw he hx (Or.inl (by rw [Dev.thread_setThread, hu])), Dev.thread_setThread]
  exact h1.setThread u.finish

end

/-- The opcode of an instruction word: its low byte, every other field lying above it. -/
theorem insWord_opcode {opc : Nat} (h : opc < 2 ^ 8) (rd ra rb mod cnt imm : Nat) :
    (insWord opc rd ra rb mod cnt imm).field 0 8 = opc := by
  have hsum : ∀ a b c m k j : Nat, opc + a * 2 ^ 8 + b * 2 ^ 13 + c * 2 ^ 18 + m * 2 ^ 23 + k * 2 ^ 27 + j * 2 ^ 32 =
      opc + 2 ^ 8 * (a + b * 2 ^ 5 + c * 2 ^ 10 + m * 2 ^ 15 + k * 2 ^ 19 + j * 2 ^ 24) := by omega
  rw [insWord, Word.field, BitVec.extractLsb'_toNat, BitVec.toNat_ofNat, Nat.shiftRight_zero,
    Nat.mod_mod_of_dvd _ (Nat.pow_dvd_pow 2 (by decide)), hsum, Nat.add_mul_mod_self_left, Nat.mod_eq_of_lt h]

/-- A defined encoding of the packet profile raises no fault on a Glen's thread, but for a ticket's on a SERVICE thread. -/
theorem Dev.encodingFault_none {d : Dev} {g c t opc rd ra rb mod cnt imm : Nat} {ok : Bool} (ho : opc < 2 ^ 8) (hok : ok = true)
    (hc : controlOnly opc = false) (ht : ticketOnly opc = true → d.mode g c t ≠ 2) :
    d.encodingFault (.glen g c t) (insWord opc rd ra rb mod cnt imm) ok = none := by
  simp only [Dev.encodingFault, insWord_opcode ho, hc, hok]
  cases h : ticketOnly opc with
  | false => simp
  | true => simp [ht h]

/-- An undefined encoding of the packet profile is illegal on a Glen's thread. -/
theorem Dev.encodingFault_illegal {d : Dev} {g c t opc rd ra rb mod cnt imm : Nat} {ok : Bool} (ho : opc < 2 ^ 8)
    (hok : ok = false) (hc : controlOnly opc = false) :
    d.encodingFault (.glen g c t) (insWord opc rd ra rb mod cnt imm) ok = some fIllegal := by
  simp [Dev.encodingFault, insWord_opcode ho, hc, hok]

end Sys2Proof.Machine

/-! The journey of a ticket from its frame to a thread (02 R65; 04 R131; 06 R231 to R233). -/

namespace Sys2Proof.Machine

/-! ### Creation -/

/-- The ticket of a frame that did not return from a unit names the frame, and by INSTANCE the ring on which it came from the
host. Its fields lie apart, so each reads as it was put, a timestamp put after it or not. -/
theorem newTicket_fields (f : Frame) (hb : f.back = none) :
    (newTicket f).get T.INGRESS = f.ingress % 32 ∧ (newTicket f).get T.HEAD_CELL = f.head % 2 ^ 20 ∧
    (newTicket f).get T.PARTIAL = (if f.complete then 0 else 1) ∧ (newTicket f).get T.WIN_LEN = min 256 f.bytes.length ∧
    (newTicket f).get T.CLASS = f.cls0 % 8 ∧
    (newTicket f).get T.INSTANCE = (if f.ingress = 16 ∨ f.ingress = 17 then f.origin.getD 0 % 4096 else 0) := by
  have hwin : min 256 f.bytes.length % 512 = min 256 f.bytes.length := Nat.mod_eq_of_lt (by omega)
  have hpart : bit (!f.complete) % 2 = if f.complete then 0 else 1 := by cases f.complete <;> rfl
  cases hts : f.ts <;>
    simp [newTicket, hb, hts, hwin, hpart, apply_ite (· % 4096), Ticket.get_put_same, Ticket.get_put_apart, T.INGRESS,
      T.HEAD_CELL, T.CELLS, T.LEN, T.WIN_LEN, T.PARTIAL, T.CLASS, T.ARRIVAL, T.INSTANCE, T.RX_TS_NS, T.RX_TS_SEC,
      T.TS_VALID]

/-- A frame is found by its head after a change of the frame with that head that keeps the head. -/
theorem Dev.frame?_modFrame (d : Dev) (h : Nat) (g : Frame → Frame) (hg : ∀ f, (g f).head = f.head) :
    (d.modFrame h g).frame? h = (d.frame? h).map g := by
  have hhead : ∀ f : Frame, (if f.head == h then g f else f).head = f.head := fun f => by split <;> simp [hg]
  unfold Dev.frame? Dev.modFrame
  simp only [List.find?_map, Function.comp_def, hhead]
  cases hf : d.basin.frames.find? (fun f => f.head == h) with
  | none => rfl
  | some f => simp only [Option.map_some, List.find?_some hf, if_true]

/-- The first frame of an ingress that arrives and whose header window was complete in an earlier Notch. -/
def Dev.created? (d : Dev) (i : Nat) : Option Frame :=
  d.basin.frames.find? (fun f => f.ingress == i && decide (f.stage = .arriving) &&
    f.winNotch.any (fun n => decide (n < d.dial.notch)))

/-- Without a frame of an ingress that arrives with its window complete before this Notch there is nothing to create. -/
theorem Dev.created?_eq_none {d : Dev} {i : Nat} (h : ∀ f ∈ d.basin.frames, f.ingress = i → f.stage = .arriving →
    ∀ n, f.winNotch = some n → d.dial.notch ≤ n) : d.created? i = none := by
  refine List.find?_eq_none.mpr fun f hf hc => ?_
  simp only [Bool.and_eq_true, beq_iff_eq, decide_eq_true_eq, Option.any_eq_true] at hc
  obtain ⟨⟨hi, hst⟩, n, hn, hlt⟩ := hc
  exact Nat.not_le.mpr hlt (h f hf hi hst n hn)

theorem exec_ticketCreate (i : Nat) (s : State) : exec (.ticketCreate i) s = execTicketCreate i s := rfl
theorem exec_deal (h : Hop) (s : State) : exec (.deal h) s = execDeal h s := rfl
theorem exec_dispatch (h : Hop) (s : State) : exec (.dispatch h) s = execDispatch h s := rfl

/-- TICKET_CREATE with a frame to create for: its ticket waits last at the dealer, and the frame is ticketed. -/
theorem ticketCreate_leads {s : State} {i : Nat} {f : Frame} (ha : s.dev.awake = true) (hf : s.dev.flows = true)
    (hc : s.dev.created? i = some f) :
    s.leads (.ticketCreate i) (fun e =>
      e.defile.waiting = s.dev.defile.waiting ++ [{ tk := newTicket f, win := f.bytes.take 256 }] ∧
      e.frame? f.head = (s.dev.frame? f.head).map (fun x => { x with stage := .ticketed, tk := newTicket f }) ∧
      e.regs = s.dev.regs) := by
  refine State.leads_of_live (exec_ticketCreate i s) ha hf ?_
  unfold Dev.created? at hc
  simp only [hc]
  exact ⟨rfl, Dev.frame?_modFrame _ _ _ (fun _ => rfl), rfl⟩

/-- TICKET_CREATE without one changes nothing. -/
theorem ticketCreate_idle {s : State} {i : Nat} (ha : s.dev.awake = true) (hf : s.dev.flows = true)
    (hc : s.dev.created? i = none) : s.leads (.ticketCreate i) (fun e => e = s.dev) := by
  refine State.leads_of_live (exec_ticketCreate i s) ha hf ?_
  unfold Dev.created? at hc
  simp only [hc]

/-! ### Dealing -/

theorem mem_enqueue (now : Nat) (p : Pkt) (q : List (Nat × Pkt)) : (now, p) ∈ enqueue now p q := by
  induction q with
  | nil => exact List.mem_cons_self
  | cons x xs ih =>
    rw [enqueue]
    split
    · exact List.mem_cons_self
    · exact List.mem_cons_of_mem x ih

/-- A ticket as the dealer stamps it for slot `k` and SEQ `seq` of epoch `ep` (06 R232). -/
def Ticket.stamped (t : Ticket) (seq k ep : Nat) : Ticket := ((t.put T.SEQ seq).put T.SLOT k).put T.EPOCH ep

/-- The stamp of a ticket reads back. -/
theorem Ticket.stamped_fields {t : Ticket} {seq k ep : Nat} (ht : t.q.length = 8) (hs : seq < 2 ^ 32) (hk : k < 16)
    (he : ep < 2 ^ 8) : (t.stamped seq k ep).get T.SEQ = seq ∧ (t.stamped seq k ep).get T.SLOT = k ∧
      (t.stamped seq k ep).get T.EPOCH = ep := by
  simp [Ticket.stamped, Ticket.get_put_same, Ticket.get_put_apart, T.SEQ, T.SLOT, T.EPOCH, ht, hk]
  exact ⟨hs, he⟩

/-- The dealer's SEQ of an ingress rises by one modulo 2^32 as it deals. -/
theorem Dev.dealSeq_dealTo (d : Dev) (i k : Nat) (p : Pkt) : (d.dealTo i k p).dealSeq i = (d.dealSeq i + 1) % 2 ^ 32 :=
  Dev.get_put_same ((d.modSlot k _).modGlen _ _) R.DEFILE_ING_DEAL_SEQ (d.dealSeq i + 1) 0 i (by decide)

/-- The queue of the slot dealt to takes the stamped ticket. -/
theorem Dev.queue_dealTo (d : Dev) (i k : Nat) (p : Pkt) : ((d.dealTo i k p).slot k).queue =
    enqueue d.dial.notch { p with tk := p.tk.stamped (d.dealSeq i) k (d.get R.GLEN_SLOT_EPOCH 0 k) } (d.slot k).queue :=
  congrArg Slot.queue (Dev.slot_modSlot d k (fun s => { s with queue := enqueue d.dial.notch _ s.queue }))

/-- DEAL of an ingress that may deal is `Dev.dealTo` with its oldest ticket. -/
theorem deal_leads {s : State} {i k : Nat} {p : Pkt} (ha : s.dev.awake = true) (hf : s.dev.flows = true)
    (hp : s.dev.defile.waiting.find? (fun p => p.tk.get T.INGRESS == i) = some p) (hk : s.dev.nextSlot i = some k)
    (hfit : s.dev.seqFits i = true) (hn : (assoc s.dev.defile.dealtNow i).getD 0 < 256) :
    s.leads (.deal ⟨i, false⟩) (fun e => e = s.dev.dealTo i k p) := by
  refine State.leads_of_live (exec_deal ⟨i, false⟩ s) ha hf ?_
  simp [hp, hk, hfit, hn]

/-! ### Dispatch -/

/-- A thread as dispatch starts it with a ticket: ready at the packet entry, its registers 0, still halted or stepping. -/
def Dev.started (d : Dev) (g : Nat) (id : ThreadId) (p : Pkt) : Thread :=
  { st := .ready, pc := (d.glen g).entryPacket, pkt := some p, halted := (d.thread id).halted
    stepping := (d.thread id).stepping }

/-- DISPATCH to an idle thread takes the head of the queue and starts the thread with it. -/
theorem dispatch_leads {s : State} {k g c t : Nat} {x : Nat × Pkt} {rest : List (Nat × Pkt)} {ts : List Nat}
    (ha : s.dev.awake = true) (hf : s.dev.flows = true) (hg : s.dev.get R.GLEN_SLOT_PHYS 0 k = g)
    (hh : s.dev.glHolds g = true) (hq : (s.dev.slot k).queue = x :: rest) (hc : s.dev.dispatchCore g = some c)
    (ht : s.dev.idleThreads g c = t :: ts) :
    s.leads (.dispatch ⟨k, false⟩) (fun e => (e.slot k).queue = rest ∧
      e.thread (.glen g c t) = s.dev.started g (.glen g c t) x.2) := by
  refine State.leads_of_live (exec_dispatch ⟨k, false⟩ s) ha hf ?_
  simp only [hg, hh, hq, hc, ht, List.head?_cons, Bool.not_true, Bool.false_eq_true, if_false]
  refine ⟨?_, Dev.thread_of_listed ?_⟩
  · rw [Dev.slot_payThread]
    exact congrArg Slot.queue (Dev.slot_modSlot s.dev k (fun s => { s with queue := rest }))
  · rw [Dev.payThread_threads]
    exact assoc_assocSet_same _ _ _

/-! ### The journey of a ticket to its thread -/

/-- Settles O24: creation appends the first frame's ticket to those that wait, dealing stamps the oldest of them into the open
slot, and dispatch hands the head of the slot's queue to the lowest idle thread of the core chosen. -/
theorem ticketsAreCreatedDealtAndDispatched : Obligations.TicketsAreCreatedDealtAndDispatched := by
  refine ⟨fun s i ha hf => ⟨fun f hc => ticketCreate_leads ha hf hc,
    fun h => ticketCreate_idle ha hf (Dev.created?_eq_none h)⟩, newTicket_fields, ?_, ?_⟩
  · intro s i k p ha hf _ hk hp hq hslot hfit hn
    obtain ⟨hseq, hsl, hep⟩ := Ticket.stamped_fields (k := k) hq (s.dev.get_lt R.DEFILE_ING_DEAL_SEQ 0 i) hk
      (s.dev.get_lt R.GLEN_SLOT_EPOCH 0 k)
    obtain ⟨e, he, rfl⟩ := deal_leads ha hf hp hslot hfit hn
    have hmem := mem_enqueue s.dev.dial.notch
      { p with tk := p.tk.stamped (s.dev.dealSeq i) k (s.dev.get R.GLEN_SLOT_EPOCH 0 k) } (s.dev.slot k).queue
    rw [← Dev.queue_dealTo] at hmem
    exact ⟨_, he, rfl, Dev.dealSeq_dealTo _ _ _ _, _, hmem, rfl, rfl, hseq, hsl, hep⟩
  · intro s k c t x rest ts ha hf hh hq hc ht
    exact dispatch_leads ha hf rfl hh hq hc ht

end Sys2Proof.Machine

/-! TLD, TST, TLDQ, STAT and EMIT of a PACKET thread that fetches (05 R194 to R196, R203). -/

namespace Sys2Proof.Machine

theorem exec_tld (i : Issue) (rd imm : Nat) (s : State) : exec (.tld i rd imm) s = execTld i rd imm s := rfl
theorem exec_tst (i : Issue) (ra imm : Nat) (s : State) : exec (.tst i ra imm) s = execTst i ra imm s := rfl
theorem exec_tldq (i : Issue) (rd imm : Nat) (s : State) : exec (.tldq i rd imm) s = execTldq i rd imm s := rfl
theorem exec_stat (i : Issue) (rd : Nat) (s : State) : exec (.stat i rd) s = execStat i rd s := rfl
theorem exec_emit (i : Issue) (s : State) : exec (.emit i) s = execEmit i s := rfl

theorem Thread.setReg_st (t : Thread) (r : Nat) (v : Word) : (t.setReg r v).st = t.st := by
  unfold Thread.setReg
  split <;> rfl

/-- The immediate of a well-formed instruction is its 32 bits. -/
theorem immU_eq {n : Nat} (hn : n < 2 ^ 32) : immU n = n := Nat.mod_eq_of_lt hn

/-- INSTANCE is a field that programs may change, but on host ingress. -/
theorem Ticket.programMay_iff {t : Ticket} {f : TF} : t.programMay f = true ↔
    f.prog = true ∧ (f = T.INSTANCE → t.get T.INGRESS ≠ 16 ∧ t.get T.INGRESS ≠ 17) := by
  simp [Ticket.programMay, Decidable.imp_iff_not_or]

/-- An instruction on the window of a thread that holds a ticket, whose whole effect is to set the thread, still ready. -/
theorem Dev.winIssue_onlyThread {d : Dev} {i : Issue} {w : Word} {ok : Bool} {f : Dev → ThreadId → Thread → Pkt → Effect}
    {p : Pkt} {u : Thread} (hf : d.fetches i = true) (hw : (d.fetched i.thread).getD w = w)
    (he : d.encodingFault i.thread w ok = none) (hp : (d.thread i.thread).pkt = some p)
    (hx : f (d.issuing i.thread (latency (w.field 0 8))) i.thread (d.thread i.thread).moved p =
      .inl ((d.issuing i.thread (latency (w.field 0 8))).setThread i.thread u))
    (hu : u.st = .ready) : d.onlyThread (d.winIssue i w ok f) i.thread u.finish := by
  have hp' : (d.thread i.thread).moved.pkt = some p := hp
  exact Dev.issue_onlyThread hf hw he (by simp only [hp', hx]) hu

/-- The status word reads nothing that one thread's change touches. -/
theorem Dev.onlyThread.statusWord {d e : Dev} {id : ThreadId} {x : Thread} (h : d.onlyThread e id x) (j : ThreadId) (t : Thread) :
    e.statusWord j t = d.statusWord j t := by
  obtain ⟨-, -, hregs, hdial, -, -⟩ := h.frame
  simp only [Dev.statusWord, h.locksHeld, Dev.get, hregs, hdial]

/-- A ticket sent out after a change of one thread, and that thread set once more. -/
theorem Dev.onlyThread.setThread_sendOut {d e : Dev} {id : ThreadId} {x : Thread} (hx : d.onlyThread e id x) (g : Nat) (p : Pkt)
    (y : Thread) :
    ((e.sendOut g p).setThread id y).thread id = y ∧
    (((e.sendOut g p).setThread id y).glen g).flying = (d.glen g).flying ++ [p] ∧
    (∀ j, j ≠ id → ((e.sendOut g p).setThread id y).thread j = d.thread j) ∧
    ((e.sendOut g p).setThread id y).regs = d.regs ∧ ((e.sendOut g p).setThread id y).mem = d.mem ∧
    ((e.sendOut g p).setThread id y).basin = d.basin := by
  obtain ⟨-, -, hregs, -, hmem, hbasin⟩ := hx.frame
  refine ⟨Dev.thread_setThread _ _ _, ?_, fun j hj => ?_, by simp [hregs], by simp [hmem], by simp [hbasin]⟩
  · rw [Dev.glen_setThread, Dev.flying_sendOut, hx.glen]
  · obtain ⟨-, hother, -⟩ := hx
    rw [Dev.thread_setThread_other _ _ hj, Dev.thread_sendOut, hother j hj]

/-- An instruction whose effect is to set its thread idle and send a ticket out is then over. -/
theorem Dev.issue_sendOut {d : Dev} {i : Issue} {w : Word} {ok : Bool} {f : Dev → ThreadId → Thread → Effect} {g : Nat} {p : Pkt}
    {u : Thread} (hf : d.fetches i = true) (hw : (d.fetched i.thread).getD w = w) (he : d.encodingFault i.thread w ok = none)
    (hx : f (d.issuing i.thread (latency (w.field 0 8))) i.thread (d.thread i.thread).moved =
      .inl (((d.issuing i.thread (latency (w.field 0 8))).setThread i.thread u).sendOut g p))
    (hu : u.st = .idle) : d.issue i w ok f =
      (((d.issuing i.thread (latency (w.field 0 8))).setThread i.thread u).sendOut g p).setThread i.thread u.finish := by
  have hid : (((d.issuing i.thread (latency (w.field 0 8))).setThread i.thread u).sendOut g p).thread i.thread = u := by
    rw [Dev.thread_sendOut, Dev.thread_setThread]
  rw [Dev.issue_ends hf hw he hx (Or.inr (by rw [hid, hu])), hid]

/-- A thread whose ticket has been sent out: idle, without a ticket (04 R132; 05 R203). -/
def Thread.emitted (t : Thread) : Thread := { t with st := .idle, pkt := none }

section
variable {s : State} {g c h r n : Nat} (ha : s.dev.awake = true) (hf : s.dev.fetches { thread := .glen g c h } = true)
include ha hf

/-- TLD reads the field that its selector names. -/
theorem tld_runs {p : Pkt} {f : TF} (hp : (s.dev.thread (.glen g c h)).pkt = some p) (hm : s.dev.mode g c h ≠ 2)
    (hs : selector n = some f) :
    s.runs (.tld { thread := .glen g c h } r n) (fun e => s.dev.onlyThread e (.glen g c h)
      ((s.dev.thread (.glen g c h)).moved.setReg r
        (if f = T.WIN_DELTA then BitVec.ofInt 64 p.tk.delta else BitVec.ofNat 64 (p.tk.get f))).finish) :=
  State.runs_of_act rfl (exec_tld _ _ _ s) ha fun hw =>
    Dev.winIssue_onlyThread hf hw (Dev.encodingFault_none (by decide) (by rw [hs]; rfl) (by decide) (fun _ => hm)) hp
      (by rw [hs]) ((Thread.setReg_st _ _ _).trans (Dev.moved_ready hf))

/-- TST of a field that the program may change sets it from the register. -/
theorem tst_runs {p : Pkt} {f : TF} (hp : (s.dev.thread (.glen g c h)).pkt = some p) (hm : s.dev.mode g c h ≠ 2)
    (hs : selector n = some f) (hmay : p.tk.programMay f = true) :
    s.runs (.tst { thread := .glen g c h } r n) (fun e => s.dev.onlyThread e (.glen g c h)
      { (s.dev.thread (.glen g c h)).moved with
        pkt := some { p with tk := p.tk.put f ((s.dev.thread (.glen g c h)).reg r).toNat } }.finish) :=
  State.runs_of_act rfl (exec_tst _ _ _ s) ha fun hw =>
    Dev.winIssue_onlyThread hf hw (Dev.encodingFault_none (by decide)
        (by rw [hs]; exact (Ticket.programMay_iff.mp hmay).1) (by decide) (fun _ => hm)) hp
      (by simp only [hs, hmay, if_true]; rfl) (Dev.moved_ready hf)

/-- TST of a program field that this ticket keeps changes nothing but the thread's place. -/
theorem tst_keeps {p : Pkt} {f : TF} (hp : (s.dev.thread (.glen g c h)).pkt = some p) (hm : s.dev.mode g c h ≠ 2)
    (hs : selector n = some f) (hprog : f.prog = true) (hmay : p.tk.programMay f = false) :
    s.runs (.tst { thread := .glen g c h } r n) (fun e => s.dev.onlyThread e (.glen g c h)
      (s.dev.thread (.glen g c h)).moved.finish) :=
  State.runs_of_act rfl (exec_tst _ _ _ s) ha fun hw =>
    Dev.winIssue_onlyThread hf hw (Dev.encodingFault_none (by decide) (by rw [hs]; exact hprog) (by decide) (fun _ => hm)) hp
      (by simp [hs, hmay, Dev.issuing]) (Dev.moved_ready hf)

/-- TST of a field that is no program's is an illegal instruction. -/
theorem tst_refused {f : TF} (hs : selector n = some f) (hprog : f.prog = false) :
    s.runs (.tst { thread := .glen g c h } r n) (fun e =>
      e = s.dev.faultAt (.glen g c h) (s.dev.thread (.glen g c h)).pc fIllegal (insWord 0x61 0 r 0 0 0 n).toNat) :=
  State.runs_of_act rfl (exec_tst _ _ _ s) ha fun hw =>
    Dev.issue_refused hf hw (Dev.encodingFault_illegal (by decide) (by rw [hs]; exact hprog) (by decide))

/-- TLDQ reads a quadword. -/
theorem tldq_runs {p : Pkt} (hp : (s.dev.thread (.glen g c h)).pkt = some p) (hm : s.dev.mode g c h ≠ 2) (hn : immU n < 8) :
    s.runs (.tldq { thread := .glen g c h } r n) (fun e => s.dev.onlyThread e (.glen g c h)
      ((s.dev.thread (.glen g c h)).moved.setReg r (p.tk.quad (immU n))).finish) :=
  State.runs_of_act rfl (exec_tldq _ _ _ s) ha fun hw =>
    Dev.winIssue_onlyThread hf hw (Dev.encodingFault_none (by decide) (decide_eq_true hn) (by decide) (fun _ => hm)) hp
      rfl ((Thread.setReg_st _ _ _).trans (Dev.moved_ready hf))

/-- STAT reads the status word and clears lock-broken. -/
theorem stat_runs :
    s.runs (.stat { thread := .glen g c h } r) (fun e => s.dev.onlyThread e (.glen g c h)
      ({ (s.dev.thread (.glen g c h)).moved with lockBroken := false }.setReg r
        (s.dev.statusWord (.glen g c h) (s.dev.thread (.glen g c h)))).finish) :=
  State.runs_of_act rfl (exec_stat _ _ s) ha fun hw =>
    Dev.issue_onlyThread hf hw (Dev.encodingFault_none (by decide) rfl (by decide) (fun ht => absurd ht (by decide)))
      (by rw [(s.dev.onlyThread_issuing _ _).statusWord]; rfl) ((Thread.setReg_st _ _ _).trans (Dev.moved_ready hf))

/-- EMIT of a thread that holds no lock and no stage sends its ticket toward the Defile, and the thread idles. -/
theorem emit_sends {p : Pkt} (hp : (s.dev.thread (.glen g c h)).pkt = some p) (hl : s.dev.locksHeld (.glen g c h) = [])
    (hs : (s.dev.thread (.glen g c h)).stage = none) :
    s.runs (.emit { thread := .glen g c h }) (fun e =>
      e.thread (.glen g c h) = { (s.dev.thread (.glen g c h)).moved with st := .idle, pkt := none }.finish ∧
      (e.glen g).flying = (s.dev.glen g).flying ++ [p] ∧ (∀ j, j ≠ .glen g c h → e.thread j = s.dev.thread j) ∧
      e.regs = s.dev.regs ∧ e.mem = s.dev.mem ∧ e.basin = s.dev.basin) := by
  refine State.runs_of_act rfl (exec_emit _ s) ha fun hw => ?_
  have hissue := s.dev.onlyThread_issuing (.glen g c h) (latency ((insWord 0x90).field 0 8))
  have hp' : (s.dev.thread (.glen g c h)).moved.pkt = some p := hp
  have hfree : ¬ ((s.dev.locksHeld (.glen g c h)).length ≠ 0 ∨ (s.dev.thread (.glen g c h)).moved.stage.isSome = true) := by
    simp [hl, show (s.dev.thread (.glen g c h)).moved.stage = none from hs]
  have hidle := hissue.setThread (s.dev.thread (.glen g c h)).moved.emitted
  rw [Dev.issue_sendOut (g := g) (p := p) (u := (s.dev.thread (.glen g c h)).moved.emitted) hf hw
    (Dev.encodingFault_none (by decide) rfl (by decide) (fun ht => absurd ht (by decide)))
    (by simp only [hp', hissue.locksHeld, if_neg hfree]; rfl) rfl]
  exact hidle.setThread_sendOut g p _

/-- EMIT of a thread that holds a lock or a stage stops its core. -/
theorem emit_holding {p : Pkt} (hp : (s.dev.thread (.glen g c h)).pkt = some p)
    (hold : s.dev.locksHeld (.glen g c h) ≠ [] ∨ (s.dev.thread (.glen g c h)).stage ≠ none) :
    s.runs (.emit { thread := .glen g c h }) (fun e =>
      e = s.dev.faultAt (.glen g c h) (s.dev.thread (.glen g c h)).pc fEmitHolding
        ((s.dev.locksHeld (.glen g c h)).length + 16 * bit (s.dev.thread (.glen g c h)).stage.isSome)) := by
  refine State.runs_of_act rfl (exec_emit _ s) ha fun hw => ?_
  have hissue := s.dev.onlyThread_issuing (.glen g c h) (latency ((insWord 0x90).field 0 8))
  have hp' : (s.dev.thread (.glen g c h)).moved.pkt = some p := hp
  have hold' : (s.dev.locksHeld (.glen g c h)).length ≠ 0 ∨ (s.dev.thread (.glen g c h)).moved.stage.isSome = true :=
    hold.imp (fun hl => mt List.length_eq_zero_iff.mp hl) Option.ne_none_iff_isSome.mp
  refine Dev.issue_faults hf hw (Dev.encodingFault_none (by decide) rfl (by decide) (fun ht => absurd ht (by decide))) ?_
  simp only [hp', hissue.locksHeld, hold', if_true]
  rfl

/-- EMIT of a thread without a ticket stops its core. -/
theorem emit_without_ticket (hp : (s.dev.thread (.glen g c h)).pkt = none) :
    s.runs (.emit { thread := .glen g c h }) (fun e =>
      e = s.dev.faultAt (.glen g c h) (s.dev.thread (.glen g c h)).pc fEmitService 0) := by
  refine State.runs_of_act rfl (exec_emit _ s) ha fun hw => ?_
  have hp' : (s.dev.thread (.glen g c h)).moved.pkt = none := hp
  exact Dev.issue_faults hf hw (Dev.encodingFault_none (by decide) rfl (by decide) (fun ht => absurd ht (by decide)))
    (by simp only [hp'])
end

/-- Settles O38: each ticket instruction by its own law; TST by whether the program may change the field of this ticket. -/
theorem ticketInstructionsReadAndSendTheTicket : Obligations.TicketInstructionsReadAndSendTheTicket := by
  intro s g c h r n
  dsimp only
  intro ha hf hn
  refine ⟨fun p f hp hm hs => ?_, fun p hp hm hn8 => ?_, stat_runs ha hf, fun p hp => ⟨fun hl hs => emit_sends ha hf hp hl hs,
    fun hold => ?_⟩, fun hp => emit_without_ticket ha hf hp⟩
  · have hsel : selector n = some f := by rw [selector, immU_eq hn, hs]
    refine ⟨tld_runs ha hf hp hm hsel, fun hprog hi => tst_runs ha hf hp hm hsel (Ticket.programMay_iff.mpr ⟨hprog, hi⟩),
      fun hi hhost => tst_keeps ha hf hp hm hsel (by rw [hi]; rfl) ?_, fun hprog => tst_refused ha hf hsel hprog⟩
    rw [← Bool.not_eq_true, Ticket.programMay_iff]
    rintro ⟨-, hno⟩
    exact hhost.elim (hno hi).1 (hno hi).2
  · have hq := tldq_runs ha hf (r := r) hp hm (immU_eq hn ▸ hn8)
    rw [immU_eq hn] at hq
    exact hq
  · have hd : 16 * bit (s.dev.thread (.glen g c h)).stage.isSome = if (s.dev.thread (.glen g c h)).stage.isSome then 16 else 0 := by
      cases (s.dev.thread (.glen g c h)).stage <;> rfl
    rw [← hd]
    exact emit_holding ha hf hp hold

end Sys2Proof.Machine
